-- ==== Sys2Proof/Word.lean ====
section
/-! DEFINITION. The word types of the model: the things the manual treats as bits. -/

namespace Sys2Proof

/-- A byte of a layout (12 R216). -/
abbrev Byte := BitVec 8

/-- The 64-bit factory identity of a home unit. -/
abbrev Tag := BitVec 64

/-- A value of the 40-bit round counter: it wraps at the end of its range (00_scope.md, units). -/
abbrev Round := BitVec 40

/-- A station number as the bus carries it: 0..30, and 31 for all stations (10 R186). -/
abbrev Station := BitVec 5

/-- A home index 0..63 (01 R2). -/
abbrev HomeIdx := Fin 64

end Sys2Proof
end

