-- ==== Sys2Proof/Syntax.lean ====
section
/-! DEFINITION. The commands of the block: one constructor of `Instr` for each row of spec/opcode_table.json, with
the operands the rules give it. A request or a peer message carries its operands in the body of the message at the
inbox head, so its constructor has none (notes/assumptions/7.md). -/

namespace Sys2Proof

/-- The reach class strap (R1): S or L. -/
inductive Reach where
  | short
  | long
  deriving DecidableEq, Repr

/-- Which part of a round boundary a ROUND_BOUNDARY command takes (DESIGN CHOICE, log 5). The counts of a boundary
move when it opens, and its map is built when the planner hands the map over; the rules let other events of the
same boundary be taken before the map or after it (R66, R89, R93, R95, R101, R131). -/
inductive BoundaryPart where
  /-- the opening and then, in a mapped round, the map -/
  | whole
  /-- the opening alone: a mapped header stays open -/
  | opening
  /-- the opening alone, with some decays of the boundary held back for the close that comes at it: where the scores
  decay (R145), a home that stands in the list decays after as many of its gains of that close as it stands there times,
  and after the last of them at the latest (R120 gives both orders; log 32) -/
  | openingHolding (decays : List HomeIdx)
  /-- the map alone: it closes the open header -/
  | map
  deriving DecidableEq, Repr

/-- What the receiver finds in one Data, Poll or Test window (R109, R110, R116, R218). -/
structure BurstObs where
  /-- home index of the window's grant -/
  index : HomeIdx
  /-- where a delimiter begins, in phase units from the start of quantum 0; absent where there is none -/
  delimiter : Option Nat
  /-- the level on the preamble quantum -/
  level : Byte
  /-- the 16 bytes of the header quantum -/
  header : List Byte
  /-- the bytes of the payload quanta -/
  payload : List Byte
  deriving DecidableEq, Repr

/-- What the receiver finds in one ranging span: the delimiter position and the 32 body bytes of each burst, in the
order of arrival (R30, R218). -/
structure RangingObs where
  index : HomeIdx
  bursts : List (Nat × List Byte)
  deriving DecidableEq, Repr

/-- What a closing round brought (R107, R109). -/
structure RoundObs where
  /-- the Lit quanta, ascending -/
  lit : List Nat
  windows : List BurstObs
  spans : List RangingObs
  /-- the homes whose fourth miss of this close is taken after its gains (R144 gives both orders; log 8) -/
  lossAfterGains : List HomeIdx
  /-- the homes whose fourth miss of this close is taken after the rogue monitor has taken the round (R139 gives both
  orders; log 8) -/
  lossAfterHand : List HomeIdx
  deriving DecidableEq, Repr

/-- What a bit time of the shelf bus shows a port that hears no message in it (R185). -/
inductive BitTime where
  /-- neither SBCK nor SBDA is driven -/
  | idle
  /-- marked by the clock, or SBDA is held low -/
  | busy
  deriving DecidableEq, Repr

/-- A message as the bits on the shelf bus give it (R186), and the bit times that have passed before its start bit
(R185). The body holds the bytes that were sampled. -/
structure BusMessage where
  before : List BitTime
  cls : BitVec 2
  kind : BitVec 6
  sender : Station
  target : Station
  length : BitVec 6
  body : List Byte
  check : BitVec 16
  deriving DecidableEq, Repr

/-- The commands, one constructor for each row of spec/opcode_table.json. -/
inductive Instr where
  /-- FULL_RESET (R1): the straps STN0..STN4 and REACH as they stand at its end -/
  | fullReset (station : Station) (reach : Reach)
  /-- ROUND_BOUNDARY (R78) -/
  | roundBoundary (part : BoundaryPart)
  /-- RATING_COMPLETE (R178) -/
  | ratingComplete
  /-- IDLE_FILL_END (R82) -/
  | idleFillEnd
  /-- DISCOVERY_DUE (R21) -/
  | discoveryDue
  /-- DISCOVERY_BURST (R24): the quantum in which the burst begins and its 32 body bytes -/
  | discoveryBurst (arrival : Nat) (body : List Byte)
  /-- ROUND_CLOSE (R117) -/
  | roundClose (obs : RoundObs)
  /-- APPROVAL_TIMEOUT (R39) -/
  | approvalTimeout (index : HomeIdx)
  /-- CLAIM_WINDOW_EXPIRY (R47) -/
  | claimWindowExpiry (index : HomeIdx)
  /-- DOZE_EXPIRY (R95) -/
  | dozeExpiry (index : HomeIdx)
  /-- BACKOFF_EXPIRY (R143) -/
  | backoffExpiry
  /-- EPOCH_TIMER_EXPIRY (R175) -/
  | epochTimerExpiry
  /-- RING_SEGMENT_ADVANCE (R156) -/
  | ringSegmentAdvance
  /-- TRANSMIT_SILENCE_DECLARED (R84): bit periods without a transition that have passed -/
  | transmitSilenceDeclared (periods : Nat)
  /-- TRANSMIT_SILENCE_CLEAR (R84): a bit period that holds a transition -/
  | transmitSilenceClear
  /-- DOWNSTREAM_FRAME (R149): the index byte, the frame bytes, and the bytes the feeder can still send before the
  next round boundary -/
  | downstreamFrame (index : Byte) (bytes : List Byte) (room : Nat)
  /-- MESSAGE_RECEIVED (R190) -/
  | messageReceived (m : BusMessage)
  /-- MESSAGE_SEND_START (R188): the bit times that have passed, and the bits the station samples from its start bit
  on; a bit not listed is as the station drives it -/
  | messageSendStart (before : List BitTime) (bus : List Bool)
  /-- TAKE_SLOT (R193): whether the slot was driven 0 -/
  | takeSlot (taken : Bool)
  /-- CLAIM (R49) -/
  | claim
  /-- COUNTER_CLAIM (R53) -/
  | counterClaim
  /-- BAR (R57) -/
  | bar
  /-- FOREIGN_MESSAGE (R201) -/
  | foreignMessage
  /-- UNKNOWN_KIND (R205) -/
  | unknownKind
  /-- SETUP (R209) -/
  | setup
  /-- QUERY_STATUS (R211) -/
  | queryStatus
  /-- READ_COUNTERS (R213) -/
  | readCounters
  /-- TREE_RESTART (R214) -/
  | treeRestart
  /-- READ_HOME (R16) -/
  | readHome
  /-- REMOVE_HOME (R17) -/
  | removeHome
  /-- APPROVE (R40) -/
  | approve
  /-- DENY (R41) -/
  | deny
  /-- RETEST (R42) -/
  | retest
  /-- ADD_BAR (R58) -/
  | addBar
  /-- CLEAR_BAR (R59) -/
  | clearBar
  /-- READ_BAR_LIST (R60) -/
  | readBarList
  /-- SET_SHARE (R76) -/
  | setShare
  /-- WAKE_HOME (R96) -/
  | wakeHome
  /-- START_ISOLATION (R130) -/
  | startIsolation
  /-- RELEASE_MUTE (R146) -/
  | releaseMute
  /-- LOAD_RATES (R168) -/
  | loadRates
  /-- LOAD_RING (R169) -/
  | loadRing
  /-- CLOSE_EPOCH (R176) -/
  | closeEpoch
  /-- READ_USAGE_SUMMARY (R180) -/
  | readUsageSummary
  /-- READ_USAGE_VOLUMES (R181) -/
  | readUsageVolumes
  /-- RELEASE_BANK (R182) -/
  | releaseBank
  /-- DOWNSTREAM_FRAME_SENT (R81): bytes the feeder can still send before the next round boundary -/
  | downstreamFrameSent (room : Nat)
  /-- CLOCK_STOPS_BEFORE_TAKE_SLOT (R192) -/
  | clockStopsBeforeTakeSlot
  deriving DecidableEq, Repr

end Sys2Proof
end

