-- ==== Sys2Proof/Decode.lean ====
section
/-! DEFINITION. The command a word spells. No row of spec/opcode_table.json gives bits: the commands are events and bus
requests, not words (log 3). -/

namespace Sys2Proof

/-- The command that `w`, read as `nbits` bits of the table's fields, spells: none, as no row of the table gives
fields. -/
def decodeTableWord (_nbits _w : Nat) : Option Instr := none

end Sys2Proof
end

