-- ==== Sys2Proof/Machine/State.lean ====
section
/-! DEFINITION. The state of the DT-64 as plain data, block by block (00_scope.md, block diagram), and the state
right after a full reset. -/

namespace Sys2Proof.Machine

open Sys2Proof

/-! ### The home table (chapter 1) -/

/-- The eight entry states (R3), in the order of their codes (R216). -/
inductive EState where
  | vacant | ranging | testing | held | active | dozing | muted | retired
  deriving DecidableEq, Repr

inductive ClaimStatus where
  | pending | confirmed
  deriving DecidableEq, Repr

inductive MuteReason where
  | convicted | misbehaving
  deriving DecidableEq, Repr

inductive RetireReason where
  | lost | removed | dropped | restart
  deriving DecidableEq, Repr

/-- One record of the home table (R2). A field of `Option` type is absent where it is `none`. `probe` is the probe
muted field; R129 says when it is present. -/
structure Entry where
  state : EState
  tag : Option Tag
  delay : Option Nat
  level : Option Nat
  share : Nat
  weight : Nat
  balance : Int
  backlog : Option Nat
  miss : Nat
  score : Nat
  claim : Option ClaimStatus
  wish : Option Bool
  dozeLeft : Option Nat
  probe : Bool
  mute : Option MuteReason
  retire : Option RetireReason
  deriving DecidableEq, Repr

/-- The directives of a round header (R79). -/
inductive Directive where
  | assign (tag : Tag) (index : HomeIdx)
  | setDelay (index : HomeIdx) (delay : Nat)
  | leaveIndex (index : HomeIdx)
  | leaveTag (tag : Tag)
  | dozeGranted (index : HomeIdx) (rounds : Nat)
  | wake (index : HomeIdx)
  deriving DecidableEq, Repr

/-- The stages of an enrolment (R28). A span or a Test window that is outstanding was placed in the map of an upstream
round: the outcome of an earlier one, of an enrolment that has ended, is not its outcome (R30, R36, R43). -/
inductive Stage where
  | awaitingAssign | spanDue | spanOutstanding (round : Round) | awaitingSetDelay
  | testDue | testOutstanding (round : Round) | waitingApproval
  deriving DecidableEq, Repr

/-- The progress record of an entry being enrolled (R28). -/
structure Progress where
  coarse : Nat
  tries : Nat
  tests : Nat
  stage : Stage
  waiting : Option Directive
  clock : Option Nat
  deriving DecidableEq, Repr

/-- A Retest (R42): none pending, asked for, or placed in the map of an upstream round. -/
inductive Retest where
  | idle | asked | placed (round : Round)
  deriving DecidableEq, Repr

/-- A request for ranging in place (R33, R115). -/
inductive InPlace where
  | idle | asked (centre : Nat) | placed (round : Round)
  deriving DecidableEq, Repr

/-- The delay-correction marker (R114). -/
inductive Marker where
  | clear | queued | sent (round : Round)
  deriving DecidableEq, Repr

/-- Everything kept for one home index: the home-table entry, and what other blocks keep for the index. -/
structure Home where
  /-- the home table's record (R2) -/
  entry : Entry
  /-- the enrolment controller's progress record (R28) -/
  progress : Option Progress
  /-- the enrolment controller's pending retest (R42) -/
  retest : Retest
  /-- the enrolment controller's request for ranging in place (R115) -/
  inPlace : InPlace
  /-- the claim unit's claim window (R47) -/
  window : Option Nat
  /-- the round planner's kept Wake (R80) -/
  keptWake : Bool
  /-- the burst receiver's delay-correction marker (R114) -/
  marker : Marker
  deriving DecidableEq, Repr

/-! ### Claim unit, planner and framer (chapters 3 and 4) -/

inductive BarReason where
  | rogue | clone | operator
  deriving DecidableEq, Repr

/-- One entry of the bar list (R54). -/
structure BarEntry where
  tag : Tag
  reason : BarReason
  origin : Station
  deriving DecidableEq, Repr

/-- Grant kinds in the order of their codes (R62, R216). -/
inductive GrantKind where
  | data | poll | test | ranging
  deriving DecidableEq, Repr

/-- One grant of a talk map (R62). -/
structure Grant where
  kind : GrantKind
  index : HomeIdx
  start : Nat
  length : Nat
  deriving DecidableEq, Repr

/-- The kinds of reserved span (R62). -/
inductive SpanKind where
  | discovery | quiet
  deriving DecidableEq, Repr

/-- A talk map (R62): the reserved span with its length, and the grants in ascending start order. -/
structure TalkMap where
  span : Option (SpanKind × Nat)
  grants : List Grant
  deriving DecidableEq, Repr

/-- A downstream round header (R78, R217). `map` is absent in idle-fill rounds. -/
structure Header where
  round : Round
  idleFill : Bool
  dark : List HomeIdx
  map : Option TalkMap
  directives : List Directive
  deriving DecidableEq, Repr

/-- A frame with its home index. -/
structure Frame where
  index : HomeIdx
  bytes : List Byte
  deriving DecidableEq, Repr

/-- The enrolment controller's discovery timer (R21) and the span it offers for the map of this boundary. -/
structure Enrol where
  due : Round
  offered : Bool
  deriving DecidableEq, Repr

/-- The rotation pointer p (R71) and the tick phase (R88). -/
structure Planner where
  rotation : HomeIdx
  phase : Nat
  deriving DecidableEq, Repr

/-- The downstream framer: directive queue (R79), drive check (R84), frames (R81) and the last header closed. -/
structure Framer where
  queue : List Directive
  run : Nat
  silence : Bool
  silenceAge : Nat
  sending : Option Frame
  waiting : Option Frame
  header : Option Header
  deriving DecidableEq, Repr

/-- The round counter, and where the part stands in its idle-fill rounds and in the boundary (R78, R82). -/
structure Clock where
  round : Round
  idleLeft : Nat
  firstMap : Bool
  headerOpen : Bool
  deriving DecidableEq, Repr

/-! ### Burst receiver and light monitor (chapter 6) -/

/-- The purposes of a window record (R105). -/
inductive Purpose where
  | data | poll | enrolTest | retest | enrolRanging | inPlaceRanging
  deriving DecidableEq, Repr

/-- A window record (R105). -/
structure Window where
  index : HomeIdx
  purpose : Purpose
  start : Nat
  length : Nat
  payload : Nat
  tag : Option Tag
  preset : Nat
  deriving DecidableEq, Repr

/-- The expectation of a mapped round: the span record and the window records (R105). -/
structure Expectation where
  span : Option (SpanKind × Nat)
  windows : List Window
  deriving DecidableEq, Repr

/-- An upstream round that is to come, arriving or waiting for its close. `map` is absent for an unmapped round
(R122). `spanGood`: a good discovery burst was handed from it (R27). `cutOff`: a tree restart has been taken since its
map was built (R24). -/
structure RoundExp where
  round : Round
  map : Option Expectation
  spanGood : Bool
  cutOff : Bool
  deriving DecidableEq, Repr

/-- The burst receiver: the level preset (R108) and the expectations it holds (R105; `closing`: log 24). `preset` is the
preset that was in force at quantum `since` of the arriving round: `since` is 0, or the quantum of a tree restart in
that round. The windows that start after it switch the preset; `Receiver.presetAt` reads it at any quantum (log 20). -/
structure Receiver where
  preset : Nat
  since : Nat
  next : Option RoundExp
  arriving : Option RoundExp
  closing : List RoundExp
  deriving DecidableEq, Repr

/-- The light monitor's lasting state (R100). -/
structure Light where
  streak : Nat
  loss : Bool
  lossAge : Nat
  deriving DecidableEq, Repr

/-! ### Rogue monitor (chapter 7) -/

inductive IsoStep where
  | whole | halving | confirm
  deriving DecidableEq, Repr

/-- What isolation holds while Probing (R129, R134): the candidate set, the step, the observation round once its map
is built, the settle maps to build before the observation map, and the steps begun. -/
structure Probe where
  cands : List HomeIdx
  step : IsoStep
  obs : Option Round
  settle : Nat
  steps : Nat
  deriving DecidableEq, Repr

/-- The isolation state (R129). -/
inductive Isolation where
  | idle
  | probing (p : Probe)
  | backoff (count : Nat)
  deriving DecidableEq, Repr

/-- The rogue monitor (R126, R129). `owed`, the model's own: the homes whose score is still to decay at this boundary,
each as often as gains of its close come before its decay (R120, R145; log 32). -/
structure Rogue where
  alarm : Bool
  alarmAge : Nat
  dirty : Nat
  clean : Nat
  iso : Isolation
  owed : List HomeIdx
  deriving DecidableEq, Repr

/-! ### Usage meter, epoch banks (chapters 8 and 9) -/

/-- One segment of a band ring (R155). -/
structure Segment where
  band : Fin 4
  minutes : Nat
  deriving DecidableEq, Repr

/-- A rating plan (R165). `cont` is the ring start: Continue where true, Given where false. -/
structure Plan where
  segments : List Segment
  startSeg : Nat
  startOff : Nat
  cont : Bool
  up : Vector Nat 4
  down : Vector Nat 4
  fee : Nat
  scale : Nat
  deriving DecidableEq, Repr

/-- The ring pointer of the Live bank (R156). `due`: the boundary's advance reaches the segment's length and the move
to the next segment has not been taken yet. -/
structure Ring where
  seg : Nat
  elapsed : Nat
  due : Bool
  deriving DecidableEq, Repr

/-- The flags of a usage record (R170). -/
structure RecFlags where
  partialEpoch : Bool
  saturated : Bool
  clamped : Bool
  lost : Bool
  removed : Bool
  dropped : Bool
  restart : Bool
  convicted : Bool
  deriving DecidableEq, Repr

/-- A usage record (R170); its index is its place in the bank. -/
structure UsageRecord where
  tag : Tag
  start : Round
  stop : Option Round
  up : Vector Nat 4
  down : Vector Nat 4
  charge : Option Nat
  flags : RecFlags
  deriving DecidableEq, Repr

inductive BankId where
  | bankA | bankB
  deriving DecidableEq, Repr

/-- The Live bank (R164). -/
structure LiveBank where
  plan : Plan
  start : Round
  records : Vector (Option UsageRecord) 64
  deriving DecidableEq, Repr

/-- A bank that has left Live (R164, R165). -/
structure ClosedBank where
  plan : Plan
  start : Round
  stop : Round
  records : Vector (Option UsageRecord) 64
  deriving DecidableEq, Repr

/-- The bank that is not Live (R164). A Rating bank holds its rating position (none once every record is rated) and
whether its completion is due (R178). -/
inductive OtherBank where
  | empty
  | ready (plan : Plan)
  | rating (bank : ClosedBank) (position : Option HomeIdx) (complete : Bool)
  | done (bank : ClosedBank)
  deriving DecidableEq, Repr

/-- The banks, the epoch timer and the held-epoch flag (R164, R173, R177). `live` is absent while the part is Unset;
then both banks are Empty (R183). -/
structure Banks where
  liveId : BankId
  live : Option LiveBank
  other : OtherBank
  timer : Nat
  held : Bool
  deriving DecidableEq, Repr

/-! ### Shelf bus port and message handler (chapters 10 and 11) -/

/-- An inbox message (R191); its length is that of its body. -/
structure InMsg where
  cls : BitVec 2
  kind : BitVec 6
  sender : Station
  target : Station
  body : List Byte
  deriving DecidableEq, Repr

/-- An outbox message (R195). `begun`: its start bit has been sent and it stays the head. -/
structure OutMsg where
  cls : BitVec 2
  kind : BitVec 6
  target : Station
  body : List Byte
  begun : Bool
  deriving DecidableEq, Repr

/-- The shelf bus port. `ready`: the idle count has reached 12 since the full reset, and since the last message that
announced a length of 41..63, so that the port receives messages (R200, R192). `sending`: the head has won arbitration and goes on to its take slot (R193). -/
structure Bus where
  listenOnly : Bool
  idle : Nat
  ready : Bool
  inbox : List InMsg
  outbox : List OutMsg
  sending : Bool
  deriving DecidableEq, Repr

/-- The ten Setup values (R209). -/
structure Params where
  upkeep : Nat
  period : Nat
  epoch : Nat
  stray : Nat
  dirtyLen : Nat
  cleanLen : Nat
  errMax : Nat
  misLim : Nat
  autoIsolate : Bool
  report : Station
  deriving DecidableEq, Repr

/-- Every counter of the manual, in the order of its group and of its place in the group's table (R212). -/
inductive Counter where
  | enrolDeferred | barredAttempts | localDuplicate | discoveryRefused | discoveryCollision | outOfReach | reRangeFailed
  | claimUnsent | localYield | cloneDrop | counterClaimsSent | counterClaimsIgnored | barReceived | barEvicted
  | peerMalformed
  | directiveWait | driftDropped | leaveDropped | dozeDeferred | transmitSilence
  | dozeGranted | homeLost | blankRound | feederLoss
  | garbledBurst | staleBurst | driftCorrection | reRangeRequest | overlap | weakBurst | earlyLight | overrunLight
  | rogueAlarm | isolationRun | rogueConvicted | rogueUnresolved | misbehaviourMute
  | trafficMalformed | undeliverableFrame | upstreamMalformed | counterSaturated | ringRefit
  | epochHeld | accumulatorClamped | chargeClamped
  | messagesTaken | messagesSent | untaken | arbitrationLost | bitError | crcError | inboxFull | frameError
  | stationClash
  | requestsTaken | requestWaited | badKind | badLength | notSet | foreignMessage | noticesQueued | noticeDropped
  deriving DecidableEq, Repr

structure Straps where
  station : Station
  reach : Reach
  deriving DecidableEq, Repr

/-! ### The whole part -/

/-- The reasons a step can stop with a fault. The DT-64 has none: refused requests are answered and malformed traffic is
counted, so no constructor is raised by anyone (safe). -/
inductive Fault where
  deriving DecidableEq, Repr

/-- The reasons a command has no meaning. -/
inductive Refusal where
  /-- raised by `exec` for a row that has no meaning yet (safe); no row is left without one -/
  | notModelled (mnemonic : String)
  deriving DecidableEq, Repr

/-- The state of the DT-64, block by block, and the queue of waiting commands. -/
structure State where
  straps : Straps
  clock : Clock
  homes : Vector Home 64
  enrol : Enrol
  bars : List BarEntry
  planner : Planner
  framer : Framer
  rx : Receiver
  light : Light
  rogue : Rogue
  ring : Option Ring
  banks : Banks
  /-- MODEL field: the frames the last ROUND_CLOSE passed to the switch (R152), an output -/
  toSwitch : List Frame
  bus : Bus
  /-- the Setup values; absent while the part is Unset (R206, R215) -/
  setup : Option Params
  /-- the request at the inbox head has been counted as waiting (R202) -/
  waited : Bool
  counters : Vector Nat 62
  /-- MODEL field: the tree restarts taken, which `Config.restartQuantum` reads (log 20) -/
  restarts : Nat
  /-- MODEL field: the commands that are waiting, first in, first out -/
  pending : List Instr
  deriving DecidableEq, Repr

/-- A Vacant entry (R6, R19). -/
def Entry.vacant : Entry where
  state := .vacant
  tag := none
  delay := none
  level := none
  share := 0
  weight := 1
  balance := 0
  backlog := none
  miss := 0
  score := 0
  claim := none
  wish := none
  dozeLeft := none
  probe := false
  mute := none
  retire := none

/-- An index that holds no home: a Vacant entry and nothing kept for it (R6). -/
def Home.vacant : Home where
  entry := .vacant
  progress := none
  retest := .idle
  inPlace := .idle
  window := none
  keptWake := false
  marker := .clear

/-- The part right after a full reset: Unset, every entry Vacant, both banks Empty (R19, R45, R61, R75, R86, R104, R123,
R124, R147, R161, R183, R200, R215). Straps, and values that nothing uses while the part is Unset: DESIGN CHOICE (log
1 and log 2). -/
def State.reset : State where
  straps := { station := 0, reach := .short }
  clock := { round := 0, idleLeft := 0, firstMap := false, headerOpen := false }
  homes := Vector.replicate 64 Home.vacant
  enrol := { due := 0, offered := false }
  bars := []
  planner := { rotation := 0, phase := 0 }
  framer :=
    { queue := [], run := 0, silence := false, silenceAge := 0, sending := none, waiting := none, header := none }
  rx := { preset := 128, since := 0, next := none, arriving := none, closing := [] }
  light := { streak := 0, loss := false, lossAge := 0 }
  rogue := { alarm := false, alarmAge := 0, dirty := 0, clean := 0, iso := .idle, owed := [] }
  ring := none
  banks := { liveId := .bankA, live := none, other := .empty, timer := 0, held := false }
  toSwitch := []
  bus := { listenOnly := false, idle := 0, ready := false, inbox := [], outbox := [], sending := false }
  setup := none
  waited := false
  counters := Vector.replicate 62 0
  restarts := 0
  pending := []

end Sys2Proof.Machine
end

