-- ==== Sys2Proof/Machine/Bytes.lean ====
section
/-! DEFINITION. Byte order, bit fields, the 16-bit check and the check sequence (R187, R216, R35). -/

namespace Sys2Proof.Machine

open Sys2Proof

/-- The low `n` bytes of `v`, most significant byte first (R216). -/
def bytesOf : Nat → Nat → List Byte
  | 0, _ => []
  | n + 1, v => BitVec.ofNat 8 (v >>> (8 * n)) :: bytesOf n v

/-- The number a byte list spells, most significant byte first (R216). -/
def natOf (bs : List Byte) : Nat := bs.foldl (fun a b => a * 256 + b.toNat) 0

/-- The field of `n` bytes at byte `off` of a body. -/
def field (bs : List Byte) (off n : Nat) : Nat := natOf ((bs.drop off).take n)

/-- The byte of a body at `off`. -/
def byteAt (bs : List Byte) (off : Nat) : Nat := field bs off 1

/-- The tag in the eight bytes at `off`. -/
def tagAt (bs : List Byte) (off : Nat) : Tag := BitVec.ofNat 64 (field bs off 8)

/-- The low `n` bits of `v`, most significant bit first (R186). -/
def bitsOf : Nat → Nat → List Bool
  | 0, _ => []
  | n + 1, v => v.testBit n :: bitsOf n v

/-- The bits of a byte list, bit 7 of each byte first (R216). -/
def byteBits (bs : List Byte) : List Bool := bs.flatMap fun b => bitsOf 8 b.toNat

/-- One step of the check register for one bit: generator x^16 + x^12 + x^5 + 1 (R187). -/
def crcStep (r : BitVec 16) (b : Bool) : BitVec 16 :=
  if r.msb != b then (r <<< 1) ^^^ 0x1021#16 else r <<< 1

/-- The 16-bit check over a bit sequence: the register starts with all bits at 1, and is sent without inversion
(R187). -/
def crc16 (bits : List Bool) : BitVec 16 := bits.foldl crcStep 0xFFFF#16

/-- The 16-bit check over bytes (R216). -/
def crcBytes (bs : List Byte) : BitVec 16 := crc16 (byteBits bs)

/-- One step of the 11-stage register: stage k is bit k - 1 (R35). -/
def prbsStep (r : BitVec 11) : BitVec 11 :=
  (r <<< 1) ||| (if r.getLsbD 10 != r.getLsbD 8 then 1#11 else 0#11)

/-- The next `n` output bits of the register: the content of stage 11 at each step (R35). -/
def prbsBits : Nat → BitVec 11 → List Bool
  | 0, _ => []
  | n + 1, r => r.getLsbD 10 :: prbsBits n (prbsStep r)

/-- The check sequence of a test burst: 2,048 bits, all stages starting at 1 (R35). -/
def checkSequence : List Bool := prbsBits 2048 (BitVec.allOnes 11)

/-- The bit errors e of a received test payload, over all 16 payload quanta; quanta that hold nothing read as 0 bits
(R35). -/
def bitErrors (payload : List Byte) : Nat :=
  (List.zipWith (· != ·) checkSequence (byteBits payload ++ List.replicate 2048 false)).countP id

/-- A bit of a packed byte or word. -/
def bitIf (b : Bool) (pos : Nat) : Nat := if b then 2 ^ pos else 0

end Sys2Proof.Machine
end

