-- ==== Sys2Proof/Machine/Flags.lean ====
section
/-! DEFINITION. The flags of a usage record (R170, R172, R216). -/

namespace Sys2Proof.Machine

open Sys2Proof

def RecFlags.clear : RecFlags where
  partialEpoch := false
  saturated := false
  clamped := false
  lost := false
  removed := false
  dropped := false
  restart := false
  convicted := false

/-- The flag of a retire reason is set (R172). -/
def RecFlags.withReason (f : RecFlags) : RetireReason → RecFlags
  | .lost => { f with lost := true }
  | .removed => { f with removed := true }
  | .dropped => { f with dropped := true }
  | .restart => { f with restart := true }

/-- The flags byte: bit 7 Partial, 6 Saturated, 5 Clamped, 4 Lost, 3 Removed, 2 Dropped, 1 Restart, 0 Convicted
(R216). -/
def RecFlags.byte (f : RecFlags) : Nat :=
  bitIf f.partialEpoch 7 + bitIf f.saturated 6 + bitIf f.clamped 5 + bitIf f.lost 4 + bitIf f.removed 3
    + bitIf f.dropped 2 + bitIf f.restart 1 + bitIf f.convicted 0

end Sys2Proof.Machine
end

