-- ==== Sys2Proof/Config.lean ====
section
/-! DEFINITION. The values the manual leaves open. Each is a constant without a body: nothing can be proved about
which value it is (notes/assumptions/9.md, 20.md). -/

namespace Sys2Proof

/-- DESIGN CHOICE (log 9), safe. The 4-byte length field of a RogueAlarm, FeederLoss or TransmitSilent notice whose
declaration lasted 2^32 round boundaries or more. 12 R220 gives the field 4 bytes and no rule for a longer count. -/
opaque Config.overlongDeclaration : Nat → BitVec 32

/-- DESIGN CHOICE (log 20), safe. The quantum of the arriving upstream round in which the n-th tree restart is taken. A
request reaches the part at any time (11 R214), and no command says at which quantum. -/
opaque Config.restartQuantum : Nat → Fin 4000

end Sys2Proof
end

