-- ==== Sys2Proof/Machine/Messages.lean ====
section
/-! DEFINITION. What the part says on the shelf bus: outcome codes, notices with their classes, kinds and bodies
(R204, R207, R216, R219, R220). -/

namespace Sys2Proof.Machine

open Sys2Proof

/-- The outcome codes (R204), in the order of their numbers (R216). -/
inductive OutcomeCode where
  | ok | clamped | badKind | badLength | badIndex | badState | tagMismatch | shareLimit | bankBusy | notDone | absent
  | notSet | setupDone
  deriving DecidableEq, Repr

def OutcomeCode.code : OutcomeCode → Nat
  | .ok => 0 | .clamped => 1 | .badKind => 2 | .badLength => 3 | .badIndex => 4 | .badState => 5
  | .tagMismatch => 6 | .shareLimit => 7 | .bankBusy => 8 | .notDone => 9 | .absent => 10 | .notSet => 11
  | .setupDone => 12

def EState.code : EState → Nat
  | .vacant => 0 | .ranging => 1 | .testing => 2 | .held => 3 | .active => 4 | .dozing => 5 | .muted => 6
  | .retired => 7

def BankId.code : BankId → Nat
  | .bankA => 0 | .bankB => 1

/-- The code of the other bank's state (R216). -/
def OtherBank.code : OtherBank → Nat
  | .empty => 0 | .ready _ => 1 | .rating .. => 3 | .done _ => 4

def BarReason.code : BarReason → Nat
  | .rogue => 1 | .clone => 2 | .operator => 3

def MuteReason.code : MuteReason → Nat
  | .convicted => 0 | .misbehaving => 1

def RetireReason.code : RetireReason → Nat
  | .lost => 0 | .removed => 1 | .dropped => 2 | .restart => 3

def ClaimStatus.code : ClaimStatus → Nat
  | .pending => 0 | .confirmed => 1

def IsoStep.code : IsoStep → Nat
  | .whole => 0 | .halving => 1 | .confirm => 2

/-- The reasons of an EnrollFailed notice (R43, R50, R57, R216). -/
inductive EnrolReason where
  | outOfReach | noRange | poorLink | lost | noApproval | abandoned | claimed | barred
  deriving DecidableEq, Repr

def EnrolReason.code : EnrolReason → Nat
  | .outOfReach => 0 | .noRange => 1 | .poorLink => 2 | .lost => 3 | .noApproval => 4 | .abandoned => 5
  | .claimed => 6 | .barred => 7

/-- The reasons of an Unresolved outcome (R142, R216). -/
inductive UnresolvedReason where
  | whole | confirm | empty | line
  deriving DecidableEq, Repr

def UnresolvedReason.code : UnresolvedReason → Nat
  | .whole => 0 | .confirm => 1 | .empty => 2 | .line => 3

/-- The result of a Retest, with what it carries: e, m and o (R42). -/
inductive TestOutcome where
  | pass (errors level : Nat) (offset : Int)
  | fail (errors level : Nat) (offset : Int)
  | misaligned (level : Nat) (offset : Int)
  | garbled
  | dark
  | cancelled
  deriving DecidableEq, Repr

/-- The notices (R207). -/
inductive Notice where
  | rogueAlarm (declared : Bool) (round : Round) (stray : Nat) (started : Bool) (length : Nat)
  | rogueConvicted (index : HomeIdx) (tag : Tag) (prior : EState) (round : Round) (steps : Nat)
  | rogueUnresolved (reason : UnresolvedReason) (round : Round) (steps : Nat) (left : List HomeIdx)
  | feederLoss (declared : Bool) (round : Round) (length : Nat)
  | transmitSilent (declared : Bool) (round : Round) (length : Nat)
  | offer (index : HomeIdx) (tag : Tag) (fine level errors : Nat)
  | enrollFailed (index : HomeIdx) (tag : Tag) (reason : EnrolReason)
  | duplicateTag (tag : Tag) (index : HomeIdx) (state : EState) (peer : Station) (peerIndex : Nat)
  | testResult (index : HomeIdx) (tag : Tag) (result : TestOutcome)
  | homeLost (index : HomeIdx) (tag : Tag) (round : Round)
  | homeMisbehaving (index : HomeIdx) (tag : Tag) (score : Nat)
  | epochClosed (bank : BankId) (start stop : Round) (records saturated clamped : Nat)
  | epochHeld (bank : BankId) (other : Nat) (round : Round)
  deriving DecidableEq, Repr

/-- The class of a notice: 0 for an alarm notice, 3 for any other (R207). -/
def Notice.cls : Notice → BitVec 2
  | .rogueAlarm .. | .rogueConvicted .. | .rogueUnresolved .. | .feederLoss .. | .transmitSilent .. => 0
  | .offer .. | .enrollFailed .. | .duplicateTag .. | .testResult .. | .homeLost .. | .homeMisbehaving ..
  | .epochClosed .. | .epochHeld .. => 3

/-- The kind number of a notice (R219). -/
def Notice.kind : Notice → BitVec 6
  | .rogueAlarm .. => 1
  | .rogueConvicted .. => 2
  | .rogueUnresolved .. => 3
  | .feederLoss .. => 4
  | .transmitSilent .. => 5
  | .offer .. => 48
  | .enrollFailed .. => 49
  | .duplicateTag .. => 50
  | .testResult .. => 51
  | .homeLost .. => 52
  | .homeMisbehaving .. => 53
  | .epochClosed .. => 54
  | .epochHeld .. => 55

/-- Sixty-four index bits: index i is bit 7 - (i mod 8) of byte i / 8 (R217). -/
def indexBits (l : List HomeIdx) : List Byte :=
  (List.range 8).map fun k =>
    BitVec.ofNat 8 ((List.range 8).foldl
      (fun a j => a + bitIf (l.any fun i => i.val == 8 * k + j) (7 - j)) 0)

/-- The four bytes of a declaration length in boundaries; a length that does not fit them is an open value (log 9). -/
def lengthBytes (n : Nat) : List Byte :=
  bytesOf 4 (if n < 2 ^ 32 then n else (Config.overlongDeclaration n).toNat)

/-- The fields e, m and o of a TestResult; a field its result does not carry is 0 (R220). -/
def TestOutcome.bytes : TestOutcome → List Byte
  | .pass e m o => bytesOf 1 0 ++ bytesOf 2 e ++ bytesOf 1 m ++ [BitVec.ofInt 8 o]
  | .fail e m o => bytesOf 1 1 ++ bytesOf 2 e ++ bytesOf 1 m ++ [BitVec.ofInt 8 o]
  | .misaligned m o => bytesOf 1 2 ++ bytesOf 2 0 ++ bytesOf 1 m ++ [BitVec.ofInt 8 o]
  | .garbled => bytesOf 1 3 ++ bytesOf 4 0
  | .dark => bytesOf 1 4 ++ bytesOf 4 0
  | .cancelled => bytesOf 1 5 ++ bytesOf 4 0

/-- The body of a notice (R220). A yes/no field is sent as 1 or 0 (DESIGN CHOICE, log 33). -/
def Notice.body : Notice → List Byte
  | .rogueAlarm true r s st _ => bytesOf 1 1 ++ bytesOf 5 r.toNat ++ bytesOf 2 s ++ bytesOf 1 st.toNat ++ bytesOf 4 0
  | .rogueAlarm false r _ _ n => bytesOf 1 0 ++ bytesOf 5 r.toNat ++ bytesOf 2 0 ++ bytesOf 1 0 ++ lengthBytes n
  | .rogueConvicted i t p r k =>
    bytesOf 1 i.val ++ bytesOf 8 t.toNat ++ bytesOf 1 p.code ++ bytesOf 5 r.toNat ++ bytesOf 1 k
  | .rogueUnresolved q r k l => bytesOf 1 q.code ++ bytesOf 5 r.toNat ++ bytesOf 1 k ++ indexBits l
  | .feederLoss d r n => bytesOf 1 d.toNat ++ bytesOf 5 r.toNat ++ (if d then bytesOf 4 0 else lengthBytes n)
  | .transmitSilent d r n => bytesOf 1 d.toNat ++ bytesOf 5 r.toNat ++ (if d then bytesOf 4 0 else lengthBytes n)
  | .offer i t f l e => bytesOf 1 i.val ++ bytesOf 8 t.toNat ++ bytesOf 2 f ++ bytesOf 1 l ++ bytesOf 2 e
  | .enrollFailed i t q => bytesOf 1 i.val ++ bytesOf 8 t.toNat ++ bytesOf 1 q.code
  | .duplicateTag t i st p k =>
    bytesOf 8 t.toNat ++ bytesOf 1 i.val ++ bytesOf 1 st.code ++ bytesOf 1 p.toNat ++ bytesOf 1 k
  | .testResult i t q => bytesOf 1 i.val ++ bytesOf 8 t.toNat ++ q.bytes
  | .homeLost i t r => bytesOf 1 i.val ++ bytesOf 8 t.toNat ++ bytesOf 5 r.toNat
  | .homeMisbehaving i t k => bytesOf 1 i.val ++ bytesOf 8 t.toNat ++ bytesOf 1 k
  | .epochClosed b st sp n a c =>
    bytesOf 1 b.code ++ bytesOf 5 st.toNat ++ bytesOf 5 sp.toNat ++ bytesOf 1 n ++ bytesOf 1 a ++ bytesOf 1 c
  | .epochHeld b o r => bytesOf 1 b.code ++ bytesOf 1 o ++ bytesOf 5 r.toNat

/-- The message a notice makes for a report station (R207). -/
def Notice.message (n : Notice) (report : Station) : OutMsg :=
  { cls := n.cls, kind := n.kind, target := report, body := n.body, begun := false }

/-- An answer: class 2, kind 16, to the sender of the request (R203, R219). -/
def answerMessage (target : Station) (kind : BitVec 6) (code : OutcomeCode) (data : List Byte) : OutMsg :=
  { cls := 2, kind := 16, target, body := bytesOf 1 kind.toNat ++ bytesOf 1 code.code ++ data, begun := false }

/-- A Claim to all stations (R46, R219). -/
def claimMessage (tag : Tag) (own : Station) (i : HomeIdx) : OutMsg :=
  { cls := 1, kind := 8, target := 31, begun := false,
    body := bytesOf 8 tag.toNat ++ bytesOf 1 own.toNat ++ bytesOf 1 i.val }

/-- A Counter-claim to one station (R52, R219). -/
def counterClaimMessage (tag : Tag) (own target : Station) : OutMsg :=
  { cls := 1, kind := 9, target, begun := false, body := bytesOf 8 tag.toNat ++ bytesOf 1 own.toNat }

/-- A Bar to all stations (R56, R219). -/
def barMessage (tag : Tag) (own : Station) : OutMsg :=
  { cls := 1, kind := 10, target := 31, begun := false,
    body := bytesOf 8 tag.toNat ++ bytesOf 1 BarReason.rogue.code ++ bytesOf 1 own.toNat }

end Sys2Proof.Machine
end

