-- ==== Sys2Proof/Machine/Ops.lean ====
section
/-! DEFINITION. The shared operations: reading and changing home entries, counters, the outbox, the directive queue,
the bar list, the end of isolation, and the moves of an entry with every consequence chapter 1 attaches to them. -/

namespace Sys2Proof.Machine

open Sys2Proof

/-! ### Units (00_scope.md) -/

def quantaPerRound : Nat := 4000

/-- Q_reach of the reach class, in quanta. -/
def Reach.quanta : Reach → Nat
  | .short => 1600
  | .long => 3200

/-- T_target of the reach class, in phase units: (Q_reach + 64) * 16 (R31). -/
def Reach.target (r : Reach) : Nat := (Reach.quanta r + 64) * 16

/-- The length of a discovery span: Q_reach + 38 quanta (R23, R62). -/
def Reach.discoverySpan (r : Reach) : Nat := Reach.quanta r + 38

/-- The length of a quiet span (R62). -/
def quietSpan : Nat := 400

/-- The nominal level (R10, R108). -/
def nominalLevel : Nat := 128

/-- The home indices, ascending. -/
def allIdx : List HomeIdx := List.finRange 64

/-! ### Reading the state -/

def State.home (s : State) (i : HomeIdx) : Home := s.homes[i.val]

def State.entry (s : State) (i : HomeIdx) : Entry := (s.home i).entry

/-- The tag an entry holds; an entry without one (it is Vacant) reads 0 and no rule asks for it (log 27). -/
def Entry.tagVal (e : Entry) : Tag := e.tag.getD 0

/-- Isolation is in progress: the state Probing (R129). -/
def State.probing (s : State) : Bool :=
  match s.rogue.iso with
  | .probing _ => true
  | _ => false

/-- The station notices go to: the Setup value, and 31 while the part is Unset (R208). -/
def State.reportStation (s : State) : Station :=
  match s.setup with
  | some p => p.report
  | none => 31

def State.target (s : State) : Nat := Reach.target s.straps.reach

/-- The entry holding a tag: the one in a state other than Vacant whose tag field equals it (R4). -/
def State.holder (s : State) (t : Tag) : Option HomeIdx :=
  allIdx.find? fun i => (s.entry i).state != .vacant && (s.entry i).tag == some t

/-- Ranging, Testing or Held: the states the enrolment limit counts (R22). -/
def EState.enrolling : EState → Bool
  | .ranging | .testing | .held => true
  | _ => false

/-- Active, Dozing or Muted: the states whose entries hold a claim status and a usage record (R171). -/
def EState.inService : EState → Bool
  | .active | .dozing | .muted => true
  | _ => false

/-- Held, Active or Dozing: the states of candidates (R131). -/
def EState.candidate : EState → Bool
  | .held | .active | .dozing => true
  | _ => false

/-- The number of entries in Ranging, Testing or Held. -/
def State.enrollingCount (s : State) : Nat := allIdx.countP fun i => (s.entry i).state.enrolling

/-- The lowest-numbered Vacant entry (R8). -/
def State.lowestVacant (s : State) : Option HomeIdx := allIdx.find? fun i => (s.entry i).state == .vacant

/-- A tag is on the bar list (R25). -/
def State.barred (s : State) (t : Tag) : Bool := s.bars.any fun e => e.tag == t

/-- The usage record the Live bank holds for an index. -/
def State.liveRecord (s : State) (i : HomeIdx) : Option UsageRecord :=
  s.banks.live.bind fun l => l.records[i.val]

/-- The sum of guaranteed shares over all entries (R77). -/
def State.shareSum (s : State) : Nat := (allIdx.map fun i => (s.entry i).share).sum

/-! ### Changing the state -/

def State.setHome (s : State) (i : HomeIdx) (h : Home) : State := { s with homes := s.homes.set i.val h i.isLt }

def State.modHome (s : State) (i : HomeIdx) (f : Home → Home) : State := s.setHome i (f (s.home i))

def State.modEntry (s : State) (i : HomeIdx) (f : Entry → Entry) : State :=
  s.modHome i fun h => { h with entry := f h.entry }

def State.modProgress (s : State) (i : HomeIdx) (f : Progress → Progress) : State :=
  s.modHome i fun h => { h with progress := h.progress.map f }

/-- The place of a counter in the counter file. -/
def Counter.pos (c : Counter) : Fin 62 := ⟨c.ctorIdx, by cases c <;> decide⟩

def State.counter (s : State) (c : Counter) : Nat := s.counters[(Counter.pos c).val]

/-- The top of a counter's range (R212). -/
def counterMax : Nat := 4294967295

/-- A counter gains 1 and saturates at the top of its range (R212). -/
def State.bump (s : State) (c : Counter) : State :=
  { s with counters := s.counters.set (Counter.pos c).val (min (s.counter c + 1) counterMax) (Counter.pos c).isLt }

/-! ### The outbox (R195) and notices (R207) -/

def State.outRoom (s : State) : Bool := decide (s.bus.outbox.length < 16)

/-- A message joins the outbox; the caller has found room. -/
def State.post (s : State) (m : OutMsg) : State := { s with bus := { s.bus with outbox := s.bus.outbox ++ [m] } }

/-- A notice is addressed to the report station and joins the outbox, or is dropped and counted (R207). -/
def State.raise (s : State) (n : Notice) : State :=
  if s.outRoom then (s.post (n.message s.reportStation)).bump .noticesQueued else s.bump .noticeDropped

/-- A Claim, Counter-claim or Bar joins the outbox, or is dropped and counted as claim-unsent (R46, R52, R56). -/
def State.sendPeer (s : State) (m : OutMsg) : State := if s.outRoom then s.post m else s.bump .claimUnsent

/-! ### The directive queue (R79, R80) -/

def State.dirRoom (s : State) : Bool := decide (s.framer.queue.length < 32)

/-- A directive joins the tail of the queue; any Set delay makes the entry's correction marker queued (R79, R114). -/
def State.pushDirective (s : State) (d : Directive) : State :=
  let s := { s with framer := { s.framer with queue := s.framer.queue ++ [d] } }
  match d with
  | .setDelay i _ => s.modHome i fun h => { h with marker := .queued }
  | _ => s

/-- A Leave is queued, or dropped and counted (R80). -/
def State.offerLeave (s : State) (d : Directive) : State :=
  if s.dirRoom then s.pushDirective d else s.bump .leaveDropped

/-- An Assign, or a Set delay from ranging, is queued or becomes the entry's waiting directive (R28, R80). -/
def State.offerEnrol (s : State) (i : HomeIdx) (d : Directive) : State :=
  if s.dirRoom then s.pushDirective d
  else (s.modProgress i fun p => { p with waiting := some d }).bump .directiveWait

/-- A Wake is queued or kept by the planner (R80). -/
def State.offerWake (s : State) (i : HomeIdx) : State :=
  if s.dirRoom then s.pushDirective (.wake i)
  else (s.modHome i fun h => { h with keptWake := true }).bump .directiveWait

/-- A Set delay from drift correction or from ranging in place: where the queue takes it the entry's D becomes its D,
otherwise it is dropped and counted and D is kept (R80, R113, R33). -/
def State.offerCorrection (s : State) (i : HomeIdx) (delay : Nat) : State :=
  if s.dirRoom then
    (s.pushDirective (.setDelay i delay)).modEntry i fun e => { e with delay := some delay }
  else s.bump .driftDropped

/-! ### The bar list (R54) -/

/-- A tag is placed newest on the bar list, evicting the oldest entry of a full list (R54). -/
def State.addBar (s : State) (t : Tag) (r : BarReason) (origin : Station) : State :=
  let new : BarEntry := { tag := t, reason := r, origin }
  if s.barred t then { s with bars := s.bars.filter (fun e => e.tag != t) ++ [new] }
  else if s.bars.length < 16 then { s with bars := s.bars ++ [new] }
  else { s with bars := s.bars.tail ++ [new] }.bump .barEvicted

/-! ### Isolation: probe mutes and the Unresolved outcome (R133, R142) -/

/-- The probe muted field of every entry: yes for the members of T, no for the others (R133). -/
def State.setProbes (s : State) (t : List HomeIdx) : State :=
  { s with homes := s.homes.mapFinIdx fun i h hi =>
      { h with entry := { h.entry with probe := t.contains (⟨i, hi⟩ : HomeIdx) } } }

/-- The streaks are set to 0 (R128). -/
def State.clearStreaks (s : State) : State := { s with rogue := { s.rogue with dirty := 0, clean := 0 } }

/-- An Unresolved outcome (R142): every probe mute is released, isolation enters Backoff with 2,000 rounds, the
streaks are 0, and a RogueUnresolved notice goes out with the candidates left. -/
def State.endUnresolved (s : State) (reason : UnresolvedReason) (round : Round) (steps : Nat) (left : List HomeIdx) :
    State :=
  let s := (s.setProbes []).clearStreaks
  let s := { s with rogue := { s.rogue with iso := .backoff 2000 } }
  (s.bump .rogueUnresolved).raise (.rogueUnresolved reason round steps left)

/-- An entry that has left Held, Active and Dozing leaves the candidate set; a set emptied by a departure ends the
isolation Unresolved with the reason Empty (R139; its round and steps: DEDUCED, log 11). -/
def State.dropCandidate (s : State) (i : HomeIdx) (round : Round) : State :=
  match s.rogue.iso with
  | .probing p =>
    if p.cands.contains i then
      let c := p.cands.erase i
      if c.isEmpty then s.endUnresolved .empty round p.steps []
      else { s with rogue := { s.rogue with iso := .probing { p with cands := c } } }
    else s
  | _ => s

/-! ### The moves of an entry (R6 to R13) -/

/-- The fields of an entry that enters Ranging: it keeps or takes the tag, and D and L are absent (R8, R9). -/
def Entry.ranged (t : Tag) : Entry := { Entry.vacant with state := .ranging, tag := some t }

/-- Ranging to Testing: D from ranging and the nominal level (R10). -/
def Entry.tested (e : Entry) (d : Nat) : Entry :=
  { e with state := .testing, delay := some d, level := some nominalLevel }

/-- Testing back to Ranging: D and L become absent (R10). -/
def Entry.reranged (e : Entry) : Entry := { e with state := .ranging, delay := none, level := none }

/-- Testing to Held: L from the passing test burst (R10). -/
def Entry.heldAt (e : Entry) (level : Nat) : Entry := { e with state := .held, level := some level }

/-- Held to Active (R11). -/
def Entry.approved (e : Entry) : Entry :=
  { e with
    state := .active, claim := some .pending, share := 0, weight := 1, balance := 0, backlog := some 0,
    wish := some false }

/-- Dozing to Active (R11). -/
def Entry.woken (e : Entry) : Entry :=
  { e with state := .active, balance := 1, wish := some false, dozeLeft := none }

/-- Muted to Active (R11). -/
def Entry.released (e : Entry) : Entry :=
  { e with
    state := .active, balance := 0, miss := 0, score := 0, backlog := some 0, wish := some false, mute := none }

/-- Active to Dozing (R12). -/
def Entry.dozed (e : Entry) (rounds : Nat) : Entry :=
  { e with state := .dozing, dozeLeft := some rounds, wish := none }

/-- Active or Dozing to Muted (R12). -/
def Entry.muted (e : Entry) (r : MuteReason) : Entry :=
  { e with
    state := .muted, mute := some r, backlog := none, wish := none, dozeLeft := none, probe := false }

/-- To Retired (R13). -/
def Entry.retired (e : Entry) (r : RetireReason) : Entry :=
  { e with
    state := .retired, retire := some r, share := 0, backlog := none, claim := none, wish := none,
    dozeLeft := none, probe := false, mute := none }

/-- A pending retest ends Cancelled with its notice (R42). -/
def State.cancelRetest (s : State) (i : HomeIdx) : State :=
  if (s.home i).retest = .idle then s
  else (s.modHome i fun h => { h with retest := .idle }).raise (.testResult i (s.entry i).tagVal .cancelled)

/-- Flags of the Live bank's record for an index, where it holds one (R172). -/
def State.flagRecord (s : State) (i : HomeIdx) (f : RecFlags → RecFlags) : State :=
  match s.banks.live with
  | none => s
  | some l =>
    match l.records[i.val] with
    | none => s
    | some r =>
      let l := { l with records := l.records.set i.val (some { r with flags := f r.flags }) i.isLt }
      { s with banks := { s.banks with live := some l } }

/-- The entry enters Vacant, with everything kept for its index discarded (R6). -/
def State.vacate (s : State) (i : HomeIdx) (round : Round) : State :=
  ((s.cancelRetest i).setHome i Home.vacant).dropCandidate i round

/-- The entry enters Retired: the values of R13, everything other blocks keep for the index discarded, and the Live
bank record flagged with the reason, and Partial where the entry leaves service (R13, R172). -/
def State.retire (s : State) (i : HomeIdx) (r : RetireReason) (round : Round) : State :=
  let served := (s.entry i).state.inService
  let s := s.cancelRetest i
  let s := s.setHome i { Home.vacant with entry := (s.entry i).retired r }
  let s := s.flagRecord i fun f => { f with partialEpoch := f.partialEpoch || served }.withReason r
  s.dropCandidate i round

/-- A move to Vacant, which is a move to Retired where the Live bank still holds a record for the index (R7). -/
def State.leaveFor (s : State) (i : HomeIdx) (r : RetireReason) (round : Round) : State :=
  if (s.liveRecord i).isSome then s.retire i r round else s.vacate i round

/-- The Leave for an entry: to the tag from Ranging, to the index from any other state (R17, R43, R50, R55). -/
def Entry.leaveDirective (e : Entry) (i : HomeIdx) : Directive :=
  if e.state = .ranging then .leaveTag e.tagVal else .leaveIndex i

/-- Enrolment ends with a move for Vacant and a Leave (R43, R50, R55). -/
def State.endEnrolment (s : State) (i : HomeIdx) (r : RetireReason) (round : Round) : State :=
  (s.leaveFor i r round).offerLeave ((s.entry i).leaveDirective i)

/-- Enrolment ends with a move for Vacant, a Leave and an EnrollFailed notice (R43). -/
def State.failEnrolment (s : State) (i : HomeIdx) (r : RetireReason) (why : EnrolReason) (round : Round) : State :=
  (s.endEnrolment i r round).raise (.enrollFailed i (s.entry i).tagVal why)

/-- Active or Dozing to Muted: the doze ends without a Wake, a pending retest is cancelled, and a kept Wake is
discarded (R12, R80, R141, R144). -/
def State.muteHome (s : State) (i : HomeIdx) (r : MuteReason) (round : Round) : State :=
  let s := s.cancelRetest i
  let s := s.modHome i fun h => { h with entry := h.entry.muted r, keptWake := false }
  s.dropCandidate i round

/-- Active to Dozing: a pending retest is cancelled and a kept Wake is discarded (R12, R42, R80). -/
def State.dozeHome (s : State) (i : HomeIdx) (rounds : Nat) : State :=
  (s.cancelRetest i).modHome i fun h => { h with entry := h.entry.dozed rounds, keptWake := false }

/-- Dozing to Active, with a Wake offered (R95, R96). -/
def State.wakeHome (s : State) (i : HomeIdx) : State := (s.modEntry i Entry.woken).offerWake i

end Sys2Proof.Machine
end

