-- ==== Sys2Proof/Machine/Planner.lean ====
section
/-! DEFINITION. The round planner (chapter 4): filling one talk map in the order of R67, its space accounting (R64) and
its placement (R73). A map under construction holds at most one grant for each home by its type. -/

namespace Sys2Proof.Machine

open Sys2Proof

/-- A grant of a map under construction: a window with its payload (0 for a Poll), a Test, or a Ranging span with its
fixed first quantum (R62, R69). -/
inductive PGrant where
  | window (payload : Nat)
  | test
  | ranging (start : Nat)
  deriving DecidableEq, Repr

/-- A map under construction. -/
abbrev Draft := Vector (Option PGrant) 64

/-- The space a grant uses: its window, its 2 guard quanta, and the allowance of a Ranging grant (R64). -/
def PGrant.space : PGrant → Nat
  | .window x => 5 + x
  | .test => 21
  | .ranging _ => 46

def Draft.empty : Draft := Vector.replicate 64 none

def Draft.get (d : Draft) (i : HomeIdx) : Option PGrant := d[i.val]

def Draft.put (d : Draft) (i : HomeIdx) (g : PGrant) : Draft := d.set i.val (some g) i.isLt

def Draft.spaceAt (d : Draft) (i : HomeIdx) : Nat := ((d.get i).map PGrant.space).getD 0

/-- The space used by a map under construction with a reserved span of the given length (R64). -/
def Draft.used (d : Draft) (span : Nat) : Nat := span + (allIdx.map d.spaceAt).sum

/-- The space left (R64). -/
def Draft.left (d : Draft) (span : Nat) : Nat := quantaPerRound - d.used span

/-- The number of grants. -/
def Draft.count (d : Draft) : Nat := allIdx.countP fun i => (d.get i).isSome

/-- A new grant may be added: the map holds fewer than 80 (R63, R64). -/
def Draft.slot (d : Draft) (i : HomeIdx) : Bool := (d.get i).isSome || decide (d.count < 80)

/-- An addition is made when the space it needs is no more than the space left and a slot is free (R64). -/
def Draft.add (d : Draft) (span : Nat) (i : HomeIdx) (g : PGrant) : Draft :=
  if d.slot i && decide (PGrant.space g - d.spaceAt i ≤ d.left span) then d.put i g else d

/-! ### Who may be granted (R65) -/

/-- Held or Active, not probe-muted: the entries a Poll may go to (R65). -/
def Entry.pollable (e : Entry) : Bool := (e.state == .held || e.state == .active) && !e.probe

/-- Active, not probe-muted: the entries Data may go to (R65). -/
def Entry.dataable (e : Entry) : Bool := e.state == .active && !e.probe

/-! ### Steps 2 and 3 (R68) -/

def forcedPoll (e : Entry) : Bool := e.pollable && decide (e.balance = 8)

def dozePoll (e : Entry) : Bool := e.dataable && e.wish == some true && decide (0 < e.balance)

def stepForced (homes : Vector Home 64) (span : Nat) (d : Draft) (i : HomeIdx) : Draft :=
  if forcedPoll (homes[i.val]).entry then d.add span i (.window 0) else d

def stepDoze (homes : Vector Home 64) (span : Nat) (d : Draft) (i : HomeIdx) : Draft :=
  if dozePoll (homes[i.val]).entry && (d.get i).isNone then d.add span i (.window 0) else d

/-! ### Step 4 (R69) -/

/-- The first quantum of a ranging span with the given centre (R29, R69). -/
def rangingStart (centre : Nat) : Nat := min 3976 (max 2 (centre - 10))

/-- The centre of the ranging span the enrolment controller requests for a home (R29, R33, R65). -/
def rangingRequest (h : Home) : Option Nat :=
  match h.entry.state with
  | .ranging =>
    match h.progress with
    | some p => if p.stage = .spanDue then some p.coarse else none
    | none => none
  | .active =>
    match h.inPlace with
    | .asked c => if h.entry.probe then none else some c
    | _ => none
  | _ => none

/-- A Test grant is requested for a home (R34, R42, R65). -/
def testRequest (h : Home) : Bool :=
  match h.entry.state with
  | .testing => h.progress.any fun p => p.stage == .testDue
  | .active => h.retest == .asked && !h.entry.probe
  | _ => false

/-- Two ranging spans, with their guard quanta, would overlap (R69). -/
def spansOverlap (s t : Nat) : Bool := decide (s < t + 26 ∧ t < s + 26)

/-- A ranging span already placed in the map would overlap one that starts at `s`. -/
def Draft.overlapped (d : Draft) (s : Nat) : Bool :=
  allIdx.any fun j =>
    match d.get j with
    | some (.ranging t) => spansOverlap s t
    | _ => false

/-- The ranging span of one home, where it is requested and fits. -/
def stepSpan (homes : Vector Home 64) (span : Nat) (d : Draft) (i : HomeIdx) : Draft :=
  match rangingRequest homes[i.val] with
  | some c => if d.overlapped (rangingStart c) then d else d.add span i (.ranging (rangingStart c))
  | none => d

/-- The home holds a ranging span in the map. -/
def Draft.hasSpan (d : Draft) (i : HomeIdx) : Bool :=
  match d.get i with
  | some (.ranging _) => true
  | _ => false

/-- The enrolment grants of one home: the span is considered first, then the Test (R69). -/
def stepEnrol (homes : Vector Home 64) (span : Nat) (d : Draft) (i : HomeIdx) : Draft :=
  let d := stepSpan homes span d i
  if testRequest homes[i.val] && !d.hasSpan i then d.add span i .test else d

/-! ### Steps 5 and 6 (R70, R71) -/

/-- What a home already holds for payload: none without a grant, its payload on a window, and no answer where it holds a
Test or a Ranging grant. -/
def Draft.payloadAt (d : Draft) (i : HomeIdx) : Option (Option Nat) :=
  match d.get i with
  | none => some none
  | some (.window x) => some (some x)
  | some .test => none
  | some (.ranging _) => none

/-- At most `want` payload quanta are given to a home, cut to the space left: new grants pay 5 quanta first and need a
free slot (R64, R70, R71). Nothing is given where the amount is 0. -/
def Draft.give (d : Draft) (span : Nat) (i : HomeIdx) (want : Nat) : Option Draft :=
  match d.payloadAt i with
  | none => none
  | some none =>
    let x := min want (d.left span - 5)
    if x = 0 ∨ d.slot i = false then none else some (d.put i (.window x))
  | some (some y) =>
    let x := min want (d.left span)
    if x = 0 then none else some (d.put i (.window (y + x)))

/-- The guaranteed part of one home (R70). -/
def stepGuaranteed (homes : Vector Home 64) (span : Nat) (d : Draft) (i : HomeIdx) : Draft :=
  let e := (homes[i.val]).entry
  if e.dataable then (d.give span i (min e.share (e.backlog.getD 0))).getD d else d

/-- The backlog a home has left in this map: its recorded backlog less the payload it was given (R70, R71). -/
def remaining (homes : Vector Home 64) (d : Draft) (i : HomeIdx) : Nat :=
  (homes[i.val]).entry.backlog.getD 0 - ((d.payloadAt i).getD none).getD 0

/-- One visit of the excess distribution: the smallest of the remaining backlog, w * 16 and the space left (R71). -/
def visit (homes : Vector Home 64) (span : Nat) (d : Draft) (i : HomeIdx) : Option Draft :=
  let e := (homes[i.val]).entry
  if e.dataable then d.give span i (min (remaining homes d i) (e.weight * 16)) else none

/-- The order of a cycle: p, p + 1, .., 63, 0, .., p - 1 (R71). -/
def cycleOrder (p : HomeIdx) : List HomeIdx := allIdx.map fun k => p + k

/-- One cycle, with the last home that received an amount in it (R71). -/
def cycle (homes : Vector Home 64) (span : Nat) (p : HomeIdx) (d : Draft) : Draft × Option HomeIdx :=
  (cycleOrder p).foldl
    (fun (acc : Draft × Option HomeIdx) i =>
      match visit homes span acc.1 i with
      | some d => (d, some i)
      | none => acc)
    (d, none)

/-- Cycles repeat until one gives nothing; the last home served is remembered (R71). The first argument bounds the
number of cycles: each but the last gives at least one of 4,000 quanta. -/
def distribute (homes : Vector Home 64) (span : Nat) (p : HomeIdx) :
    Nat → Draft → Option HomeIdx → Draft × Option HomeIdx
  | 0, d, last => (d, last)
  | n + 1, d, last =>
    match cycle homes span p d with
    | (_, none) => (d, last)
    | (d, some i) => distribute homes span p n d (some i)

/-- Step 7: an optional Poll (R72). -/
def stepOptional (homes : Vector Home 64) (span : Nat) (d : Draft) (i : HomeIdx) : Draft :=
  let e := (homes[i.val]).entry
  if e.pollable && decide (0 < e.balance) && (d.get i).isNone then d.add span i (.window 0) else d

/-- The filled map and the new rotation pointer (R67). In a reserved round steps 4 to 7 are not run. -/
def fillMap (homes : Vector Home 64) (p : HomeIdx) (span : Option (SpanKind × Nat)) : Draft × HomeIdx :=
  let len := (span.map (·.2)).getD 0
  let d := allIdx.foldl (stepForced homes len) Draft.empty
  let d := allIdx.foldl (stepDoze homes len) d
  match span with
  | some _ => (d, p)
  | none =>
    let d := allIdx.foldl (stepEnrol homes len) d
    let d := allIdx.foldl (stepGuaranteed homes len) d
    let r := distribute homes len p quantaPerRound d none
    let d := allIdx.foldl (stepOptional homes len) r.1
    (d, match r.2 with | some i => i + 1 | none => p)

/-! ### Placement (R73) -/

/-- The kind and the window length a grant's content gives it (R62, R72). -/
def PGrant.kind : PGrant → GrantKind
  | .window 0 => .poll
  | .window _ => .data
  | .test => .test
  | .ranging _ => .ranging

def PGrant.windowLength : PGrant → Nat
  | .window x => 3 + x
  | .test => 19
  | .ranging _ => 24

/-- The first quanta of the ranging spans, ascending. -/
def Draft.spans (d : Draft) : List Nat :=
  allIdx.foldr
    (fun i acc =>
      match d.get i with
      | some (.ranging s) => acc.filter (· < s) ++ s :: acc.filter (fun t => !(t < s))
      | _ => acc)
    []

/-- Where a window is laid. -/
structure Laid where
  start : Nat
  length : Nat
  cursor : Nat
  spans : List Nat
  deriving DecidableEq, Repr

/-- A grant is laid from a cursor among the ranging spans still ahead (R73). -/
def lay (isData : Bool) (len : Nat) : Nat → List Nat → Laid
  | cursor, [] => { start := cursor + 2, length := len, cursor := cursor + 2 + len, spans := [] }
  | cursor, s :: rest =>
    if s - 2 < cursor then lay isData len cursor rest
    else if cursor + 2 + len ≤ s - 2 then
      { start := cursor + 2, length := len, cursor := cursor + 2 + len, spans := s :: rest }
    else if isData ∧ cursor + 2 + 4 ≤ s - 2 then
      { start := cursor + 2, length := s - 2 - (cursor + 2), cursor := s + 24, spans := rest }
    else lay isData len (s + 24) rest

/-- The grants that are not Ranging, laid in ascending home index (R73). -/
def layAll (d : Draft) : List HomeIdx → Nat → List Nat → List Grant
  | [], _, _ => []
  | i :: is, cursor, spans =>
    match d.get i with
    | none => layAll d is cursor spans
    | some (.ranging _) => layAll d is cursor spans
    | some g =>
      let l := lay (g.kind == .data) g.windowLength cursor spans
      { kind := g.kind, index := i, start := l.start, length := l.length } :: layAll d is l.cursor l.spans

/-- A grant takes its place in ascending start order. -/
def insertGrant (g : Grant) : List Grant → List Grant
  | [] => [g]
  | h :: t => if g.start < h.start then g :: h :: t else h :: insertGrant g t

/-- The ranging grants at the positions step 4 fixed. -/
def rangingGrants (d : Draft) : List Grant :=
  allIdx.filterMap fun i =>
    match d.get i with
    | some (.ranging s) => some { kind := .ranging, index := i, start := s, length := 24 }
    | _ => none

/-- The grants of the laid-out map in ascending start order (R73). -/
def layout (d : Draft) (span : Nat) : List Grant :=
  (rangingGrants d).foldr insertGrant (layAll d allIdx span d.spans)

/-- The complete map and the new rotation pointer. -/
def planMap (homes : Vector Home 64) (p : HomeIdx) (span : Option (SpanKind × Nat)) : TalkMap × HomeIdx :=
  let r := fillMap homes p span
  ({ span, grants := layout r.1 ((span.map (·.2)).getD 0) }, r.2)

end Sys2Proof.Machine
end

