-- ==== Sys2Proof/Machine/Meter.lean ====
section
/-! DEFINITION. The usage meter and the traffic port (chapter 8): the band ring, byte counting, frames in both
directions. -/

namespace Sys2Proof.Machine

open Sys2Proof

/-- 2^40 - 1, the top of a byte counter and of a charge (R154, R179). -/
def byteMax : Nat := 1099511627775

/-! ### The band ring (R155 to R158) -/

/-- A segment's length in rounds: 120,000 for each minute (R155). -/
def Segment.rounds (g : Segment) : Nat := g.minutes * 120000

/-- A segment of a plan by its number; a plan holds 1..8 segments, and a number beyond them (which no ring pointer
holds) reads as the first day of band 0. -/
def Plan.segment (p : Plan) (n : Nat) : Segment := p.segments.getD n { band := 0, minutes := 1440 }

/-- The position after the move to the next segment, wrapping after the last to 0 (R156). -/
def Ring.next (r : Ring) (p : Plan) : Ring :=
  { seg := if r.seg + 1 < p.segments.length then r.seg + 1 else 0, elapsed := 0, due := false }

/-- The boundary's advance: the elapsed count gains 1; where that reaches the segment's length the move to the next
segment becomes due (R156). -/
def Ring.tick (r : Ring) (p : Plan) : Ring :=
  if r.elapsed + 1 < (p.segment r.seg).rounds then { r with elapsed := r.elapsed + 1 } else { r with due := true }

/-- The position as advanced for the boundary: a due move is made first (R157). -/
def Ring.settled (r : Ring) (p : Plan) : Ring := if r.due then r.next p else r

/-- A copied position fitted to a new plan, and whether the fitting changed it (R158). -/
def Ring.fit (r : Ring) (p : Plan) : Ring × Bool :=
  if r.seg < p.segments.length then
    if r.elapsed < (p.segment r.seg).rounds then (r, false) else (r.next p, true)
  else ({ seg := 0, elapsed := 0, due := false }, true)

/-- The position a plan's Given start gives (R157). -/
def Plan.startRing (p : Plan) : Ring := { seg := p.startSeg, elapsed := p.startOff * 2000, due := false }

/-- The band of the segment the pointer names (R156); absent with no Live bank. -/
def State.currentBand (s : State) : Option (Fin 4) :=
  match s.ring, s.banks.live with
  | some r, some l => some (l.plan.segment r.seg).band
  | _, _ => none

/-- RING_SEGMENT_ADVANCE where it is due (R156). -/
def State.advanceRing (s : State) : State :=
  match s.ring, s.banks.live with
  | some r, some l => if r.due then { s with ring := some (r.next l.plan) } else s
  | _, _ => s

/-- The ring's share of a boundary (R156). -/
def State.tickRing (s : State) : State :=
  match s.ring, s.banks.live with
  | some r, some l => { s with ring := some (r.tick l.plan) }
  | _, _ => s

/-! ### Counting bytes (R151, R153, R154) -/

/-- Bytes are added to the counter of the current band in the Live bank's record for an index (R151, R153). An addition
that would carry the counter beyond the top of its range leaves it there and sets the Saturated flag; it, and every
addition to a counter already at the top, one of 0 bytes included (DEDUCED, log 34), adds 1 to counter-saturated (R154,
R163). -/
def State.countBytes (s : State) (i : HomeIdx) (upward : Bool) (n : Nat) : State :=
  match s.banks.live, s.currentBand with
  | some l, some band =>
    match l.records[i.val] with
    | none => s
    | some r =>
      let old := if upward then r.up[band.val] else r.down[band.val]
      let beyond := decide (byteMax < old + n)
      let new := min (old + n) byteMax
      let flags := if beyond then { r.flags with saturated := true } else r.flags
      let r :=
        if upward then { r with up := r.up.set band.val new band.isLt, flags }
        else { r with down := r.down.set band.val new band.isLt, flags }
      let l := { l with records := l.records.set i.val (some r) i.isLt }
      let s := { s with banks := { s.banks with live := some l } }
      if beyond || decide (byteMax ≤ old) then s.bump .counterSaturated else s
  | _, _ => s

/-! ### Downstream frames (R81, R148, R149) -/

/-- The bytes a frame takes on the feeder: index, length and frame bytes (R217). -/
def Frame.lineBytes (f : Frame) : Nat := 3 + f.bytes.length

/-- The framer takes a delivered frame: it is sent at once where the framer sends nothing, no header is open and the
frame ends before the next round boundary; otherwise it waits (R81; `room`: log 22). -/
def State.handFrame (s : State) (f : Frame) (room : Nat) : State :=
  if s.framer.sending.isNone && !s.clock.headerOpen && decide (f.lineBytes ≤ room) then
    { s with framer := { s.framer with sending := some f } }
  else { s with framer := { s.framer with waiting := some f } }

/-- The waiting frame starts after a round header (R81). -/
def State.startWaiting (s : State) : State :=
  match s.framer.sending, s.framer.waiting with
  | none, some f => { s with framer := { s.framer with sending := some f, waiting := none } }
  | _, _ => s

/-- The traffic port takes a frame from the switch, where the framer holds no waiting frame (R148), and delivers or
discards it by the entry's state (R149). -/
def State.takeFrame (s : State) (index : Byte) (bytes : List Byte) (room : Nat) : State :=
  if s.framer.waiting.isSome then s
  else if h : index.toNat < 64 then
    if bytes.length < 64 ∨ 2000 < bytes.length then s.bump .trafficMalformed
    else
      let i : HomeIdx := ⟨index.toNat, h⟩
      match (s.entry i).state with
      | .active | .dozing => (s.handFrame { index := i, bytes } room).countBytes i false bytes.length
      | _ => s.bump .undeliverableFrame
  else s.bump .trafficMalformed

/-- DOWNSTREAM_FRAME (R149). -/
def execDownstreamFrame (index : Byte) (bytes : List Byte) (room : Nat) (s : State) :
    Host.Outcome State Fault Refusal :=
  .next (s.takeFrame index bytes room)

/-- A tree restart has been taken and its first idle-fill header has not gone out: all 8 idle-fill rounds are still to
begin (R82, R214). -/
def State.restartHeaderDue (s : State) : Bool := s.clock.idleLeft == 8

/-- The frame being sent ends, and the waiting frame starts where it ends before the next round boundary (R81); a frame
that a tree restart found waiting is sent after the restart's first idle-fill header (R150). -/
def State.frameSent (s : State) (room : Nat) : State :=
  match s.framer.sending with
  | none => s
  | some _ =>
    match s.framer.waiting with
    | some f =>
      if f.lineBytes ≤ room ∧ s.restartHeaderDue = false then
        { s with framer := { s.framer with sending := some f, waiting := none } }
      else { s with framer := { s.framer with sending := none } }
    | none => { s with framer := { s.framer with sending := none } }

/-- DOWNSTREAM_FRAME_SENT (R81). -/
def execDownstreamFrameSent (room : Nat) (s : State) : Host.Outcome State Fault Refusal := .next (s.frameSent room)

/-- RING_SEGMENT_ADVANCE (R156). -/
def execRingSegmentAdvance (s : State) : Host.Outcome State Fault Refusal := .next s.advanceRing

/-! ### Upstream frames (R152) -/

/-- The frames of a payload, and whether a length field was out of range or ran past the payload (R152). The first
argument bounds the number of frames; a payload's own length is enough. -/
def parseFrames : Nat → List Byte → List (List Byte) × Bool
  | 0, _ => ([], false)
  | n + 1, bs =>
    if bs.length < 2 then ([], false)
    else
      let len := field bs 0 2
      if len = 0 then ([], false)
      else if 64 ≤ len ∧ len ≤ 2000 ∧ len + 2 ≤ bs.length then
        let rest := parseFrames n (bs.drop (len + 2))
        ((bs.drop 2).take len :: rest.1, rest.2)
      else ([], true)

/-- The first `n` bytes of an operand; a byte it does not list reads as 0 (log 21). -/
def padTo (n : Nat) (bs : List Byte) : List Byte := bs.take n ++ List.replicate (n - bs.length) 0

/-- The payload of a decoded Data burst reaches the traffic port and the usage meter (R112, R152, R153). -/
def State.takePayload (s : State) (i : HomeIdx) (payload : List Byte) (len : Nat) : State :=
  let parsed := parseFrames (len + 1) (padTo len payload)
  let s := { s with toSwitch := s.toSwitch ++ parsed.1.map fun b => ({ index := i, bytes := b } : Frame) }
  let s := if parsed.2 then s.bump .upstreamMalformed else s
  s.countBytes i true len

end Sys2Proof.Machine
end

