-- ==== Sys2Proof/Machine/Banks.lean ====
section
/-! DEFINITION. The epoch banks and the rating engine (chapter 9). -/

namespace Sys2Proof.Machine

open Sys2Proof

/-- The flat plan of Setup (R166). -/
def Plan.flat : Plan where
  segments := [{ band := 0, minutes := 1440 }]
  startSeg := 0
  startOff := 0
  cont := true
  up := Vector.replicate 4 0
  down := Vector.replicate 4 0
  fee := 0
  scale := 0

/-- A new record: counters of 0, no charge (R171). -/
def UsageRecord.fresh (t : Tag) (start : Round) (flags : RecFlags) : UsageRecord where
  tag := t
  start := start
  stop := none
  up := Vector.replicate 4 0
  down := Vector.replicate 4 0
  charge := none
  flags := flags

/-- The record an accepted Approve makes, flagged Partial; a record the Live bank already holds for the index continues
(R171). -/
def State.makeRecord (s : State) (i : HomeIdx) : State :=
  match s.banks.live with
  | none => s
  | some l =>
    match l.records[i.val] with
    | some _ => s
    | none =>
      let r := UsageRecord.fresh (s.entry i).tagVal s.clock.round { RecFlags.clear with partialEpoch := true }
      let l := { l with records := l.records.set i.val (some r) i.isLt }
      { s with banks := { s.banks with live := some l } }

/-- The record a swap gives an entry: one for each Active, Dozing or Muted entry, with the Convicted flag for a Muted
(Convicted) one (R171). -/
def Entry.swapRecord (e : Entry) (round : Round) : Option UsageRecord :=
  if e.state.inService then
    some (.fresh e.tagVal round { RecFlags.clear with convicted := e.mute == some .convicted })
  else none

/-- The lowest index at or above `from` that a bank holds a record for (R178). -/
def nextRecord (records : Vector (Option UsageRecord) 64) (start : Nat) : Option HomeIdx :=
  allIdx.find? fun i => decide (start ≤ i.val) && (records[i.val]).isSome

/-- The bank that is not Live. -/
def BankId.flip : BankId → BankId
  | .bankA => .bankB
  | .bankB => .bankA

/-- The plan a swap opens with, where the other bank is Empty or Ready: its own, or the closing bank's (R174). -/
def OtherBank.openingPlan : OtherBank → Plan → Option Plan
  | .empty, closing => some closing
  | .ready p, _ => some p
  | .rating .., _ => none
  | .done _, _ => none

/-- The ring position a new Live bank starts from, and whether it was refitted (R157, R158). -/
def openingRing (other : OtherBank) (closing : Plan) (r : Ring) : Ring × Bool :=
  match other with
  | .ready p => if p.cont then (r.settled closing).fit p else (p.startRing, false)
  | _ => (r.settled closing, false)

/-- Every Retired entry enters Vacant (R15). -/
def State.vacateRetired (s : State) : State :=
  { s with homes := s.homes.map fun h => if h.entry.state = .retired then Home.vacant else h }

/-- The swap (R174), where the other bank is Empty or Ready; nothing otherwise. -/
def State.swap (s : State) : State :=
  match s.banks.live, s.setup with
  | some l, some p =>
    match s.banks.other.openingPlan l.plan with
    | none => s
    | some plan =>
      let round := s.clock.round
      let closed : ClosedBank :=
        { plan := l.plan, start := l.start, stop := round,
          records := l.records.map fun r => r.map fun r => { r with stop := some round } }
      let opened : LiveBank :=
        { plan, start := round, records := s.homes.map fun h => h.entry.swapRecord round }
      let ring := openingRing s.banks.other l.plan (s.ring.getD { seg := 0, elapsed := 0, due := false })
      let s :=
        { s with
          banks :=
            { liveId := s.banks.liveId.flip, live := some opened,
              other := .rating closed (nextRecord closed.records 0) false, timer := p.epoch, held := false }
          ring := some ring.1 }
      let s := if ring.2 then s.bump .ringRefit else s
      s.vacateRetired
  | _, _ => s

/-- The other bank is Empty or Ready, so a swap can be taken (R174). -/
def OtherBank.free : OtherBank → Bool
  | .empty | .ready _ => true
  | _ => false

/-- The epoch is held: the flag is set, the timer stays at 0, the counter gains 1 and an EpochHeld notice goes out
(R175, R184). -/
def State.holdEpoch (s : State) : State :=
  let s := { s with banks := { s.banks with held := true, timer := 0 } }
  (s.bump .epochHeld).raise (.epochHeld s.banks.liveId s.banks.other.code s.clock.round)

/-- The epoch timer has expired and the expiry has not been decided: the count is 0, no epoch is held, and a bank is
Live (R173). -/
def State.epochDue (s : State) : Bool := s.banks.live.isSome && s.banks.timer == 0 && !s.banks.held

/-- The expiry of the epoch timer, where it is due: the swap, or the hold (R175). -/
def State.expireEpoch (s : State) : State :=
  if s.epochDue then if s.banks.other.free then s.swap else s.holdEpoch else s

/-- EPOCH_TIMER_EXPIRY (R175). -/
def execEpochTimerExpiry (s : State) : Host.Outcome State Fault Refusal := .next s.expireEpoch

/-! ### Rating (R178, R179) -/

/-- Bytes rounded to KiB, halves up (R179 step 1). -/
def kib (bytes : Nat) : Nat := (bytes + 512) / 1024

/-- The sum of the eight products (R179 steps 2 and 3), before the clamp. -/
def ratingSum (r : UsageRecord) (p : Plan) : Nat :=
  ((List.finRange 4).map fun j => kib r.up[j.val] * p.up[j.val]).sum
    + ((List.finRange 4).map fun j => kib r.down[j.val] * p.down[j.val]).sum

/-- 2^48 - 1, the top of the accumulator (R179 step 3). -/
def accumulatorMax : Nat := 281474976710655

/-- The accumulator scaled with rounding, halves up (R179 step 4). -/
def scaled (a scale : Nat) : Nat := (a + (if scale = 0 then 0 else 2 ^ (scale - 1))) / 2 ^ scale

/-- The accumulator passed its top (R179 step 3). -/
def accumulatorOver (r : UsageRecord) (p : Plan) : Bool := decide (accumulatorMax < ratingSum r p)

/-- The charge before its clamp (R179 step 5). -/
def rawCharge (r : UsageRecord) (p : Plan) : Nat := scaled (min (ratingSum r p) accumulatorMax) p.scale + p.fee

/-- A rated record: its charge, and the flags a clamp sets (R179). -/
def UsageRecord.rated (r : UsageRecord) (p : Plan) : UsageRecord :=
  { r with
    charge := some (min (rawCharge r p) byteMax)
    flags :=
      { r.flags with
        saturated := r.flags.saturated || accumulatorOver r p
        clamped := r.flags.clamped || decide (byteMax < rawCharge r p) } }

/-- The rating engine's share of a boundary: the record at the rating position is rated and the position moves on; with
no record left, completion becomes due (R178). -/
def State.tickRating (s : State) : State :=
  match s.banks.other with
  | .rating b position _ =>
    match position with
    | none => { s with banks := { s.banks with other := .rating b none true } }
    | some i =>
      match b.records[i.val] with
      | none => { s with banks := { s.banks with other := .rating b none true } }
      | some r =>
        let b' := { b with records := b.records.set i.val (some (r.rated b.plan)) i.isLt }
        let next := nextRecord b.records (i.val + 1)
        let s := { s with banks := { s.banks with other := .rating b' next next.isNone } }
        let s := if accumulatorOver r b.plan then s.bump .accumulatorClamped else s
        if byteMax < rawCharge r b.plan then s.bump .chargeClamped else s
  | _ => s

/-- The number of a bank's records that satisfy a test. -/
def ClosedBank.count (b : ClosedBank) (f : UsageRecord → Bool) : Nat :=
  allIdx.countP fun i => (b.records[i.val]).any f

/-- Completion of rating, where it is due: the bank becomes Done and an EpochClosed notice goes out (R178). -/
def State.completeRating (s : State) : State :=
  match s.banks.other with
  | .rating b _ true =>
    ({ s with banks := { s.banks with other := .done b } }).raise
      (.epochClosed s.banks.liveId.flip b.start b.stop (b.count fun _ => true) (b.count fun r => r.flags.saturated)
        (b.count fun r => r.flags.clamped))
  | _ => s

/-- RATING_COMPLETE (R178). -/
def execRatingComplete (s : State) : Host.Outcome State Fault Refusal := .next s.completeRating

end Sys2Proof.Machine
end

