-- ==== Sys2Proof/Machine/Rogue.lean ====
section
/-! DEFINITION. The rogue monitor (chapter 7): starting isolation, the steps and their outcomes, the alarm, the
misbehaviour scores. -/

namespace Sys2Proof.Machine

open Sys2Proof

/-! ### Starting (R130 to R132) and the steps (R133 to R138) -/

/-- Every entry in Held, Active or Dozing, ascending: the candidate set of a start (R131). -/
def State.candidates (s : State) : List HomeIdx := allIdx.filter fun i => (s.entry i).state.candidate

/-- When isolation starts, an entry in Ranging or Testing is abandoned (R44). -/
def State.abandon (s : State) (round : Round) (i : HomeIdx) : State :=
  match (s.entry i).state with
  | .ranging | .testing => s.failEnrolment i .lost .abandoned round
  | _ => s

/-- Isolation starts: C is formed, enrolments are abandoned, every candidate is probe-muted and the Whole step begins;
an empty C is Unresolved at once (R131, R132). DESIGN CHOICE (log 37): the Ranging and Testing entries are abandoned in
ascending index, which orders their Leaves and their notices; R44 and R131 give no order. DEDUCED (log 11): `round`, the
round that the Unresolved outcome of an empty C carries, is the round being closed where a declaration starts isolation,
and the round counter at a StartIsolation or at the end of a backoff; its steps are 0. -/
def State.startIsolation (s : State) (round : Round) : State :=
  let cands := s.candidates
  let s := (s.bump .isolationRun).clearStreaks
  let s := allIdx.foldl (fun s i => s.abandon round i) s
  if cands.isEmpty then s.endUnresolved .empty round 0 []
  else
    let s := s.setProbes cands
    { s with
      rogue := { s.rogue with iso := .probing { cands, step := .whole, obs := none, settle := 1, steps := 1 } } }

/-- A later step begins with its candidate set and its probe mutes; its observation map is the first map built after
it begins (R133, R134). -/
def State.beginStep (s : State) (steps : Nat) (step : IsoStep) (cands muted : List HomeIdx) : State :=
  let s := s.setProbes muted
  { s with
    rogue := { s.rogue with iso := .probing { cands, step, obs := none, settle := 0, steps := steps + 1 } } }

/-- What follows a verdict that leaves the candidate set `c`: another Halving step, the Confirm step, or Unresolved with
the reason Empty (R136, R137). -/
def State.narrowTo (s : State) (round : Round) (steps : Nat) (c : List HomeIdx) : State :=
  match c with
  | [] => s.endUnresolved .empty round steps []
  | [i] => s.beginStep steps .confirm [i] [i]
  | _ => s.beginStep steps .halving c (c.take ((c.length + 1) / 2))

/-- A clean Confirm verdict convicts the candidate (R141; the flag of a Held home's record: log 17). -/
def State.convict (s : State) (i : HomeIdx) (round : Round) (steps : Nat) : State :=
  let e := s.entry i
  let own := s.straps.station
  let s := (s.setProbes []).clearStreaks
  let s := { s with rogue := { s.rogue with iso := .idle } }
  let s := s.flagRecord i fun f => { f with convicted := true }
  let s := if e.state = .held then s.endEnrolment i .lost round else s.muteHome i .convicted round
  let s := (s.addBar e.tagVal .rogue own).sendPeer (barMessage e.tagVal own)
  (s.bump .rogueConvicted).raise (.rogueConvicted i e.tagVal e.state round steps)

/-- The verdict of a step's observation round: void where it is clean and the line is dark, else the outcome of the
step (R134 to R138). -/
def State.stepVerdict (s : State) (p : Probe) (round : Round) (dirty blank : Bool) : State :=
  if !dirty && (blank || s.light.loss || s.framer.silence) then s.endUnresolved .line round p.steps p.cands
  else
    match p.step with
    | .whole =>
      if dirty then s.endUnresolved .whole round p.steps p.cands else s.narrowTo round p.steps p.cands
    | .halving => s.narrowTo round p.steps (p.cands.filter fun i => (s.entry i).probe != dirty)
    | .confirm =>
      if dirty then s.endUnresolved .confirm round p.steps p.cands
      else
        match p.cands with
        | i :: _ => s.convict i round p.steps
        | [] => s.endUnresolved .empty round p.steps []

/-! ### The alarm (R125 to R128) -/

/-- The verdict on a whole round (R99). -/
inductive RoundVerdict where
  | blank | lit | neither
  deriving DecidableEq, Repr

/-- The kinds of a closed round (R121). -/
inductive RoundKind where
  | normal | discovery | quiet | unmapped
  deriving DecidableEq, Repr

/-- A counted dirty round (R126), with the start of isolation that a declaration brings where auto-isolate is set and
isolation is Idle (R130). -/
def State.countDirty (s : State) (p : Params) (round : Round) (stray : Nat) : State :=
  let s := { s with rogue := { s.rogue with clean := 0 } }
  if s.rogue.alarm then s
  else if s.rogue.dirty + 1 < p.dirtyLen then { s with rogue := { s.rogue with dirty := s.rogue.dirty + 1 } }
  else
    let starts := p.autoIsolate && s.rogue.iso == .idle
    let s := { s with rogue := { s.rogue with alarm := true, alarmAge := 0 } }.clearStreaks
    let s := (s.bump .rogueAlarm).raise (.rogueAlarm true round stray starts 0)
    if starts then s.startIsolation round else s

/-- A counted clean round (R126, R127). -/
def State.countClean (s : State) (p : Params) (round : Round) : State :=
  let s := { s with rogue := { s.rogue with dirty := 0, clean := min (s.rogue.clean + 1) p.cleanLen } }
  if s.rogue.alarm && decide (p.cleanLen ≤ s.rogue.clean) then
    let age := s.rogue.alarmAge
    ({ s with rogue := { s.rogue with alarm := false, alarmAge := 0 } }.clearStreaks).raise
      (.rogueAlarm false round 0 false age)
  else s

/-- The rogue monitor takes a closed round (R121, R125, R134). -/
def State.takeRound (s : State) (round : Round) (stray : Nat) (verdict : RoundVerdict) (kind : RoundKind) : State :=
  match s.setup with
  | none => s
  | some p =>
    let dirty := decide (p.stray ≤ stray)
    match s.rogue.iso with
    | .probing q => if q.obs = some round then s.stepVerdict q round dirty (verdict == .blank) else s
    | _ =>
      if kind = .quiet then s
      else if dirty then s.countDirty p round stray
      else s.countClean p round

/-- The end of the isolation backoff, where it is due (R143). -/
def State.endBackoff (s : State) : State :=
  match s.rogue.iso, s.setup with
  | .backoff 0, some p =>
    if s.rogue.alarm && p.autoIsolate then s.startIsolation s.clock.round
    else { s with rogue := { s.rogue with iso := .idle } }
  | _, _ => s

/-- BACKOFF_EXPIRY (R143). -/
def execBackoffExpiry (s : State) : Host.Outcome State Fault Refusal := .next s.endBackoff

/-! ### Misbehaviour scores (R120, R144) -/

/-- A misbehaviour gain; a score that reaches M_lim mutes an Active or Dozing entry (R120, R144). -/
def State.gain (s : State) (p : Params) (i : HomeIdx) (round : Round) : State :=
  let e := s.entry i
  let score := min (e.score + 1) 31
  let s := s.modEntry i fun e => { e with score }
  if p.misLim ≤ score ∧ (e.state = .active ∨ e.state = .dozing) then
    ((s.muteHome i .misbehaving round).bump .misbehaviourMute).raise (.homeMisbehaving i e.tagVal score)
  else s

/-- One entry's score decays: it falls by 1 and stays at 0 (R145). -/
def Entry.decayed (e : Entry) : Entry := { e with score := e.score - 1 }

/-- After a gain of the close, a home whose decay of the boundary was held back waits for one gain fewer, and decays
where it waits for none (R120, R145; log 32). -/
def State.decayInTurn (s : State) (i : HomeIdx) : State :=
  if i ∈ s.rogue.owed then
    let owed := s.rogue.owed.erase i
    let s := { s with rogue := { s.rogue with owed } }
    if i ∈ owed then s else s.modEntry i Entry.decayed
  else s

/-- A gain of a close, with the decay of the same boundary where it stands after this gain (R120). -/
def State.gainInTurn (s : State) (p : Params) (i : HomeIdx) (round : Round) : State :=
  (s.gain p i round).decayInTurn i

/-- The decays of the boundary that are still held back are taken (R145; log 32). -/
def State.settleDecays (s : State) : State :=
  { s with
    homes := s.homes.mapFinIdx fun i h hi =>
      if s.rogue.owed.contains ⟨i, hi⟩ then { h with entry := h.entry.decayed } else h
    rogue := { s.rogue with owed := [] } }

end Sys2Proof.Machine
end

