-- ==== Sys2Proof/Machine/Boundary.lean ====
section
/-! DEFINITION. The round boundary (R78, R82): its opening, where the counts of the boundary move; the building of the
talk map and the closing of the header; and the events that fall due at a boundary. -/

namespace Sys2Proof.Machine

open Sys2Proof

/-! ### Events that fall due at a boundary. Where an event is not due it does not take place (log 4). -/

/-- The end of a Held entry's approval wait, where the clock stands at 4,000 (R39). -/
def State.expireApproval (s : State) (i : HomeIdx) : State :=
  match (s.entry i).state, (s.home i).progress with
  | .held, some p =>
    if p.clock = some 4000 then s.failEnrolment i .lost .noApproval s.clock.round else s
  | _, _ => s

/-- APPROVAL_TIMEOUT (R39). -/
def execApprovalTimeout (i : HomeIdx) (s : State) : Host.Outcome State Fault Refusal := .next (s.expireApproval i)

/-- A claim window whose count is 0 closes, and a Pending claim becomes Confirmed (R47). -/
def Home.confirm (h : Home) : Home :=
  if h.window = some 0 ∧ h.entry.claim = some .pending then
    { h with entry := { h.entry with claim := some .confirmed }, window := none }
  else h

/-- CLAIM_WINDOW_EXPIRY (R47). -/
def execClaimWindowExpiry (i : HomeIdx) (s : State) : Host.Outcome State Fault Refusal :=
  .next (s.modHome i Home.confirm)

/-- The end of a doze, where doze remaining is 0 (R95). -/
def State.expireDoze (s : State) (i : HomeIdx) : State :=
  if (s.entry i).state = .dozing ∧ (s.entry i).dozeLeft = some 0 then s.wakeHome i else s

/-- DOZE_EXPIRY (R95). -/
def execDozeExpiry (i : HomeIdx) (s : State) : Host.Outcome State Fault Refusal := .next (s.expireDoze i)

/-- The discovery decision of a boundary (R21, R22): a span is skipped, and counted, under isolation, at the enrolment
limit, or with no Vacant entry and every Retired entry's tag barred; otherwise it is offered. The due round advances by
P either way. -/
def State.decideDiscovery (s : State) (p : Params) : State :=
  let noPlace :=
    s.lowestVacant.isNone
      && allIdx.all fun i => (s.entry i).state != .retired || s.barred (s.entry i).tagVal
  let skip := s.probing || decide (4 ≤ s.enrollingCount) || noPlace
  let s := { s with enrol := { due := s.enrol.due + BitVec.ofNat 40 p.period, offered := !skip } }
  if skip then s.bump .enrolDeferred else s

/-- The discovery decision where it is due: at an open header whose round is the due round (R21). -/
def State.discoveryDue (s : State) : State :=
  match s.setup with
  | some p => if s.clock.headerOpen ∧ s.clock.round = s.enrol.due then s.decideDiscovery p else s
  | none => s

/-- DISCOVERY_DUE (R21). -/
def execDiscoveryDue (s : State) : Host.Outcome State Fault Refusal := .next s.discoveryDue

/-- The events of a boundary that no command has ordered, and the decays that no close has taken, are taken before the
next boundary opens (log 6, log 32). -/
def State.catchUp (s : State) : State :=
  let s := s.settleDecays
  let s := allIdx.foldl (fun s i => ((s.expireApproval i).modHome i Home.confirm).expireDoze i) s
  s.endBackoff.advanceRing.expireEpoch.completeRating

/-! ### The counts of a boundary -/

/-- A count falls by 1, and stays at 0. -/
def down (n : Nat) : Nat := n - 1

/-- The counts one index keeps: the approval clock of a Held entry outside isolation, as isolation stands when the
boundary opens (R39; DESIGN CHOICE, log 40), the window of a Pending claim (R47), the doze of a Dozing entry (R94), and
the decay of the misbehaviour score (R145). -/
def Home.tick (h : Home) (probing decay : Bool) : Home :=
  { h with
    entry :=
      { h.entry with
        dozeLeft := if h.entry.state = .dozing then h.entry.dozeLeft.map down else h.entry.dozeLeft
        score := if decay then down h.entry.score else h.entry.score }
    progress :=
      if h.entry.state = .held ∧ probing = false then
        h.progress.map fun p => { p with clock := p.clock.map fun c => min (c + 1) 4000 }
      else h.progress
    window := if h.entry.claim = some .pending then h.window.map down else h.window }

/-- A waiting Assign or Set delay is offered again (R28). -/
def State.reofferEnrol (s : State) (i : HomeIdx) : State :=
  match (s.home i).progress with
  | some p =>
    match p.waiting with
    | some d =>
      if s.dirRoom then (s.modProgress i fun p => { p with waiting := none }).pushDirective d else s
    | none => s
  | none => s

/-- A kept Wake is offered again (R80). -/
def State.reofferWake (s : State) (i : HomeIdx) : State :=
  if (s.home i).keptWake && s.dirRoom then
    (s.modHome i fun h => { h with keptWake := false }).pushDirective (.wake i)
  else s

/-- Waiting directives and kept Wakes are offered again at the boundary. DESIGN CHOICE (log 13): in ascending index,
and when the boundary opens, before its header takes directives from the queue; R28 and R80 leave both open. -/
def State.reoffer (s : State) : State :=
  allIdx.foldl State.reofferWake (allIdx.foldl State.reofferEnrol s)

/-- The boundaries a Declared transmit silence has lasted gain 1 (R84). -/
def State.tickSilence (s : State) : State :=
  if s.framer.silence then { s with framer := { s.framer with silenceAge := s.framer.silenceAge + 1 } } else s

/-- The boundaries a Declared feeder loss and a Declared alarm have lasted gain 1 (R101, R127). -/
def State.tickAges (s : State) : State :=
  { s with
    light := { s.light with lossAge := if s.light.loss then s.light.lossAge + 1 else s.light.lossAge }
    rogue := { s.rogue with alarmAge := if s.rogue.alarm then s.rogue.alarmAge + 1 else s.rogue.alarmAge } }

/-- The backoff count falls by 1 (R143). -/
def Isolation.tick : Isolation → Isolation
  | .backoff n => .backoff (down n)
  | .idle => .idle
  | .probing p => .probing p

/-- The windows and ranging spans of a round, ascending by start; an unmapped round holds none (R105, R122). -/
def RoundExp.windows (e : RoundExp) : List Window := (e.map.map (·.windows)).getD []

/-- The map of the round holds a discovery span (R66). -/
def RoundExp.discovers (e : RoundExp) : Bool := e.map.any fun m => m.span.any fun sp => sp.1 == .discovery

/-- The preset in force at a quantum of the arriving round: that of the last window or ranging span that has started
by then, switched to in its guard quanta; where none has started, the preset the round began with, or the one a tree
restart has set since (R108, R123; log 20). -/
def Receiver.presetAt (rx : Receiver) (quantum : Nat) : Nat :=
  let windows := (rx.arriving.map RoundExp.windows).getD []
  let started := windows.filter fun w => decide (rx.since < w.start ∧ w.start ≤ quantum)
  (started.getLast?.map (·.preset)).getD rx.preset

/-- The round that was arriving has arrived and waits for its close; the next one begins to arrive (R105, R117). The
preset in force at the end of the one stays for the other, and a discovery span sets the nominal one at quantum 0
(R108). -/
def Receiver.shift (rx : Receiver) : Receiver :=
  { preset := if rx.next.any RoundExp.discovers then nominalLevel else rx.presetAt quantaPerRound
    since := 0
    next := none
    arriving := rx.next
    closing := rx.closing ++ rx.arriving.toList }

/-- Every count of a boundary moves: the round counter, the ages, the counts of each index, the backoff, the epoch
timer, the band ring and the rating position, and waiting directives are offered again. DESIGN CHOICE (log 13): they
are offered here, before the header of the boundary takes directives, and ahead of the directives that a close or the
end of a doze offers at this boundary; R79 lets either block's directives join first. DESIGN CHOICE (log 32): a score
decays here, before any round that closes at this boundary brings a gain, unless `hold` names its home: that decay is
owed until the gains of the close. DESIGN CHOICE (log 40): the approval clocks gain here, ahead of an isolation that a
close or the end of a backoff starts at this boundary; R39 and R131 give no order. -/
def State.tickCounts (s : State) (hold : List HomeIdx) : State :=
  let round := s.clock.round + 1
  let decay := decide (round.toNat % 64 = 0)
  let probing := s.probing
  let s :=
    { s with
      clock := { s.clock with round }
      homes := s.homes.mapFinIdx fun i h hi => Home.tick h probing (decay && !hold.contains ⟨i, hi⟩)
      rogue := { s.rogue with iso := s.rogue.iso.tick, owed := if decay then hold else [] }
      banks := { s.banks with timer := down s.banks.timer }
      rx := Receiver.shift s.rx }
  s.tickSilence.tickAges.tickRing.tickRating.reoffer

/-- The dark set: the Muted and the probe-muted entries (R78). -/
def State.darkSet (s : State) : List HomeIdx :=
  allIdx.filter fun i => (s.entry i).state == .muted || (s.entry i).probe

/-- An idle-fill header is sent, with round number and dark set and nothing else, and the upstream round after it is
unmapped (R82, R83, R122). -/
def State.sendIdleHeader (s : State) : State :=
  let header : Header := { round := s.clock.round, idleFill := true, dark := s.darkSet, map := none, directives := [] }
  { s with framer := { s.framer with header := some header } }.startWaiting

/-- The upstream round that follows an idle-fill header has no map (R122). -/
def State.expectUnmapped (s : State) : State :=
  { s with rx := { s.rx with
      next := some { round := s.clock.round + 1, map := none, spanGood := false, cutOff := false } } }

/-! ### Building the map (R67 to R74) -/

/-- An upkeep tick for one entry, where its phase falls due and it is not frozen (R88, R89). -/
def Entry.upkeepTick (e : Entry) : Entry :=
  if e.pollable then { e with balance := min 8 (e.balance + 1) } else e

/-- The tick phase of this map boundary, and the ticks that fall due (R88, R89). DESIGN CHOICE (log 39): an entry that
enters Held at a close taken before the map of the same boundary ticks, and may be polled, in that map: R89's first map
after it enters Held, where R38 has its ticks and polls from the next boundary on. -/
def State.tickUpkeep (s : State) (p : Params) : State :=
  let phase := if s.clock.firstMap then 0 else (s.planner.phase + 1) % p.upkeep
  let frozen := s.light.loss || s.framer.silence
  { s with
    planner := { s.planner with phase }
    clock := { s.clock with firstMap := false }
    homes := s.homes.mapFinIdx fun i h _ =>
      if frozen = false ∧ i % p.upkeep = phase then { h with entry := h.entry.upkeepTick } else h }

/-- The charge of a grant on the balance of a Held or Active entry (R90). -/
def Entry.charged (e : Entry) : Entry :=
  if e.state = .held ∨ e.state = .active then { e with balance := max (-8) (e.balance - 1) } else e

/-- One home's share of completing a map: its backlog falls by the payload laid out, its balance by the charge, and the
enrolment controller learns that its request was placed (R74, R29, R34, R42). -/
def Home.granted (h : Home) (g : Grant) (upstream : Round) : Home :=
  let h := { h with entry := h.entry.charged }
  match g.kind with
  | .data => { h with entry := { h.entry with backlog := h.entry.backlog.map fun b => b - (g.length - 3) } }
  | .poll => h
  | .test =>
    if h.entry.state = .testing then
      { h with progress := h.progress.map fun p => { p with stage := .testOutstanding upstream } }
    else { h with retest := .placed upstream }
  | .ranging =>
    if h.entry.state = .ranging then
      { h with progress := h.progress.map fun p => { p with stage := .spanOutstanding upstream } }
    else { h with inPlace := .placed upstream }

/-- The purpose of a grant's window record (R105). -/
def Grant.purpose (g : Grant) (e : Entry) : Purpose :=
  match g.kind with
  | .data => .data
  | .poll => .poll
  | .test => if e.state = .testing then .enrolTest else .retest
  | .ranging => if e.state = .ranging then .enrolRanging else .inPlaceRanging

/-- The window record of a grant (R105, R108). -/
def Grant.window (g : Grant) (e : Entry) : Window where
  index := g.index
  purpose := g.purpose e
  start := g.start
  length := g.length
  payload := match g.kind with | .data => g.length - 3 | .test => 16 | _ => 0
  tag := e.tag
  preset := if g.kind = .ranging then nominalLevel else e.level.getD nominalLevel

/-- The map is completed: every grant takes its effect and the expectation of the next upstream round is taken (R74,
R105). -/
def State.completeMap (s : State) (m : TalkMap) : State :=
  let upstream := s.clock.round + 1
  let expectation : Expectation :=
    { span := m.span, windows := m.grants.map fun g => g.window (s.entry g.index) }
  let s := m.grants.foldl (fun s g => s.modHome g.index fun h => h.granted g upstream) s
  { s with rx := { s.rx with
      next := some { round := upstream, map := some expectation, spanGood := false, cutOff := false } } }

/-- A map built while isolation is Probing is a settle map or the observation map of the step (R134). -/
def Probe.mapBuilt (p : Probe) (upstream : Round) : Probe :=
  if 0 < p.settle then { p with settle := p.settle - 1 }
  else if p.obs.isNone then { p with obs := some upstream }
  else p

def State.noteMap (s : State) : State :=
  match s.rogue.iso with
  | .probing p => { s with rogue := { s.rogue with iso := .probing (p.mapBuilt (s.clock.round + 1)) } }
  | _ => s

/-- The framer tells a queuing block that its directive went out (R79): the stage of an Assign or of a Set delay from
ranging advances (R29, R34), and the correction marker of an entry becomes sent (R114), each where no later directive
of the same kind for it is still queued (DEDUCED, log 29). -/
def State.directiveSent (s : State) (d : Directive) : State :=
  match d with
  | .assign t i =>
    s.modProgress i fun p =>
      if p.stage = .awaitingAssign ∧ p.waiting = none ∧ (s.entry i).tag = some t ∧ d ∉ s.framer.queue then
        { p with stage := .spanDue }
      else p
  | .setDelay i _ =>
    if s.framer.queue.any (fun q => match q with | .setDelay j _ => j == i | _ => false) then s
    else
      s.modHome i fun h =>
        { h with
          marker := if h.marker = .queued then .sent s.clock.round else h.marker
          progress := h.progress.map fun p =>
            if p.stage = .awaitingSetDelay ∧ p.waiting = none then { p with stage := .testDue } else p }
  | _ => s

/-- The mapped header closes: it takes up to 8 directives from the head of the queue, oldest first (R78, R79). -/
def State.closeHeader (s : State) (m : TalkMap) : State :=
  let out := s.framer.queue.take 8
  let header : Header :=
    { round := s.clock.round, idleFill := false, dark := s.darkSet, map := some m, directives := out }
  let s :=
    { s with
      framer := { s.framer with queue := s.framer.queue.drop 8, header := some header }
      clock := { s.clock with headerOpen := false } }
  (out.foldl State.directiveSent s).startWaiting

/-- The reserved span of the map (R66): the quiet span while isolation is Probing, else the discovery span where one is
offered. -/
def State.reservedSpan (s : State) : Option (SpanKind × Nat) :=
  if s.probing then some (.quiet, quietSpan)
  else if s.enrol.offered then some (.discovery, Reach.discoverySpan s.straps.reach)
  else none

/-- An offered span that isolation has overtaken is skipped and counted (R22). -/
def State.dropOffer (s : State) : State :=
  let s' := { s with enrol := { s.enrol with offered := false } }
  if s.probing && s.enrol.offered then s'.bump .enrolDeferred else s'

/-- The planner builds the map of this boundary and hands it over; the header closes (R67 to R74, R78). -/
def State.buildMap (s : State) (p : Params) : State :=
  let s := (s.discoveryDue).tickUpkeep p
  let span := s.reservedSpan
  let s := s.dropOffer
  let r := planMap s.homes s.planner.rotation span
  let s := (s.completeMap r.1).noteMap
  let s := { s with planner := { s.planner with rotation := r.2 } }
  s.closeHeader r.1

/-- The map part of a boundary, where a mapped header is open. -/
def State.handMap (s : State) : State :=
  match s.setup with
  | some p => if s.clock.headerOpen then s.buildMap p else s
  | none => s

/-! ### The boundary -/

/-- A frame being sent has ended: it was started to end before this boundary (R81). -/
def State.endFrame (s : State) : State := { s with framer := { s.framer with sending := none } }

/-- An idle-fill round begins with its header, or a mapped header opens (R78, R82). -/
def State.beginRound (s : State) : State :=
  if 0 < s.clock.idleLeft then
    let s := { s with clock := { s.clock with idleLeft := s.clock.idleLeft - 1 } }
    s.sendIdleHeader.expectUnmapped
  else { s with clock := { s.clock with headerOpen := true } }

/-- A boundary opens. While the part is Unset the round counter stays at 0 and an idle-fill header goes out (R82,
R206). Otherwise what the boundary before still owes is taken, the counts move, and an idle-fill header goes out or a
mapped header opens (R78, R82). The decays named are held back for the close of this boundary (R120; log 32). -/
def State.openBoundary (s : State) (hold : List HomeIdx) : State :=
  match s.setup with
  | none => s.tickSilence.sendIdleHeader
  | some _ =>
    ((s.handMap.catchUp.endFrame).tickCounts hold).beginRound

/-- ROUND_BOUNDARY (R78). -/
def execRoundBoundary (part : BoundaryPart) (s : State) : Host.Outcome State Fault Refusal :=
  match part with
  | .whole => .next (s.openBoundary []).handMap
  | .opening => .next (s.openBoundary [])
  | .openingHolding decays => .next (s.openBoundary decays)
  | .map => .next s.handMap

/-- IDLE_FILL_END (R82, R88): the boundary that builds the first map after Setup or a tree restart. Where that boundary
has opened, its map is built; where its idle-fill headers have all been sent, it opens and its map is built; otherwise
the idle fill has not ended. -/
def State.endIdleFill (s : State) : State :=
  if s.setup.isSome ∧ s.clock.firstMap then
    if s.clock.headerOpen then s.handMap
    else if s.clock.idleLeft = 0 then (s.openBoundary []).handMap
    else s
  else s

/-- IDLE_FILL_END (R82). -/
def execIdleFillEnd (s : State) : Host.Outcome State Fault Refusal := .next s.endIdleFill

end Sys2Proof.Machine
end

