-- ==== Sys2Proof/Machine/Operands.lean ====
section
/-! DEFINITION. What the part reads from the lines: bursts (R218), peer messages and request bodies (R219). -/

namespace Sys2Proof.Machine

open Sys2Proof

/-! ### Bursts (R218) -/

/-- The header quantum's check matches its bytes 0..5 (R110, R218). -/
def headerCheck (h : List Byte) : Bool := (crcBytes (h.take 6)).toNat == field h 6 2

def headerIndex (h : List Byte) : Nat := byteAt h 0 % 64

def headerWish (h : List Byte) : Bool := (byteAt h 1).testBit 0

def headerLength (h : List Byte) : Nat := field h 2 2

def headerBacklog (h : List Byte) : Nat := field h 4 2

/-- The check of a discovery or ranging body matches its bytes 0..8 (R218). -/
def bodyCheck (b : List Byte) : Bool := (crcBytes (b.take 9)).toNat == field b 9 2

def bodyTag (b : List Byte) : Tag := tagAt b 0

def bodyBackoff (b : List Byte) : Nat := byteAt b 8

/-! ### Kinds (R219) -/

def isAnswerOrNotice (k : Nat) : Bool := (1 ≤ k && k ≤ 5) || k == 16 || (48 ≤ k && k ≤ 55)

def isPeer (k : Nat) : Bool := 8 ≤ k && k ≤ 10

def isRequest (k : Nat) : Bool := 20 ≤ k && k ≤ 41

/-- The kind is given in Line and Bus Formats (R201, R205). -/
def knownKind (k : Nat) : Bool := isAnswerOrNotice k || isPeer k || isRequest k

/-! ### Peer messages (R48) -/

/-- A well-formed Claim: its tag and the index it carries. -/
def claimBody (m : InMsg) : Option (Tag × Nat) :=
  if m.body.length = 10 ∧ byteAt m.body 8 = m.sender.toNat then some (tagAt m.body 0, byteAt m.body 9) else none

/-- A well-formed Counter-claim: its tag. -/
def counterClaimBody (m : InMsg) : Option Tag :=
  if m.body.length = 9 ∧ byteAt m.body 8 = m.sender.toNat then some (tagAt m.body 0) else none

/-- The bar reason a code stands for (R216). -/
def barReasonOf : Nat → Option BarReason
  | 1 => some .rogue
  | 2 => some .clone
  | 3 => some .operator
  | _ => none

/-- A well-formed Bar: its tag and reason. -/
def barBody (m : InMsg) : Option (Tag × BarReason) :=
  if m.body.length = 10 ∧ byteAt m.body 9 = m.sender.toNat then
    (barReasonOf (byteAt m.body 8)).map fun r => (tagAt m.body 0, r)
  else none

/-! ### Values brought into range -/

/-- A value replaced by the nearest end of a range (00_scope.md, conventions). -/
def clampTo (lo hi v : Nat) : Nat := max lo (min v hi)

/-- One Setup parameter: its default where its mask bit is set, else the value carried, brought into range; with
whether a carried value was moved (R209). -/
def setupValue (mask bit : Nat) (default lo hi v : Nat) : Nat × Bool :=
  if mask.testBit bit then (default, false) else (clampTo lo hi v, clampTo lo hi v != v)

/-- The ten values of a Setup body, and whether any carried value was brought into range (R209, R219). -/
def setupParams (b : List Byte) : Params × Bool :=
  let mask := byteAt b 15
  let i := setupValue mask 0 16 4 256 (field b 0 2)
  let p := setupValue mask 1 64 8 1024 (field b 2 2)
  let e := setupValue mask 2 172800000 2000 4294967295 (field b 4 4)
  let ts := setupValue mask 3 8 1 255 (byteAt b 8)
  let nd := setupValue mask 4 4 2 16 (byteAt b 9)
  let nc := setupValue mask 5 16 4 64 (byteAt b 10)
  let em := setupValue mask 6 4 0 255 (byteAt b 11)
  let ml := setupValue mask 7 16 4 31 (byteAt b 12)
  let auto := byteAt b 13
  let rep := byteAt b 14
  ({ upkeep := i.1, period := p.1, epoch := e.1, stray := ts.1, dirtyLen := nd.1, cleanLen := nc.1, errMax := em.1,
     misLim := ml.1, autoIsolate := decide (auto ≠ 0), report := BitVec.ofNat 5 (min rep 31) },
   i.2 || p.2 || e.2 || ts.2 || nd.2 || nc.2 || em.2 || ml.2 || decide (1 < auto) || decide (31 < rep))

/-- The rates, fee and scale of a LoadRates body applied over a plan; whether the scale was replaced (R168, R219). -/
def loadRatesPlan (b : List Byte) (p : Plan) : Plan :=
  { p with
    up := Vector.ofFn fun j => field b (2 * j.val) 2
    down := Vector.ofFn fun j => field b (8 + 2 * j.val) 2
    fee := field b 16 2
    scale := min (byteAt b 18) 7 }

/-- One segment of a LoadRing body, brought into range (R169, R219). -/
def ringSegment (b : List Byte) (k : Nat) : Segment :=
  { band := ⟨min (byteAt b (6 + 3 * k)) 3, by omega⟩
    minutes := clampTo 1 1440 (field b (7 + 3 * k) 2) }

/-- The segments of a LoadRing body (R169). -/
def ringSegments (b : List Byte) : List Segment := (List.range (byteAt b 0)).map (ringSegment b)

/-- The start segment a LoadRing body gives, brought into range (R169). -/
def ringStartSeg (b : List Byte) : Nat := if byteAt b 1 < byteAt b 0 then byteAt b 1 else 0

/-- The start offset a LoadRing body gives, against the start segment already in range (R169). -/
def ringStartOff (b : List Byte) : Nat :=
  if field b 2 3 * 2000 < (ringSegment b (ringStartSeg b)).minutes * 120000 then field b 2 3 else 0

/-- The ring items of a LoadRing body applied over a plan (R169). -/
def loadRingPlan (b : List Byte) (p : Plan) : Plan :=
  { p with
    segments := ringSegments b
    startSeg := ringStartSeg b
    startOff := ringStartOff b
    cont := decide (byteAt b 5 ≠ 0) }

/-- Some value of a LoadRing body was replaced (R169). -/
def ringClamped (b : List Byte) : Bool :=
  (List.range (byteAt b 0)).any (fun k =>
      decide ((ringSegment b k).minutes ≠ field b (7 + 3 * k) 2)
        || decide ((ringSegment b k).band.val ≠ byteAt b (6 + 3 * k)))
    || decide (ringStartSeg b ≠ byteAt b 1) || decide (ringStartOff b ≠ field b 2 3)

end Sys2Proof.Machine
end

