-- ==== Sys2Proof/Machine/Claims.lean ====
section
/-! DEFINITION. The claim unit and the peer messages at the inbox head (R48 to R57, R201). -/

namespace Sys2Proof.Machine

open Sys2Proof

/-- The head message is removed from the inbox. -/
def State.popInbox (s : State) : State :=
  { s with bus := { s.bus with inbox := s.bus.inbox.tail }, waited := false }

/-- A message of one kind at the inbox head is removed and dealt with; another head is left (log 7). -/
def State.takePeer (s : State) (kind : Nat) (f : State → InMsg → State) : State :=
  match s.bus.inbox with
  | m :: _ => if m.kind.toNat = kind then f s.popInbox m else s
  | [] => s

/-! ### Claim (R49 to R52) -/

/-- An enrolling entry yields to a peer's Claim (R50). -/
def State.yieldHome (s : State) (i : HomeIdx) : State :=
  ((s.endEnrolment i .dropped s.clock.round).bump .localYield).raise (.enrollFailed i (s.entry i).tagVal .claimed)

/-- A Pending entry in service is dropped (R51); the peer's index is 255 where the message carries none (R220). -/
def State.dropHome (s : State) (i : HomeIdx) (peer : Station) (peerIndex : Nat) : State :=
  let t := (s.entry i).tagVal
  let s := (s.retire i .dropped s.clock.round).offerLeave (.leaveIndex i)
  ((s.addBar t .clone peer).bump .cloneDrop).raise (.duplicateTag t i .retired peer peerIndex)

/-- A Counter-claim is sent to a peer, with its notice; the local entry does not change (R52;
log 15). -/
def State.disputeClaim (s : State) (i : HomeIdx) (t : Tag) (peer : Station) (peerIndex : Nat) : State :=
  let st := (s.entry i).state
  let s :=
    if s.outRoom then (s.post (counterClaimMessage t s.straps.station peer)).bump .counterClaimsSent
    else s.bump .claimUnsent
  s.raise (.duplicateTag t i st peer peerIndex)

/-- A peer's Claim, decided by the local holding of its tag (R49). -/
def State.peerClaim (s : State) (t : Tag) (peerIndex : Nat) (peer : Station) : State :=
  match s.holder t with
  | none => s
  | some i =>
    match (s.entry i).state with
    | .ranging | .testing | .held => s.yieldHome i
    | .active | .dozing | .muted =>
      if (s.entry i).claim = some .pending ∧ peer < s.straps.station then s.dropHome i peer peerIndex
      else s.disputeClaim i t peer peerIndex
    | .vacant | .retired => s

/-- CLAIM (R49). -/
def execClaim (s : State) : Host.Outcome State Fault Refusal :=
  .next (s.takePeer 8 fun s m =>
    match claimBody m with
    | some (t, k) => s.peerClaim t k m.sender
    | none => s.bump .peerMalformed)

/-! ### Counter-claim (R53) -/

/-- A peer's Counter-claim drops a Pending entry in service, and is ignored and counted otherwise (R53). -/
def State.peerCounterClaim (s : State) (t : Tag) (peer : Station) : State :=
  match s.holder t with
  | none => s.bump .counterClaimsIgnored
  | some i =>
    if (s.entry i).state.inService ∧ (s.entry i).claim = some .pending then s.dropHome i peer 255
    else s.bump .counterClaimsIgnored

/-- COUNTER_CLAIM (R53). -/
def execCounterClaim (s : State) : Host.Outcome State Fault Refusal :=
  .next (s.takePeer 9 fun s m =>
    match counterClaimBody m with
    | some t => s.peerCounterClaim t m.sender
    | none => s.bump .peerMalformed)

/-! ### Bar (R55, R57) -/

/-- The entry in Ranging, Testing or Held that holds a tag, which a bar ends (R55). -/
def State.barTarget (s : State) (t : Tag) : Option HomeIdx :=
  match s.holder t with
  | some i => if (s.entry i).state.enrolling then some i else none
  | none => none

/-- A well-formed Bar from a peer (R57). -/
def State.peerBar (s : State) (t : Tag) (r : BarReason) (peer : Station) : State :=
  let s := (s.addBar t r peer).bump .barReceived
  match s.barTarget t with
  | some i => s.failEnrolment i .lost .barred s.clock.round
  | none => s

/-- BAR (R57). -/
def execBar (s : State) : Host.Outcome State Fault Refusal :=
  .next (s.takePeer 10 fun s m =>
    match barBody m with
    | some (t, r) => s.peerBar t r m.sender
    | none => s.bump .peerMalformed)

/-! ### Foreign messages (R201) -/

/-- An answer or notice of another station is removed and discarded (R201). -/
def State.dropForeign (s : State) : State :=
  match s.bus.inbox with
  | m :: _ => if isAnswerOrNotice m.kind.toNat then s.popInbox.bump .foreignMessage else s
  | [] => s

/-- FOREIGN_MESSAGE (R201). -/
def execForeignMessage (s : State) : Host.Outcome State Fault Refusal := .next s.dropForeign

end Sys2Proof.Machine
end

