-- ==== Sys2Proof/Machine/Handler.lean ====
section
/-! DEFINITION. The message handler (chapter 11): taking the request at the inbox head and answering it. -/

namespace Sys2Proof.Machine

open Sys2Proof

/-- What a request comes to: its outcome code, the data of its answer, and its effect on the part. The effect is applied
after the answer has joined the outbox (R202). -/
structure Reply where
  code : OutcomeCode
  data : List Byte
  effect : State → State

/-- A refused request: no data, and nothing changes (R203, R204). -/
def Reply.refuse (c : OutcomeCode) : Reply := { code := c, data := [], effect := id }

/-- A refused request that the handler counts (R205, R215). -/
def Reply.refuseCounted (c : OutcomeCode) (k : Counter) : Reply :=
  { code := c, data := [], effect := fun s => s.bump k }

/-- An executed request. -/
def Reply.done (c : OutcomeCode) (data : List Byte) (effect : State → State) : Reply := { code := c, data, effect }

/-- A request at the head that finds the outbox full waits, and is counted once (R202). -/
def State.waitForRoom (s : State) : State := if s.waited then s else { s with waited := true }.bump .requestWaited

/-- A request is taken: it leaves the inbox, its answer joins the outbox, its effect follows, and it is counted (R202,
R203, R213). -/
def State.answerTo (s : State) (m : InMsg) (r : Reply) : State :=
  (r.effect (s.post (answerMessage m.sender m.kind r.code r.data))).bump .requestsTaken

/-- The checks that come before a request's own: its length, then the Unset state (R205, R206). -/
def requestReply (lengthGood unsetAdmits : Bool) (s : State) (own : Reply) : Reply :=
  if !lengthGood then .refuseCounted .badLength .badLength
  else if s.setup.isNone && !unsetAdmits then .refuseCounted .notSet .notSet
  else own

/-- A request of one kind at the inbox head is taken when the outbox has room, and waits otherwise; another head is
left (R201, R202, log 7). -/
def State.takeRequest (s : State) (kind : Nat) (lengthGood : Nat → Bool) (unsetAdmits : Bool)
    (own : State → List Byte → Reply) : State :=
  match s.bus.inbox with
  | [] => s
  | m :: _ =>
    if m.kind.toNat = kind then
      if s.outRoom then
        let s := s.popInbox
        s.answerTo m (requestReply (lengthGood m.body.length) unsetAdmits s (own s m.body))
      else s.waitForRoom
    else s

/-- The index byte of a request, where it is 0..63. -/
def indexOf (n : Nat) : Option HomeIdx := if h : n < 64 then some ⟨n, h⟩ else none

/-- A request on one index: an index above 63 is answered BAD_INDEX. -/
def onIndex (n : Nat) (f : HomeIdx → Reply) : Reply :=
  match indexOf n with
  | some i => f i
  | none => .refuse .badIndex

/-- A request of a kind the part does not know is answered BAD_KIND (R205). -/
def State.takeUnknown (s : State) : State :=
  match s.bus.inbox with
  | [] => s
  | m :: _ =>
    if knownKind m.kind.toNat then s
    else if s.outRoom then s.popInbox.answerTo m (.refuseCounted .badKind .badKind)
    else s.waitForRoom

/-- UNKNOWN_KIND (R205). -/
def execUnknownKind (s : State) : Host.Outcome State Fault Refusal := .next s.takeUnknown

end Sys2Proof.Machine
end

