-- ==== Sys2Proof/Machine/BankRequests.lean ====
section
/-! DEFINITION. The requests on the epoch banks: LoadRates, LoadRing, CloseEpoch, ReadUsageSummary, ReadUsageVolumes,
ReleaseBank (R167 to R182). -/

namespace Sys2Proof.Machine

open Sys2Proof

/-- A plan part is loaded into the other bank: over a Continue copy of the Live plan where it is Empty, over its plan
where it is Ready (R167). -/
def State.loadPlan (s : State) (f : Plan → Plan) : State :=
  match s.banks.other, s.banks.live with
  | .empty, some l => { s with banks := { s.banks with other := .ready (f { l.plan with cont := true }) } }
  | .ready p, _ => { s with banks := { s.banks with other := .ready (f p) } }
  | _, _ => s

/-- The answer to a load: BANK_BUSY where the other bank is Rating or Done, else the bank loaded (R167, R168). -/
def loadReply (s : State) (clamped : Bool) (f : Plan → Plan) : Reply :=
  if !s.banks.other.free then .refuse .bankBusy
  else .done (if clamped then .clamped else .ok) (bytesOf 1 s.banks.liveId.flip.code) fun s => s.loadPlan f

def loadRatesReply (s : State) (body : List Byte) : Reply :=
  loadReply s (decide (7 < byteAt body 18)) (loadRatesPlan body)

/-- LOAD_RATES (R168). -/
def execLoadRates (s : State) : Host.Outcome State Fault Refusal :=
  .next (s.takeRequest 36 (· == 19) false loadRatesReply)

/-- The count and the length of a LoadRing come before the bank check (R169; counted: log 16). -/
def loadRingReply (s : State) (body : List Byte) : Reply :=
  let n := byteAt body 0
  if n = 0 ∨ 8 < n ∨ body.length ≠ 6 + 3 * n then .refuseCounted .badLength .badLength
  else loadReply s (ringClamped body) (loadRingPlan body)

/-- LOAD_RING (R169). -/
def execLoadRing (s : State) : Host.Outcome State Fault Refusal :=
  .next (s.takeRequest 37 (fun n => decide (6 ≤ n)) false loadRingReply)

def closeEpochReply (s : State) (_ : List Byte) : Reply :=
  if s.banks.other.free then
    .done .ok (bytesOf 1 s.banks.liveId.flip.code ++ bytesOf 5 s.clock.round.toNat) State.swap
  else .refuse .bankBusy

/-- CLOSE_EPOCH (R176). -/
def execCloseEpoch (s : State) : Host.Outcome State Fault Refusal :=
  .next (s.takeRequest 38 (· == 0) false closeEpochReply)

/-- A read of one rated record: BAD_INDEX, BANK_BUSY, NOT_DONE or ABSENT, else the data of the record (R180, R181). -/
def usageReply (s : State) (body : List Byte) (data : HomeIdx → UsageRecord → List Byte) : Reply :=
  onIndex (byteAt body 0) fun i =>
    match s.banks.other with
    | .rating .. => .refuse .bankBusy
    | .empty | .ready _ => .refuse .notDone
    | .done b =>
      match b.records[i.val] with
      | none => .refuse .absent
      | some r => .done .ok (bytesOf 1 s.banks.liveId.flip.code ++ bytesOf 1 i.val ++ bytesOf 8 r.tag.toNat ++ data i r) id

/-- What a ReadUsageSummary answer carries after the tag (R220). -/
def UsageRecord.summaryBytes (r : UsageRecord) : List Byte :=
  bytesOf 1 r.flags.byte ++ bytesOf 5 r.start.toNat ++ bytesOf 5 ((r.stop.map BitVec.toNat).getD 0)
    ++ bytesOf 5 (r.charge.getD 0)

/-- READ_USAGE_SUMMARY (R180). -/
def execReadUsageSummary (s : State) : Host.Outcome State Fault Refusal :=
  .next (s.takeRequest 39 (· == 1) false fun s body => usageReply s body fun _ r => r.summaryBytes)

/-- What a ReadUsageVolumes answer carries after the tag: the direction (0 up, nonzero down) and its four counters in
band order (R220). DESIGN CHOICE (log 33): any nonzero direction is sent back as 1. -/
def UsageRecord.volumeBytes (r : UsageRecord) (direction : Nat) : List Byte :=
  let down := decide (direction ≠ 0)
  bytesOf 1 down.toNat ++ ((if down then r.down else r.up).toList.flatMap (bytesOf 5))

/-- READ_USAGE_VOLUMES (R181). -/
def execReadUsageVolumes (s : State) : Host.Outcome State Fault Refusal :=
  .next (s.takeRequest 40 (· == 2) false fun s body => usageReply s body fun _ r => r.volumeBytes (byteAt body 1))

/-- The Done bank becomes Empty, and a held swap is performed at once (R182). -/
def State.releaseBank (s : State) : State :=
  let held := s.banks.held
  let s := { s with banks := { s.banks with other := .empty } }
  if held then s.swap else s

/-- The answer tells whether a held swap was performed, 1 or 0 (DESIGN CHOICE, log 33), and in which round (R182,
R220). -/
def releaseBankReply (s : State) (_ : List Byte) : Reply :=
  match s.banks.other with
  | .done _ =>
    .done .ok (bytesOf 1 s.banks.held.toNat ++ bytesOf 5 (if s.banks.held then s.clock.round.toNat else 0))
      State.releaseBank
  | _ => .refuse .notDone

/-- RELEASE_BANK (R182). -/
def execReleaseBank (s : State) : Host.Outcome State Fault Refusal :=
  .next (s.takeRequest 41 (· == 0) false releaseBankReply)

end Sys2Proof.Machine
end

