-- ==== Sys2Proof/Machine/BarRequests.lean ====
section
/-! DEFINITION. The requests on the bar list: AddBar, ClearBar, ReadBarList (R58 to R60). -/

namespace Sys2Proof.Machine

open Sys2Proof

/-- The tag an addition would evict (R54, R58). -/
def State.wouldEvict (s : State) (t : Tag) : Option Tag :=
  if s.barred t then none else if s.bars.length < 16 then none else s.bars.head?.map (·.tag)

/-- An accepted AddBar: the addition, and the end of an enrolment that holds the tag, without a notice (R55, R58). -/
def State.operatorBar (s : State) (t : Tag) : State :=
  let s := s.addBar t .operator s.straps.station
  match s.barTarget t with
  | some i => s.endEnrolment i .lost s.clock.round
  | none => s

/-- The presence byte, the index and the evicted tag of an AddBar answer (R220). -/
def addBarBytes (index : Option HomeIdx) (evicted : Option Tag) : List Byte :=
  bytesOf 1 (bitIf index.isSome 1 + bitIf evicted.isSome 0) ++ bytesOf 1 ((index.map (·.val)).getD 0)
    ++ bytesOf 8 ((evicted.map BitVec.toNat).getD 0)

def addBarReply (s : State) (body : List Byte) : Reply :=
  let t := tagAt body 0
  .done .ok (addBarBytes (s.barTarget t) (s.wouldEvict t)) fun s => s.operatorBar t

/-- ADD_BAR (R58). -/
def execAddBar (s : State) : Host.Outcome State Fault Refusal :=
  .next (s.takeRequest 29 (· == 8) true addBarReply)

def clearBarReply (s : State) (body : List Byte) : Reply :=
  if byteAt body 0 ≠ 0 then .done .ok [] fun s => { s with bars := [] }
  else if s.barred (tagAt body 1) then
    .done .ok [] fun s => { s with bars := s.bars.filter fun e => e.tag != tagAt body 1 }
  else .refuse .absent

/-- CLEAR_BAR (R59). -/
def execClearBar (s : State) : Host.Outcome State Fault Refusal :=
  .next (s.takeRequest 30 (· == 9) true clearBarReply)

/-- One position of a ReadBarList answer: the tag, and a byte of reason and origin; reason 0 where absent (R220). -/
def barBytes : Option BarEntry → List Byte
  | some e => bytesOf 8 e.tag.toNat ++ bytesOf 1 (e.reason.code * 2 ^ 6 + e.origin.toNat)
  | none => bytesOf 9 0

def readBarListReply (s : State) (body : List Byte) : Reply :=
  let page := byteAt body 0
  if 3 < page then .refuse .badIndex
  else
    .done .ok
      (bytesOf 1 s.bars.length ++ bytesOf 1 page ++ (List.range 4).flatMap fun k => barBytes s.bars[4 * page + k]?) id

/-- READ_BAR_LIST (R60). -/
def execReadBarList (s : State) : Host.Outcome State Fault Refusal :=
  .next (s.takeRequest 31 (· == 1) true readBarListReply)

end Sys2Proof.Machine
end

