-- ==== Sys2Proof/Machine/BusPort.lean ====
section
/-! DEFINITION. The shelf bus port (chapter 10): receiving, arbitration and sending, the take slot, station clash. -/

namespace Sys2Proof.Machine

open Sys2Proof

/-! ### The bits of a message (R186, R187) -/

/-- The bits of class to body, in the order they are sent (R186). -/
def frameBits (cls : BitVec 2) (kind : BitVec 6) (sender target : Station) (length : BitVec 6) (body : List Byte) :
    List Bool :=
  bitsOf 2 cls.toNat ++ bitsOf 6 kind.toNat ++ bitsOf 5 sender.toNat ++ bitsOf 5 target.toNat
    ++ bitsOf 6 length.toNat ++ byteBits body

/-- The check a receiver computes over a message it has sampled (R187). -/
def goodCheck (m : BusMessage) : Bool :=
  crc16 (frameBits m.cls m.kind m.sender m.target m.length m.body) == m.check

/-- The arbitration field: class, kind and sender, 13 bits (R188). -/
def OutMsg.arbitration (m : OutMsg) (own : Station) : List Bool :=
  bitsOf 2 m.cls.toNat ++ bitsOf 6 m.kind.toNat ++ bitsOf 5 own.toNat

/-- The bits a sender drives from its start bit to its last check bit (R186). -/
def OutMsg.bits (m : OutMsg) (own : Station) : List Bool :=
  let body := frameBits m.cls m.kind own m.target (BitVec.ofNat 6 m.body.length) m.body
  false :: body ++ bitsOf 16 (crc16 body).toNat

/-! ### Idle (R185, R200) -/

/-- One bit time that holds no message: an idle one adds 1 to the idle count, up to 12, and any other sets it to 0
(R185). The port is ready once the count has reached 12 (R192, R200). -/
def Bus.pass (b : Bus) : BitTime → Bus
  | .idle => { b with idle := min 12 (b.idle + 1), ready := b.ready || decide (12 ≤ b.idle + 1) }
  | .busy => { b with idle := 0 }

/-- Bit times that hold no message, in their order. -/
def State.passTimes (s : State) (times : List BitTime) : State := { s with bus := times.foldl Bus.pass s.bus }

/-! ### Receiving (R190 to R192, R198) -/

/-- The message is malformed before or by its sender field's end: a length of 41..63, or the sender 31 (R192). -/
def BusMessage.malformed (m : BusMessage) : Bool := decide (40 < m.length.toNat) || m.sender == 31

def State.resetIdle (s : State) : State := { s with bus := { s.bus with idle := 0 } }

/-- A station clash is heard: the port becomes Listen-only (R198). -/
def State.clash (s : State) : State := { s with bus := { s.bus with listenOnly := true } }.bump .stationClash

/-- The message is appended to the tail of the inbox (R191). -/
def State.takeMessage (s : State) (m : BusMessage) : State :=
  let entry : InMsg := { cls := m.cls, kind := m.kind, sender := m.sender, target := m.target, body := m.body }
  { s with bus := { s.bus with inbox := s.bus.inbox ++ [entry] } }.bump .messagesTaken

/-- The port receives a message on the bus: it is not listen-only, not sending, and its idle count has reached 12 since
the full reset and since a message whose length it could not read (R190, R192, R199, R200; log 23). -/
def Bus.receives (b : Bus) : Bool := !b.listenOnly && !b.sending && b.ready

/-- A length of 41..63 ends the receiver's hold on the bus: it counts frame-error at that point and waits for the idle
count, so that nothing else of the message, its end included, is received (R192). -/
def State.loseStep (s : State) : State := { s with bus := { s.bus with ready := false } }.bump .frameError

/-- The decision at the end of the check field, in the order of R190; a length of 41..63 is found at the length field
(R192). DESIGN CHOICE (log 23): a message that begins before 12 idle bit times have passed is decided like any other,
but for one that follows such a length. A port that does not receive only ends its idle
count (log 23). -/
def State.receive (s : State) (m : BusMessage) : State :=
  let s := s.resetIdle
  if !s.bus.receives then s
  else if 40 < m.length.toNat then s.loseStep
  else if BusMessage.malformed m then s.bump .frameError
  else if !goodCheck m then s.bump .crcError
  else if m.sender = s.straps.station then s.clash
  else if m.target ≠ s.straps.station ∧ m.target ≠ 31 then s
  else if 8 ≤ s.bus.inbox.length then s.bump .inboxFull
  else s.takeMessage m

/-- MESSAGE_RECEIVED (R190), after the bit times before its start bit. -/
def execMessageReceived (m : BusMessage) (s : State) : Host.Outcome State Fault Refusal :=
  .next ((s.passTimes m.before).receive m)

/-- The clock stops in the middle of a message: a receiver finds it malformed and begins its idle count (R192). -/
def State.clockStops (s : State) : State :=
  let s := s.resetIdle
  if s.bus.receives then s.bump .frameError else s

/-- CLOCK_STOPS_BEFORE_TAKE_SLOT (R192). -/
def execClockStopsBeforeTakeSlot (s : State) : Host.Outcome State Fault Refusal := .next s.clockStops

/-! ### Sending (R188, R189, R193 to R195) -/

/-- The place of the head: a message already begun, else the lowest class and among those the one that joined first
(R195). -/
def headIndex (out : List OutMsg) : Option Nat :=
  match out.findIdx? (·.begun) with
  | some i => some i
  | none =>
    match out.findIdx? (·.cls == 0) with
    | some i => some i
    | none =>
      match out.findIdx? (·.cls == 1) with
      | some i => some i
      | none =>
        match out.findIdx? (·.cls == 2) with
        | some i => some i
        | none => out.findIdx? fun _ => true

/-- The first bit at which the bus carries another value than the one driven; a bit not sampled is as driven. -/
def firstDiffer : List Bool → List Bool → Option Nat
  | d :: ds, b :: bs => if d = b then (firstDiffer ds bs).map (· + 1) else some 0
  | _, _ => none

/-- What becomes of a message that has been begun (R188, R189, R194). -/
inductive SendResult where
  /-- no mismatch: the station goes on alone to the take slot -/
  | won
  /-- a 1 overridden in the arbitration field -/
  | lost
  /-- any other mismatch -/
  | abort
  deriving DecidableEq, Repr

/-- The result of driving `driven` while the bus carries `bus`: bit 0 is the start bit, bits 1 to 13 are the
arbitration field (R188, R189, R194). -/
def sendResult (driven bus : List Bool) : SendResult :=
  match firstDiffer driven bus with
  | none => .won
  | some k => if 1 ≤ k ∧ k ≤ 13 ∧ driven.getD k false = true then .lost else .abort

/-- A message leaves the outbox. -/
def State.dropOut (s : State) (k : Nat) : State :=
  { s with bus := { s.bus with outbox := s.bus.outbox.eraseIdx k, sending := false } }

/-- Where the port is not listen-only, its idle count stands at 12 and its outbox holds a message, the station begins
its head message and contends (R188). -/
def State.beginHead (s : State) (bus : List Bool) : State :=
  if s.bus.listenOnly || decide (s.bus.idle < 12) then s
  else
    match headIndex s.bus.outbox with
    | none => s
    | some k =>
      match s.bus.outbox[k]? with
      | none => s
      | some m =>
        let s := s.resetIdle
        match sendResult (m.bits s.straps.station) bus with
        | .won =>
          { s with bus := { s.bus with outbox := s.bus.outbox.set k { m with begun := true }, sending := true } }
        | .lost =>
          { s with bus := { s.bus with outbox := s.bus.outbox.set k { m with begun := true } } }.bump .arbitrationLost
        | .abort => (s.dropOut k).bump .bitError

/-- The bit times that have passed are counted, and the station begins where it can (R185, R188). A port that is sending
marks every bit time itself. -/
def State.sendStart (s : State) (before : List BitTime) (bus : List Bool) : State :=
  if s.bus.sending then s else (s.passTimes before).beginHead bus

/-- MESSAGE_SEND_START (R188). -/
def execMessageSendStart (before : List BitTime) (bus : List Bool) (s : State) : Host.Outcome State Fault Refusal :=
  .next (s.sendStart before bus)

/-- The take slot of the message being sent: it is counted, and as untaken where no station drove the slot, and leaves
the outbox (R193). -/
def State.passTakeSlot (s : State) (taken : Bool) : State :=
  if s.bus.sending then
    match headIndex s.bus.outbox with
    | none => s
    | some k =>
      let s := ((s.dropOut k).resetIdle).bump .messagesSent
      if taken then s else s.bump .untaken
  else s

/-- TAKE_SLOT (R193). -/
def execTakeSlot (taken : Bool) (s : State) : Host.Outcome State Fault Refusal := .next (s.passTakeSlot taken)

end Sys2Proof.Machine
end

