-- ==== Sys2Proof/Machine/Discovery.lean ====
section
/-! DEFINITION. Discovery bursts (R24 to R29). -/

namespace Sys2Proof.Machine

open Sys2Proof

/-- The round arriving holds a discovery span. -/
def State.discoverySpan (s : State) : Bool :=
  s.rx.arriving.any RoundExp.discovers

/-- The map of the round arriving was built before a tree restart that has been taken since (R24). -/
def State.spanCutOff (s : State) : Bool := s.rx.arriving.any fun e => e.cutOff

/-- A good discovery burst has been handed from the span (R27). -/
def State.markSpanGood (s : State) : State :=
  { s with rx := { s.rx with arriving := s.rx.arriving.map fun e => { e with spanGood := true } } }

/-- A burst is accepted: the entry enters Ranging with its progress record, and the Assign is queued or waits (R8, R9,
R28, R29). -/
def State.accept (s : State) (i : HomeIdx) (t : Tag) (coarse : Nat) : State :=
  let progress : Progress :=
    { coarse, tries := 0, tests := 0, stage := .awaitingAssign, waiting := none, clock := none }
  (s.setHome i { Home.vacant with entry := .ranged t, progress := some progress }).offerEnrol i (.assign t i)

/-- The local lookup of a burst that has passed the bar check (R26). -/
def State.lookupBurst (s : State) (t : Tag) (coarse : Nat) : State :=
  let limit := decide (4 ≤ s.enrollingCount)
  match s.holder t with
  | some i =>
    if (s.entry i).state = .retired then
      if limit then s.bump .discoveryRefused else s.accept i t coarse
    else (s.bump .localDuplicate).raise (.duplicateTag t i (s.entry i).state 31 255)
  | none =>
    match s.lowestVacant with
    | some i => if limit then s.bump .discoveryRefused else s.accept i t coarse
    | none => s.bump .discoveryRefused

/-- The burst lies in the discovery span: its 4 quanta end by the span's last quantum (R23; log 18). -/
def State.inSpan (s : State) (arrival : Nat) : Bool :=
  decide (arrival + 4 ≤ Reach.discoverySpan s.straps.reach)

/-- A good discovery burst is handled on its arrival: the negative round trip, the bar check, the local lookup (R24,
R25, R26). -/
def State.takeDiscovery (s : State) (arrival : Nat) (body : List Byte) : State :=
  if s.discoverySpan && s.inSpan arrival && bodyCheck body then
    let cut := s.spanCutOff
    let s := s.markSpanGood
    if cut then s
    else if arrival < bodyBackoff body then s.bump .discoveryCollision
    else if s.barred (bodyTag body) then s.bump .barredAttempts
    else s.lookupBurst (bodyTag body) (arrival - bodyBackoff body)
  else s

/-- DISCOVERY_BURST (R24). -/
def execDiscoveryBurst (arrival : Nat) (body : List Byte) (s : State) : Host.Outcome State Fault Refusal :=
  .next (s.takeDiscovery arrival body)

end Sys2Proof.Machine
end

