-- ==== Sys2Proof/Machine/Close.lean ====
section
/-! DEFINITION. The close of an upstream round (R117): verdicts, misses and feeder loss (chapter 5), bursts and the
stray count (chapter 6), ranging and test outcomes (chapter 2), and the round handed to the rogue monitor (R121). -/

namespace Sys2Proof.Machine

open Sys2Proof

/-! ### The expectation and the light (R105 to R107) -/

/-- A Data, Poll or Test window, as against a ranging span (R97). -/
def Window.isWindow (w : Window) : Bool :=
  match w.purpose with
  | .data | .poll | .enrolTest | .retest => true
  | .enrolRanging | .inPlaceRanging => false

/-- The expected delimiter, in phase units (R105). -/
def Window.expected (w : Window) : Nat := 16 * w.start + 16

/-- The quantum lies in the window or span. -/
def Window.holds (w : Window) (q : Nat) : Bool := decide (w.start ≤ q ∧ q < w.start + w.length)

/-- Some quantum of the window or span was Lit (R107). -/
def Window.litIn (w : Window) (o : RoundObs) : Bool := o.lit.any w.holds

/-- The expectation classes (R106). -/
inductive QuantumClass where
  | expectLit | dontCare | neighbour | core
  deriving DecidableEq, Repr

/-- The quantum is the neighbour before or after the window (R106). -/
def Window.beside (w : Window) (q : Nat) : Bool :=
  w.isWindow && (decide (q + 1 = w.start) || decide (q = w.start + w.length))

/-- The length of the discovery span the expectation holds, 0 with none. -/
def Expectation.discovery (x : Expectation) : Nat :=
  match x.span with
  | some (.discovery, n) => n
  | _ => 0

/-- The class of a quantum (R106). -/
def Expectation.classOf (x : Expectation) (q : Nat) : QuantumClass :=
  if x.windows.any fun w => w.isWindow && w.holds q then .expectLit
  else if decide (q < x.discovery) || x.windows.any fun w => !w.isWindow && w.holds q then .dontCare
  else if x.windows.any fun w => w.beside q then .neighbour
  else .core

/-- S_core: the Lit core quanta (R107). -/
def Expectation.litCore (x : Expectation) (o : RoundObs) : Nat := o.lit.countP fun q => x.classOf q == .core

/-- The early neighbour of a window was Lit (R106, R107). -/
def Window.earlyLit (w : Window) (o : RoundObs) : Bool := w.isWindow && o.lit.any fun q => decide (q + 1 = w.start)

/-- The overrun neighbour of a window, within the round, was Lit (R106, R107). -/
def Window.lateLit (w : Window) (o : RoundObs) : Bool :=
  w.isWindow && o.lit.any fun q => decide (q = w.start + w.length ∧ q ≤ 3999)

/-- N: the Lit neighbours (R118). -/
def Expectation.litNeighbours (x : Expectation) (o : RoundObs) : Nat :=
  (x.windows.map fun w => (w.earlyLit o).toNat + (w.lateLit o).toNat).sum

/-- What the receiver found in a window. -/
def Window.burst (w : Window) (o : RoundObs) : Option BurstObs := o.windows.find? fun b => b.index == w.index

/-- The arrival offset of a delimiter found within 31 phase units of its expected position (R109, R113). -/
def Window.offset (w : Window) (b : BurstObs) : Option Int :=
  match b.delimiter with
  | none => none
  | some d =>
    let o : Int := (d : Int) - (w.expected : Int)
    if -31 ≤ o ∧ o ≤ 31 then some o else none

/-- The burst of a Lit window whose delimiter is found, with its offset (R109). -/
def Window.found (w : Window) (o : RoundObs) : Option (BurstObs × Int) :=
  if w.litIn o then
    match w.burst o with
    | some b => (w.offset b).map fun d => (b, d)
    | none => none
  else none

/-- The header is good: its check, its index, and its length against the window (R110). -/
def Window.headerGood (w : Window) (h : List Byte) : Bool :=
  headerCheck h && decide (headerIndex h = w.index.val) &&
    match w.purpose with
    | .data => decide (headerLength h ≤ 16 * w.payload)
    | .poll => decide (headerLength h = 0)
    | _ => true

/-- The decoded burst of a window (R110). -/
def Window.decoded (w : Window) (o : RoundObs) : Option (BurstObs × Int) :=
  match w.found o with
  | some b => if w.headerGood b.1.header then some b else none
  | none => none

/-- The windows whose levels are compared: Data, Poll and Retest (R116). -/
def Window.levelled (w : Window) : Bool :=
  match w.purpose with
  | .data | .poll | .retest => true
  | _ => false

/-- The burst is an overlap: its level exceeds the preset by more than 12 (R116). -/
def Window.overlaps (w : Window) (o : RoundObs) : Bool :=
  w.levelled && match w.found o with
    | some b => decide (w.preset + 12 < b.1.level.toNat)
    | none => false

/-- V: the round's overlap count (R118). -/
def Expectation.overlapCount (x : Expectation) (o : RoundObs) : Nat := x.windows.countP fun w => w.overlaps o

/-- The stray count of a mapped round (R118). -/
def Expectation.stray (x : Expectation) (o : RoundObs) : Nat :=
  x.litCore o + x.litNeighbours o + 4 * x.overlapCount o

/-- Lit neighbours are attributed: no core quantum was Lit and nothing overlapped (R118, R119). -/
def Expectation.attributes (x : Expectation) (o : RoundObs) : Bool :=
  x.litCore o == 0 && x.overlapCount o == 0

/-- The verdict on the whole round (R99). -/
def Expectation.verdict (x : Expectation) (o : RoundObs) : RoundVerdict :=
  if x.windows.any fun w => w.litIn o then .lit
  else if x.windows.any fun w => w.isWindow then .blank
  else .neither

/-- The kind of a mapped round (R121). -/
def Expectation.kind (x : Expectation) : RoundKind :=
  match x.span with
  | none => .normal
  | some (.discovery, _) => .discovery
  | some (.quiet, _) => .quiet

/-! ### Feeder loss (R99 to R102) -/

/-- A blank round: counted, and added to the streak unless transmit silence is Declared; the eighth declares feeder loss
(R99, R100, R102). -/
def State.blankClosed (s : State) (round : Round) : State :=
  let s := s.bump .blankRound
  if s.framer.silence then s
  else
    let streak := min (s.light.streak + 1) 8
    let declares := decide (streak = 8) && !s.light.loss
    let s := { s with light := { s.light with streak } }
    if declares then
      (({ s with light := { s.light with loss := true, lossAge := 0 } }).bump .feederLoss).raise
        (.feederLoss true round 0)
    else s

/-- A lit round: the streak is 0, and a Declared feeder loss clears with a notice (R100, R101). -/
def State.litClosed (s : State) (round : Round) : State :=
  let age := s.light.lossAge
  let was := s.light.loss
  let s := { s with light := { streak := 0, loss := false, lossAge := 0 } }
  if was then s.raise (.feederLoss false round age) else s

/-- The light monitor applies the round verdict (R100, R101). -/
def State.applyVerdict (s : State) (v : RoundVerdict) (round : Round) : State :=
  match v with
  | .blank => s.blankClosed round
  | .lit => s.litClosed round
  | .neither => s

/-! ### Misses (R97, R98) -/

/-- The fourth miss: an Active entry is Retired (Lost), and a Held entry's enrolment ends (R98, R38; the round: log
12). -/
def State.loseHome (s : State) (i : HomeIdx) (round : Round) : State :=
  let e := s.entry i
  match e.state with
  | .active =>
    ((((s.retire i .lost round).offerLeave (.leaveIndex i)).bump .homeLost)).raise (.homeLost i e.tagVal round)
  | .held => (s.leaveFor i .lost round).raise (.enrollFailed i e.tagVal .lost)
  | _ => s

/-- One window verdict applied to the entry at its index as it stands (R97, R98). -/
def State.applyWindow (s : State) (o : RoundObs) (blank : Bool) (round : Round) (w : Window) : State :=
  if !w.isWindow then s
  else
    let e := s.entry w.index
    let counts := (e.state == .testing || e.state == .held || e.state == .active) && !e.probe
    if !counts then s
    else if w.litIn o then s.modEntry w.index fun e => { e with miss := 0 }
    else if blank || s.framer.silence then s
    else
      let s := s.modEntry w.index fun e => { e with miss := min (e.miss + 1) 4 }
      if (s.entry w.index).miss = 4 then s.loseHome w.index round else s

/-- The windows in ascending index order (R97). -/
def Expectation.byIndex (x : Expectation) : List Window :=
  allIdx.flatMap fun i => x.windows.filter fun w => w.index == i

/-! ### Bursts (R111 to R116) -/

/-- No misbehaviour gain is made in a round whose map carried a quiet span, or for one that closes while isolation is in
progress (R120). -/
def State.gainsAllowed (s : State) (x : Expectation) : Bool := x.kind != .quiet && !s.probing

/-- The delay correction of an offset of 3 or more: a Set delay, or a request for ranging in place (R113, R115). -/
def State.correctDelay (s : State) (i : HomeIdx) (o : Int) : State :=
  let d : Int := ((s.entry i).delay.getD 0 : Nat)
  let target : Int := (s.target : Nat)
  if 0 ≤ d - o ∧ d - o ≤ target then
    if s.dirRoom then (s.offerCorrection i (d - o).toNat).bump .driftCorrection else s.offerCorrection i (d - o).toNat
  else
    let s := s.bump .reRangeRequest
    let centre := ((target - d + o) / 16).toNat
    s.modHome i fun h =>
      match h.inPlace with
      | .placed _ => h
      | _ => { h with inPlace := .asked centre }

/-- The arrival offset of a burst acts, unless a correction is in flight (R113, R114). `gains`: the round may bring
misbehaviour gains. -/
def State.applyOffset (s : State) (p : Params) (gains : Bool) (round : Round) (i : HomeIdx) (o : Int) : State :=
  if (s.home i).marker ≠ .clear ∨ o.natAbs < 3 then s
  else
    let s := s.correctDelay i o
    if 8 ≤ o.natAbs ∧ gains = true then s.gainInTurn p i round else s

/-- Level learning: L follows a level within 12 of the preset; a weaker burst is counted (R116). -/
def State.learnLevel (s : State) (w : Window) (m : Nat) : State :=
  if w.preset + 12 < m then s
  else if m + 12 < w.preset then s.bump .weakBurst
  else s.modEntry w.index fun e => { e with level := e.level.map fun l => (3 * l + m + 2) / 4 }

/-- A doze wish reported by an Active entry (R92, R93). -/
def State.applyWish (s : State) (p : Params) (i : HomeIdx) (wish : Bool) : State :=
  let s := s.modEntry i fun e => { e with wish := some wish }
  if wish ∧ (s.entry i).balance ≤ 0 then
    if s.dirRoom then
      ((s.pushDirective (.dozeGranted i (9 * p.upkeep))).dozeHome i (9 * p.upkeep)).bump .dozeGranted
    else s.bump .dozeDeferred
  else s

/-- The offset and the level of a burst that is not stale (R111). -/
def State.applyLine (s : State) (p : Params) (gains : Bool) (round : Round) (w : Window) (b : BurstObs) (o : Int) :
    State :=
  (s.applyOffset p gains round w.index o).learnLevel w b.level.toNat

/-- The backlog report of a burst replaces the recorded backlog (R111). -/
def State.applyBacklog (s : State) (i : HomeIdx) (n : Nat) : State := s.modEntry i fun e => { e with backlog := some n }

/-- A decoded Data burst hands its payload on; a Poll burst hands nothing (R112). -/
def State.handPayload (s : State) (w : Window) (b : BurstObs) : State :=
  if w.purpose = .data then s.takePayload w.index b.payload (headerLength b.header) else s

/-- A decoded burst applied to the entry as it stands (R111; a Muted home: DEDUCED, log 30). DESIGN CHOICE (log 35): the
parts of one burst act in the order of R111's columns with the payload before the doze wish, so a wish that grants a doze
is taken before an offset whose gain mutes the home. DESIGN CHOICE (log 38): a Muted home's burst carries payload where
its header gives a length above 0, a Test burst's too. -/
def State.applyDecoded (s : State) (p : Params) (gains : Bool) (round : Round) (w : Window) (b : BurstObs)
    (o : Int) : State :=
  let e := s.entry w.index
  let reports := w.purpose = .data ∨ w.purpose = .poll
  if e.tag ≠ w.tag then s.bump .staleBurst
  else
    match e.state with
    | .active =>
      if reports then
        let s := (s.applyBacklog w.index (headerBacklog b.header)).handPayload w b
        (s.applyWish p w.index (headerWish b.header)).applyLine p gains round w b o
      else if w.purpose = .retest then s.applyLine p gains round w b o
      else s.bump .staleBurst
    | .dozing =>
      if reports then
        ((s.applyBacklog w.index (headerBacklog b.header)).handPayload w b).applyLine p gains round w b o
      else s.bump .staleBurst
    | .held => if w.purpose = .poll then s.applyLine p gains round w b o else s.bump .staleBurst
    | .muted =>
      let s := if 0 < headerLength b.header then s.bump .staleBurst else s
      if w.purpose = .enrolTest then s else s.applyLine p gains round w b o
    | .testing => if w.purpose = .enrolTest then s else s.bump .staleBurst
    | _ => s.bump .staleBurst

/-- One window's burst: garbled and overlap counting, and the application of a decoded burst (R110, R111, R116). -/
def State.applyBurst (s : State) (p : Params) (gains : Bool) (o : RoundObs) (round : Round) (w : Window) : State :=
  if !w.isWindow || !w.litIn o then s
  else
    let s := if w.overlaps o then s.bump .overlap else s
    match w.decoded o with
    | none => s.bump .garbledBurst
    | some b => s.applyDecoded p gains round w b.1 b.2

/-- When upstream round k + 1 closes, a marker sent in round k becomes none (R114). -/
def State.clearMarkers (s : State) (round : Round) : State :=
  { s with homes := s.homes.map fun h =>
      match h.marker with
      | .sent k => if k + 1 = round then { h with marker := .clear } else h
      | _ => h }

/-! ### Ranging and test outcomes (R30 to R37, R42) -/

/-- R_f of the first good ranging burst of a span: its delimiter in the span, its check, its backoff-free body's tag
(R30, R218; log 18). -/
def Window.fineTrip (w : Window) (o : RoundObs) : Option Nat :=
  let found := o.spans.flatMap fun r => if r.index = w.index then r.bursts else []
  (found.find? fun b =>
      decide (16 * w.start ≤ b.1 ∧ b.1 < 16 * (w.start + w.length)) && bodyCheck b.2 && some (bodyTag b.2) == w.tag)
    |>.map fun b => b.1 - 16

/-- A failed ranging try; the third ends the enrolment as NO_RANGE (R32). -/
def State.failTry (s : State) (i : HomeIdx) (round : Round) : State :=
  match (s.home i).progress with
  | none => s
  | some p =>
    if 2 ≤ p.tries then s.failEnrolment i .lost .noRange round
    else s.modProgress i fun p => { p with tries := p.tries + 1, stage := .spanDue }

/-- The outcome of an enrolment ranging span of a round (R31, R32), where the entry is still Ranging with the span's tag
and waits for that span; any other is discarded (R30, R43). -/
def State.rangingOutcome (s : State) (w : Window) (o : RoundObs) (round : Round) : State :=
  let i := w.index
  let e := s.entry i
  if e.state = .ranging ∧ e.tag = w.tag ∧ (s.home i).progress.any (fun p => p.stage == .spanOutstanding round) then
    match w.fineTrip o with
    | none => s.failTry i round
    | some rf =>
      if rf ≤ s.target then
        let d := s.target - rf
        let s := s.modHome i fun h =>
          { h with
            entry := h.entry.tested d
            progress := h.progress.map fun p => { p with coarse := rf / 16, tests := 0, stage := .awaitingSetDelay } }
        s.offerEnrol i (.setDelay i d)
      else s.failEnrolment i .lost .outOfReach round
  else s

/-- The outcome of a span for ranging in place (R33; DEDUCED, log 17). -/
def State.inPlaceOutcome (s : State) (w : Window) (o : RoundObs) (round : Round) : State :=
  let i := w.index
  if (s.home i).inPlace = .placed round ∧ (s.entry i).tag = w.tag then
    let s := s.modHome i fun h => { h with inPlace := .idle }
    match w.fineTrip o with
    | none => s.bump .reRangeFailed
    | some rf =>
      if rf ≤ s.target then s.offerCorrection i (s.target - rf)
      else (s.offerCorrection i 0).bump .outOfReach
  else s

/-- A failed test; the second ends the enrolment as POOR_LINK (R37). -/
def State.failTest (s : State) (i : HomeIdx) (round : Round) : State :=
  match (s.home i).progress with
  | none => s
  | some p =>
    if 1 ≤ p.tests then s.failEnrolment i .lost .poorLink round
    else s.modProgress i fun p => { p with tests := p.tests + 1, stage := .testDue }

/-- What a Test window brought (R36, R42). A burst that is not decoded is garbled and gives no offset (R110), so its
offset is not asked for (log 19). -/
def Window.testOutcome (w : Window) (o : RoundObs) (errMax : Nat) : TestOutcome :=
  if w.litIn o then
    match w.decoded o with
    | none => .garbled
    | some b =>
      if 2 < b.2.natAbs then .misaligned b.1.level.toNat b.2
      else
        let e := bitErrors b.1.payload
        if e ≤ errMax then .pass e b.1.level.toNat b.2 else .fail e b.1.level.toNat b.2
  else .dark

/-- The test passes: Testing to Held, the approval clock starts at 0 and an Offer goes out; R_f is T_target less the D
it gave (R36, R38). -/
def State.passTest (s : State) (i : HomeIdx) (errors level : Nat) : State :=
  let e := s.entry i
  let s := s.modHome i fun h =>
    { h with
      entry := h.entry.heldAt level
      progress := h.progress.map fun p => { p with stage := .waitingApproval, clock := some 0 } }
  s.raise (.offer i e.tagVal (s.target - e.delay.getD 0) level errors)

/-- The outcome of an enrolment Test window of a round, where the entry is still Testing with the window's tag and waits
for that window; any other is discarded (R36, R43). -/
def State.enrolTestOutcome (s : State) (p : Params) (w : Window) (o : RoundObs) (round : Round) : State :=
  let i := w.index
  let e := s.entry i
  if e.state = .testing ∧ e.tag = w.tag ∧ (s.home i).progress.any (fun p => p.stage == .testOutstanding round) then
    match w.testOutcome o p.errMax with
    | .pass errors level _ => s.passTest i errors level
    | .misaligned _ _ => (s.modEntry i Entry.reranged).failTry i round
    | .fail .. | .garbled | .dark | .cancelled => s.failTest i round
  else s

/-- The outcome of a Retest, where it is still pending (R42). -/
def State.retestOutcome (s : State) (p : Params) (w : Window) (o : RoundObs) (round : Round) : State :=
  let i := w.index
  if (s.home i).retest = .placed round then
    (s.modHome i fun h => { h with retest := .idle }).raise
      (.testResult i (s.entry i).tagVal (w.testOutcome o p.errMax))
  else s

/-- The outcome of a ranging span or Test window (R30). -/
def State.takeOutcome (s : State) (p : Params) (o : RoundObs) (round : Round) (w : Window) : State :=
  match w.purpose with
  | .enrolRanging => s.rangingOutcome w o round
  | .inPlaceRanging => s.inPlaceOutcome w o round
  | .enrolTest => s.enrolTestOutcome p w o round
  | .retest => s.retestOutcome p w o round
  | .data | .poll => s

/-- Light in a discovery span with no good burst (R27). -/
def State.spanCollision (s : State) (x : Expectation) (o : RoundObs) (good : Bool) : State :=
  if !good && o.lit.any fun q => decide (q < x.discovery) then s.bump .discoveryCollision else s

/-! ### Attribution (R119) -/

/-- The home of a window may be charged for a Lit neighbour: it holds the window's tag and is Held, Active or Dozing and
not probe-muted (R119). -/
def State.chargeable (s : State) (w : Window) : Bool :=
  let e := s.entry w.index
  e.tag == w.tag && e.state.candidate && !e.probe

/-- The windows whose homes may be charged for light beside them, as the entries stand when the round closes (R119, R120;
log 31). -/
def State.chargeableAt (s : State) (x : Expectation) : List Window :=
  if s.gainsAllowed x then x.windows.filter s.chargeable else []

/-- One Lit neighbour is attributed to the home of its window. A gain is applied to the entry as it stands, where it still
holds the tag (R119, R144). -/
def State.attributeOne (s : State) (p : Params) (charged : List Window) (round : Round) (w : Window) (c : Counter) :
    State :=
  let s := s.bump c
  if charged.contains w && (s.entry w.index).tag == w.tag then s.gainInTurn p w.index round else s

def State.attributeWindow (s : State) (p : Params) (charged : List Window) (o : RoundObs) (round : Round)
    (w : Window) : State :=
  let s := if w.earlyLit o then s.attributeOne p charged round w .earlyLight else s
  if w.lateLit o then s.attributeOne p charged round w .overrunLight else s

/-- Each Lit neighbour is attributed, in a round with no Lit core quantum and no overlap (R118, R119). DESIGN CHOICE
(log 36): the windows are taken in ascending order of their starts, and of one window the early neighbour before the
late one, all of them after the arrival-offset gains of the close; R119 and R144 give no order among the homes of one
close. -/
def State.attributeLight (s : State) (p : Params) (charged : List Window) (x : Expectation) (o : RoundObs)
    (round : Round) : State :=
  if x.attributes o then x.windows.foldl (fun s w => s.attributeWindow p charged o round w) s else s

/-! ### The close (R117) -/

/-- A dark window that brings the fourth miss of its home, in a round that counts misses (R97, R98). -/
def State.fourthMiss (s : State) (o : RoundObs) (blank : Bool) (w : Window) : Bool :=
  let e := s.entry w.index
  w.isWindow && (e.state == .held || e.state == .active) && !e.probe && e.miss == 3 && !w.litIn o && !blank
    && !s.framer.silence

/-- The windows whose fourth miss the operand puts after the gains of the close (R144; log 8). -/
def State.lossesAfterGains (s : State) (x : Expectation) (o : RoundObs) : List Window :=
  x.byIndex.filter fun w => s.fourthMiss o (x.verdict o == .blank) w && o.lossAfterGains.contains w.index

/-- The windows whose fourth miss the operand puts after the round is handed to the rogue monitor (R139; log 8). -/
def State.lossesAfterHand (s : State) (x : Expectation) (o : RoundObs) : List Window :=
  x.byIndex.filter fun w =>
    s.fourthMiss o (x.verdict o == .blank) w && !o.lossAfterGains.contains w.index
      && o.lossAfterHand.contains w.index

/-- The windows whose verdicts are applied in their place, ascending by index (R97, R117). -/
def State.verdictsInOrder (s : State) (x : Expectation) (o : RoundObs) : List Window :=
  x.byIndex.filter fun w => !(s.lossesAfterGains x o).contains w && !(s.lossesAfterHand x o).contains w

/-- Window verdicts applied in the order given (R97). -/
def State.applyWindows (s : State) (o : RoundObs) (blank : Bool) (round : Round) (l : List Window) : State :=
  l.foldl (fun s w => s.applyWindow o blank round w) s

/-- The close of a mapped round, in the order in which R117 names its parts: the window verdicts with their misses, the
span verdicts, the round verdict, the bursts, the outcomes, the stray count with its attribution, and the round handed
on. Decays of the boundary that were held back stand among the gains, or else follow the last of them (R120; log 32).
The fourth misses that the operand names are taken after the gains or after the round is handed (R144, R139; log
8). DESIGN CHOICE (log 8): a HomeLost therefore comes before the FeederLoss of the same close. DESIGN CHOICE (log 31):
whether gains are made, and to which homes, is read when the close begins, so a home that passes its test in this
close is not charged for light beside the test. DESIGN CHOICE (log 36): the ranging and test outcomes, like the
attributions, are taken in ascending order of the starts of their spans and windows; R30 and R117 give no order among
the homes of one close. -/
def State.closeMapped (s : State) (p : Params) (e : RoundExp) (x : Expectation) (o : RoundObs) : State :=
  let round := e.round
  let verdict := x.verdict o
  let blank := verdict == .blank
  let gains := s.gainsAllowed x
  let charged := s.chargeableAt x
  let afterGains := s.lossesAfterGains x o
  let afterHand := s.lossesAfterHand x o
  let s := s.applyWindows o blank round (s.verdictsInOrder x o)
  let s := s.spanCollision x o e.spanGood
  let s := s.applyVerdict verdict round
  let s := s.clearMarkers round
  let s := x.windows.foldl (fun s w => s.applyBurst p gains o round w) s
  let s := x.windows.foldl (fun s w => s.takeOutcome p o round w) s
  let s := (s.attributeLight p charged x o round).settleDecays
  let s := s.applyWindows o blank round afterGains
  let s := s.takeRound round (x.stray o) verdict x.kind
  s.applyWindows o blank round afterHand

/-- The close of an unmapped round: every quantum is core, and no window or span has a verdict (R122). -/
def State.closeUnmapped (s : State) (e : RoundExp) (o : RoundObs) : State :=
  (s.clearMarkers e.round).settleDecays.takeRound e.round o.lit.length .neither .unmapped

/-- The close of the oldest round that has arrived; its expectation is discarded (R105, R117). With no such round there
is nothing to close. -/
def State.closeRound (s : State) (o : RoundObs) : State :=
  match s.rx.closing, s.setup with
  | e :: rest, some p =>
    let s := { s with rx := { s.rx with closing := rest }, toSwitch := [] }
    match e.map with
    | some x => s.closeMapped p e x o
    | none => s.closeUnmapped e o
  | _, _ => s

/-- ROUND_CLOSE (R117). -/
def execRoundClose (o : RoundObs) (s : State) : Host.Outcome State Fault Refusal := .next (s.closeRound o)

end Sys2Proof.Machine
end

