-- ==== Sys2Proof/Machine/Drive.lean ====
section
/-! DEFINITION. The drive check of the feeder transmitter (R84). -/

namespace Sys2Proof.Machine

open Sys2Proof

/-- Bit periods without a transition: the run grows to 128, and a run of 128 makes a Clear check Declared (R84). -/
def State.quietPeriods (s : State) (periods : Nat) : State :=
  let run := min 128 (s.framer.run + periods)
  let s := { s with framer := { s.framer with run } }
  if run = 128 ∧ s.framer.silence = false then
    ({ s with framer := { s.framer with silence := true, silenceAge := 0 } }.bump .transmitSilence).raise
      (.transmitSilent true s.clock.round 0)
  else s

/-- TRANSMIT_SILENCE_DECLARED (R84). -/
def execTransmitSilenceDeclared (periods : Nat) (s : State) : Host.Outcome State Fault Refusal :=
  .next (s.quietPeriods periods)

/-- A bit period that holds a transition: the run is 0, and a Declared check becomes Clear with a notice (R84). -/
def State.transition (s : State) : State :=
  let age := s.framer.silenceAge
  let was := s.framer.silence
  let s := { s with framer := { s.framer with run := 0, silence := false, silenceAge := 0 } }
  if was then s.raise (.transmitSilent false s.clock.round age) else s

/-- TRANSMIT_SILENCE_CLEAR (R84). -/
def execTransmitSilenceClear (s : State) : Host.Outcome State Fault Refusal := .next s.transition

end Sys2Proof.Machine
end

