-- ==== Sys2Proof/Machine/HomeRequests.lean ====
section
/-! DEFINITION. The requests on one home: ReadHome, RemoveHome, Approve, Deny, Retest, SetShare, WakeHome, ReleaseMute,
and StartIsolation. -/

namespace Sys2Proof.Machine

open Sys2Proof

/-! ### ReadHome (R16, R220) -/

/-- The probe muted field is present: the entry is Held, Active or Dozing while isolation is in progress (R2, R129). -/
def State.probeField (s : State) (i : HomeIdx) : Option Bool :=
  if s.probing && (s.entry i).state.candidate then some (s.entry i).probe else none

/-- The presence word of a ReadHome answer (R220). -/
def State.presence (s : State) (i : HomeIdx) : Nat :=
  let e := s.entry i
  bitIf e.tag.isSome 9 + bitIf e.delay.isSome 8 + bitIf e.level.isSome 7 + bitIf e.backlog.isSome 6
    + bitIf e.claim.isSome 5 + bitIf e.wish.isSome 4 + bitIf e.dozeLeft.isSome 3 + bitIf (s.probeField i).isSome 2
    + bitIf e.mute.isSome 1 + bitIf e.retire.isSome 0

/-- The 31 bytes of a ReadHome answer (R220). An absent field is sent as 0 (R216), and a yes/no field as 1 or 0 (DESIGN
CHOICE, log 33). -/
def State.homeBytes (s : State) (i : HomeIdx) : List Byte :=
  let e := s.entry i
  bytesOf 1 i.val ++ bytesOf 1 e.state.code ++ bytesOf 2 (s.presence i) ++ bytesOf 8 e.tagVal.toNat
    ++ bytesOf 2 (e.delay.getD 0) ++ bytesOf 1 (e.level.getD 0) ++ bytesOf 2 e.share ++ bytesOf 1 e.weight
    ++ [BitVec.ofInt 8 e.balance] ++ bytesOf 2 (e.backlog.getD 0) ++ bytesOf 1 e.miss ++ bytesOf 1 e.score
    ++ bytesOf 1 ((e.claim.map ClaimStatus.code).getD 0) ++ bytesOf 1 (e.wish.getD false).toNat
    ++ bytesOf 2 (e.dozeLeft.getD 0) ++ bytesOf 1 ((s.probeField i).getD false).toNat
    ++ bytesOf 1 ((e.mute.map MuteReason.code).getD 0) ++ bytesOf 1 ((e.retire.map RetireReason.code).getD 0)
    ++ bytesOf 1 (s.liveRecord i).isSome.toNat

def readHomeReply (s : State) (body : List Byte) : Reply :=
  onIndex (byteAt body 0) fun i => .done .ok (s.homeBytes i) id

/-- READ_HOME (R16). -/
def execReadHome (s : State) : Host.Outcome State Fault Refusal :=
  .next (s.takeRequest 24 (· == 1) false readHomeReply)

/-! ### RemoveHome (R17, R18) -/

/-- The move of a RemoveHome that is carried out (R17). -/
def State.removeHome (s : State) (i : HomeIdx) : State :=
  if (s.entry i).state.enrolling then s.endEnrolment i .removed s.clock.round
  else (s.retire i .removed s.clock.round).offerLeave (.leaveIndex i)

def removeHomeReply (s : State) (body : List Byte) : Reply :=
  onIndex (byteAt body 0) fun i =>
    let e := s.entry i
    if e.state = .vacant ∨ e.state = .retired then .refuse .badState
    else if e.tag ≠ some (tagAt body 1) then .refuse .tagMismatch
    else .done .ok [] fun s => s.removeHome i

/-- REMOVE_HOME (R17). -/
def execRemoveHome (s : State) : Host.Outcome State Fault Refusal :=
  .next (s.takeRequest 25 (· == 9) false removeHomeReply)

/-! ### Approve and Deny (R40, R41, R46, R47) -/

/-- An accepted Approve: Held to Active, the progress record discarded, the claim window opened, the record made or
continued, and the Claim queued (R40, R46, R47, R171). -/
def State.approveHome (s : State) (i : HomeIdx) : State :=
  let s := s.modHome i fun h =>
    { h with entry := h.entry.approved, progress := none, window := some 200 }
  (s.makeRecord i).sendPeer (claimMessage (s.entry i).tagVal s.straps.station i)

/-- The checks Approve and Deny share: Held, then the tag (R40, R41). -/
def heldReply (s : State) (body : List Byte) (effect : HomeIdx → State → State) : Reply :=
  onIndex (byteAt body 0) fun i =>
    if (s.entry i).state ≠ .held then .refuse .badState
    else if (s.entry i).tag ≠ some (tagAt body 1) then .refuse .tagMismatch
    else .done .ok [] (effect i)

def approveReply (s : State) (body : List Byte) : Reply := heldReply s body fun i s => s.approveHome i

/-- APPROVE (R40). -/
def execApprove (s : State) : Host.Outcome State Fault Refusal :=
  .next (s.takeRequest 26 (· == 9) false approveReply)

def denyReply (s : State) (body : List Byte) : Reply :=
  heldReply s body fun i s => s.endEnrolment i .removed s.clock.round

/-- DENY (R41). -/
def execDeny (s : State) : Host.Outcome State Fault Refusal :=
  .next (s.takeRequest 27 (· == 9) false denyReply)

/-! ### Retest (R42) -/

def retestReply (s : State) (body : List Byte) : Reply :=
  onIndex (byteAt body 0) fun i =>
    if (s.entry i).state ≠ .active ∨ (s.home i).retest ≠ .idle then .refuse .badState
    else .done .ok [] fun s => s.modHome i fun h => { h with retest := .asked }

/-- RETEST (R42). -/
def execRetest (s : State) : Host.Outcome State Fault Refusal :=
  .next (s.takeRequest 28 (· == 1) false retestReply)

/-! ### SetShare (R76, R77) -/

/-- The sum of guaranteed shares with one entry's share replaced (R77). -/
def State.shareSumWith (s : State) (i : HomeIdx) (g : Nat) : Nat :=
  (allIdx.map fun j => if j = i then g else (s.entry j).share).sum

def setShareReply (s : State) (body : List Byte) : Reply :=
  onIndex (byteAt body 0) fun i =>
    let g := min (field body 1 2) 1000
    let w := clampTo 1 16 (byteAt body 3)
    if !(s.entry i).state.inService then .refuse .badState
    else if 2400 < s.shareSumWith i g then .refuse .shareLimit
    else
      .done (if g = field body 1 2 ∧ w = byteAt body 3 then .ok else .clamped) (bytesOf 2 g ++ bytesOf 1 w)
        fun s => s.modEntry i fun e => { e with share := g, weight := w }

/-- SET_SHARE (R76). -/
def execSetShare (s : State) : Host.Outcome State Fault Refusal :=
  .next (s.takeRequest 32 (· == 4) false setShareReply)

/-! ### WakeHome and ReleaseMute (R96, R146) -/

def wakeHomeReply (s : State) (body : List Byte) : Reply :=
  onIndex (byteAt body 0) fun i =>
    if (s.entry i).state ≠ .dozing then .refuse .badState
    else .done .ok [] fun s => s.wakeHome i

/-- WAKE_HOME (R96). -/
def execWakeHome (s : State) : Host.Outcome State Fault Refusal :=
  .next (s.takeRequest 33 (· == 1) false wakeHomeReply)

def releaseMuteReply (s : State) (body : List Byte) : Reply :=
  onIndex (byteAt body 0) fun i =>
    if (s.entry i).state ≠ .muted then .refuse .badState
    else .done .ok [] fun s => s.modEntry i Entry.released

/-- RELEASE_MUTE (R146). -/
def execReleaseMute (s : State) : Host.Outcome State Fault Refusal :=
  .next (s.takeRequest 35 (· == 1) false releaseMuteReply)

/-! ### StartIsolation (R130) -/

def startIsolationReply (s : State) (_ : List Byte) : Reply :=
  if s.rogue.alarm = false ∨ s.rogue.iso ≠ .idle then .refuse .badState
  else .done .ok (bytesOf 1 s.candidates.length) fun s => s.startIsolation s.clock.round

/-- START_ISOLATION (R130). -/
def execStartIsolation (s : State) : Host.Outcome State Fault Refusal :=
  .next (s.takeRequest 34 (· == 0) false startIsolationReply)

end Sys2Proof.Machine
end

