-- ==== Sys2Proof/Machine/PartRequests.lean ====
section
/-! DEFINITION. The requests on the part as a whole: Setup, QueryStatus, ReadCounters, TreeRestart (R209 to R214), and
the full reset (R1). -/

namespace Sys2Proof.Machine

open Sys2Proof

/-! ### FULL_RESET (R1) -/

/-- The part right after a full reset with the straps as read; a part strapped to 31 is Listen-only (R1, R199). -/
def State.afterReset (station : Station) (reach : Reach) : State :=
  { State.reset with
    straps := { station, reach }
    bus := { State.reset.bus with listenOnly := station == 31 } }

/-- FULL_RESET (R1). The queue of commands and the count behind a free value are the model's and stay. -/
def execFullReset (station : Station) (reach : Reach) (s : State) : Host.Outcome State Fault Refusal :=
  .next { State.afterReset station reach with pending := s.pending, restarts := s.restarts }

/-! ### Setup (R209, R210) -/

/-- The ten values as in the Setup body, bytes 0..14 (R220). -/
def Params.bytes (p : Params) : List Byte :=
  bytesOf 2 p.upkeep ++ bytesOf 2 p.period ++ bytesOf 4 p.epoch ++ bytesOf 1 p.stray ++ bytesOf 1 p.dirtyLen
    ++ bytesOf 1 p.cleanLen ++ bytesOf 1 p.errMax ++ bytesOf 1 p.misLim ++ bytesOf 1 p.autoIsolate.toNat
    ++ bytesOf 1 p.report.toNat

/-- The acceptance of Setup, one step and a round boundary (R210): the part becomes Set, downstream round 0 begins with
an idle-fill header, bank A becomes Live with the flat plan, and the timers start. -/
def State.acceptSetup (s : State) (p : Params) : State :=
  let s := s.tickSilence
  let s :=
    { s with
      setup := some p
      clock := { round := 0, idleLeft := 7, firstMap := true, headerOpen := false }
      enrol := { due := 8, offered := false }
      ring := some { seg := 0, elapsed := 0, due := false }
      banks :=
        { liveId := .bankA, live := some { plan := .flat, start := 0, records := Vector.replicate 64 none },
          other := .empty, timer := p.epoch, held := false }
      rx := { s.rx with arriving := none, closing := [] } }
  s.sendIdleHeader.expectUnmapped

/-- A Setup while Set is answered SETUP_DONE; while Unset it is accepted (R209). -/
def setupReply (s : State) (body : List Byte) : Reply :=
  match s.setup with
  | some _ => .refuse .setupDone
  | none =>
    let r := setupParams body
    .done (if r.2 then .clamped else .ok) r.1.bytes fun s => s.acceptSetup r.1

/-- SETUP (R209). -/
def execSetup (s : State) : Host.Outcome State Fault Refusal :=
  .next (s.takeRequest 20 (· == 16) true setupReply)

/-! ### QueryStatus (R211, R220) -/

/-- The number of entries in a state. -/
def State.countIn (s : State) (st : EState) : Nat := allIdx.countP fun i => (s.entry i).state == st

/-- The code of a bank's state (R216). -/
def Banks.code (b : Banks) (id : BankId) : Nat :=
  if b.live.isNone then 0 else if id = b.liveId then 2 else b.other.code

/-- The isolation word: state, step, and candidates in C or backoff count (R220). -/
def Isolation.word : Isolation → Nat
  | .idle => 0
  | .probing p => 1 * 2 ^ 14 + p.step.code * 2 ^ 12 + p.cands.length
  | .backoff n => 2 * 2 ^ 14 + n

/-- The 38 bytes of a QueryStatus answer (R220; while Unset: DEDUCED, log 26). -/
def State.statusBytes (s : State) : List Byte :=
  let liveB := s.banks.live.isSome && s.banks.liveId == .bankB
  let setup (f : Params → Nat) : Nat := (s.setup.map f).getD 0
  let seg := (s.ring.map (·.seg)).getD 0
  let elapsed := (s.ring.map (·.elapsed)).getD 0
  let band := (s.currentBand.map (·.val)).getD 0
  bytesOf 1 (bitIf s.setup.isSome 7 + bitIf (s.straps.reach == .long) 6 + bitIf s.rogue.alarm 5 + bitIf s.light.loss 4
      + bitIf s.framer.silence 3 + bitIf s.banks.held 2 + setup (fun p => bitIf p.autoIsolate 1) + bitIf liveB 0)
    ++ bytesOf 1 (s.straps.station.toNat * 2 ^ 3 + seg)
    ++ bytesOf 1 (s.banks.code .bankA * 2 ^ 5 + s.banks.code .bankB * 2 ^ 2 + band)
    ++ bytesOf 5 s.clock.round.toNat
    ++ bytesOf 1 (setup fun p => p.upkeep - 1)
    ++ bytesOf 2 (setup fun p => p.dirtyLen * 2 ^ 11 + p.period)
    ++ bytesOf 4 (setup (·.epoch))
    ++ bytesOf 1 (setup (·.stray)) ++ bytesOf 1 (setup (·.errMax))
    ++ bytesOf 2 (setup fun p => p.report.toNat * 2 ^ 11 + p.misLim * 2 ^ 6 + (p.cleanLen - 1))
    ++ bytesOf 7 ([EState.vacant, .ranging, .testing, .held, .active, .dozing, .muted, .retired].foldl
        (fun a st => a * 2 ^ 7 + s.countIn st) 0)
    ++ bytesOf 2 s.rogue.iso.word
    ++ bytesOf 4 s.banks.timer
    ++ bytesOf 4 (s.bus.inbox.length * 2 ^ 28 + elapsed)
    ++ bytesOf 2 (s.bus.outbox.length * 2 ^ 11 + s.framer.queue.length * 2 ^ 5 + s.bars.length)

/-- QUERY_STATUS (R211). -/
def execQueryStatus (s : State) : Host.Outcome State Fault Refusal :=
  .next (s.takeRequest 21 (· == 0) true fun s _ => .done .ok s.statusBytes id)

/-! ### ReadCounters (R212, R213) -/

/-- The first place and the number of the counters of a group (R212). -/
def counterGroup : Nat → Option (Nat × Nat)
  | 0 => some (0, 7)
  | 1 => some (7, 8)
  | 2 => some (15, 5)
  | 3 => some (20, 4)
  | 4 => some (24, 8)
  | 5 => some (32, 5)
  | 6 => some (37, 5)
  | 7 => some (42, 3)
  | 8 => some (45, 9)
  | 9 => some (54, 8)
  | _ => none

/-- The counters of a group are set to 0 (R213). -/
def State.clearGroup (s : State) (first n : Nat) : State :=
  { s with counters := s.counters.mapFinIdx fun k v _ => if first ≤ k ∧ k < first + n then 0 else v }

/-- The values of a group in its order, 4 bytes each (R220). -/
def State.groupBytes (s : State) (first n : Nat) : List Byte :=
  ((s.counters.toList.drop first).take n).flatMap (bytesOf 4)

def readCountersReply (s : State) (body : List Byte) : Reply :=
  let group := byteAt body 0
  match counterGroup group with
  | none => .refuse .badIndex
  | some (first, n) =>
    .done .ok (bytesOf 1 group ++ bytesOf 1 n ++ s.groupBytes first n)
      (if byteAt body 1 = 0 then id else fun s => s.clearGroup first n)

/-- READ_COUNTERS (R213). -/
def execReadCounters (s : State) : Host.Outcome State Fault Refusal :=
  .next (s.takeRequest 22 (· == 2) true readCountersReply)

/-! ### TreeRestart (R214) -/

/-- One home at a tree restart (R20); `record`: the Live bank holds a record for the index (R7). What other blocks keep
for the index is discarded without notices (R45, R61, R75, R123). -/
def Home.restarted (h : Home) (record : Bool) : Home :=
  let e :=
    match h.entry.state with
    | .vacant | .retired => h.entry
    | .ranging | .testing | .held => if record then h.entry.retired .restart else .vacant
    | .active | .dozing | .muted => h.entry.retired .restart
  { Home.vacant with entry := { e with balance := 0, miss := 0, score := 0, probe := false } }

/-- The flags of a Live bank record at a tree restart, by the state its entry held (R20, R172). -/
def RecFlags.restarted (f : RecFlags) (st : EState) : RecFlags :=
  if st.inService then { f with partialEpoch := true, restart := true }
  else if st.enrolling then { f with restart := true }
  else f

/-- The Live bank's records at a tree restart. -/
def LiveBank.restarted (l : LiveBank) (homes : Vector Home 64) : LiveBank :=
  { l with records := l.records.mapFinIdx fun i r hi =>
      r.map fun r => { r with flags := r.flags.restarted (homes[i]'hi).entry.state } }

/-- The home table and the Live bank's flags at a tree restart (R20, R184). -/
def State.restartHomes (s : State) : State :=
  { s with
    homes := s.homes.mapFinIdx fun i h hi => h.restarted (s.liveRecord ⟨i, hi⟩).isSome
    banks := { s.banks with live := s.banks.live.map fun l => l.restarted s.homes } }

/-- The restart's swap (R184). -/
def State.restartBanks (s : State) : State :=
  if s.banks.other.free then s.swap else if s.banks.held then s else s.holdEpoch

/-- The code of the restart's swap outcome: taken 0, held 1, already held 2 (R220). -/
def State.restartOutcome (s : State) : Nat := if s.banks.other.free then 0 else if s.banks.held then 2 else 1

/-- The first idle-fill round of a restart: the round whose header is still open, else the next (R82, R214). -/
def State.restartRound (s : State) : Round := if s.clock.headerOpen then s.clock.round else s.clock.round + 1

/-- A map taken before the restart (R24). -/
def RoundExp.cut (e : RoundExp) : RoundExp := { e with cutOff := true }

/-- Everything a tree restart sets but for the home table and the banks (R214). The quantum of the arriving round in which it
is taken is a free value (R108, R123; log 20). -/
def State.restartBlocks (s : State) : State :=
  let due := s.restartRound + 8
  { s with
    enrol := { due, offered := false }
    planner := { s.planner with rotation := 0 }
    framer := { s.framer with queue := [] }
    rx :=
      { preset := nominalLevel
        since := (Config.restartQuantum s.restarts).val
        next := s.rx.next.map RoundExp.cut
        arriving := s.rx.arriving.map RoundExp.cut
        closing := s.rx.closing.map RoundExp.cut }
    light := { streak := 0, loss := false, lossAge := 0 }
    rogue := { alarm := false, alarmAge := 0, dirty := 0, clean := 0, iso := .idle, owed := [] }
    restarts := s.restarts + 1 }

/-- The idle fill of a restart: 8 idle-fill rounds, of which the first begins at once where its header is open
(R82, R214). -/
def State.restartClock (s : State) : State :=
  if s.clock.headerOpen then
    let s := { s with clock := { s.clock with idleLeft := 7, firstMap := true, headerOpen := false } }
    s.sendIdleHeader.expectUnmapped
  else { s with clock := { s.clock with idleLeft := 8, firstMap := true } }

/-- A tree restart (R214): the home table first, then the swap (R184). -/
def State.restartTree (s : State) : State := s.restartHomes.restartBlocks.restartClock.restartBanks

def treeRestartReply (s : State) (_ : List Byte) : Reply :=
  .done .ok (bytesOf 5 s.restartRound.toNat ++ bytesOf 1 s.restartOutcome) State.restartTree

/-- TREE_RESTART (R214). -/
def execTreeRestart (s : State) : Host.Outcome State Fault Refusal :=
  .next (s.takeRequest 23 (· == 0) false treeRestartReply)

end Sys2Proof.Machine
end

