-- ==== Sys2Proof/Machine/Dispatch.lean ====
section
/-! DEFINITION. The dispatch: every command has its one meaning. -/

namespace Sys2Proof.Machine

open Sys2Proof

def exec (i : Instr) (s : State) : Host.Outcome State Fault Refusal :=
  match i with
  | .fullReset station reach => Sys2Proof.Machine.execFullReset station reach s
  | .roundBoundary part => Sys2Proof.Machine.execRoundBoundary part s
  | .ratingComplete => Sys2Proof.Machine.execRatingComplete s
  | .idleFillEnd => Sys2Proof.Machine.execIdleFillEnd s
  | .discoveryDue => Sys2Proof.Machine.execDiscoveryDue s
  | .discoveryBurst arrival body => Sys2Proof.Machine.execDiscoveryBurst arrival body s
  | .roundClose obs => Sys2Proof.Machine.execRoundClose obs s
  | .approvalTimeout index => Sys2Proof.Machine.execApprovalTimeout index s
  | .claimWindowExpiry index => Sys2Proof.Machine.execClaimWindowExpiry index s
  | .dozeExpiry index => Sys2Proof.Machine.execDozeExpiry index s
  | .backoffExpiry => Sys2Proof.Machine.execBackoffExpiry s
  | .epochTimerExpiry => Sys2Proof.Machine.execEpochTimerExpiry s
  | .ringSegmentAdvance => Sys2Proof.Machine.execRingSegmentAdvance s
  | .transmitSilenceDeclared periods => Sys2Proof.Machine.execTransmitSilenceDeclared periods s
  | .transmitSilenceClear => Sys2Proof.Machine.execTransmitSilenceClear s
  | .downstreamFrame index bytes room => Sys2Proof.Machine.execDownstreamFrame index bytes room s
  | .messageReceived m => Sys2Proof.Machine.execMessageReceived m s
  | .messageSendStart before bus => Sys2Proof.Machine.execMessageSendStart before bus s
  | .takeSlot taken => Sys2Proof.Machine.execTakeSlot taken s
  | .claim => Sys2Proof.Machine.execClaim s
  | .counterClaim => Sys2Proof.Machine.execCounterClaim s
  | .bar => Sys2Proof.Machine.execBar s
  | .foreignMessage => Sys2Proof.Machine.execForeignMessage s
  | .unknownKind => Sys2Proof.Machine.execUnknownKind s
  | .setup => Sys2Proof.Machine.execSetup s
  | .queryStatus => Sys2Proof.Machine.execQueryStatus s
  | .readCounters => Sys2Proof.Machine.execReadCounters s
  | .treeRestart => Sys2Proof.Machine.execTreeRestart s
  | .readHome => Sys2Proof.Machine.execReadHome s
  | .removeHome => Sys2Proof.Machine.execRemoveHome s
  | .approve => Sys2Proof.Machine.execApprove s
  | .deny => Sys2Proof.Machine.execDeny s
  | .retest => Sys2Proof.Machine.execRetest s
  | .addBar => Sys2Proof.Machine.execAddBar s
  | .clearBar => Sys2Proof.Machine.execClearBar s
  | .readBarList => Sys2Proof.Machine.execReadBarList s
  | .setShare => Sys2Proof.Machine.execSetShare s
  | .wakeHome => Sys2Proof.Machine.execWakeHome s
  | .startIsolation => Sys2Proof.Machine.execStartIsolation s
  | .releaseMute => Sys2Proof.Machine.execReleaseMute s
  | .loadRates => Sys2Proof.Machine.execLoadRates s
  | .loadRing => Sys2Proof.Machine.execLoadRing s
  | .closeEpoch => Sys2Proof.Machine.execCloseEpoch s
  | .readUsageSummary => Sys2Proof.Machine.execReadUsageSummary s
  | .readUsageVolumes => Sys2Proof.Machine.execReadUsageVolumes s
  | .releaseBank => Sys2Proof.Machine.execReleaseBank s
  | .downstreamFrameSent room => Sys2Proof.Machine.execDownstreamFrameSent room s
  | .clockStopsBeforeTakeSlot => Sys2Proof.Machine.execClockStopsBeforeTakeSlot s

end Sys2Proof.Machine
end

