-- ==== Sys2Proof/Machine/Lines.lean ====
section
/-! DEFINITION. What the part puts on its lines: the bytes of a round header, of the directives and map entries in it, and
of a frame on the feeder or at the traffic port (R217, R218). `exec` keeps headers and frames as records; these
functions spell them. -/

namespace Sys2Proof.Machine

open Sys2Proof

def GrantKind.code : GrantKind → Nat
  | .data => 0 | .poll => 1 | .test => 2 | .ranging => 3

def SpanKind.code : SpanKind → Nat
  | .discovery => 1 | .quiet => 2

/-- A map entry of 4 bytes: kind in bits 31..30, index 29..24, start 23..12, length 11..0 (R217). -/
def Grant.bytes (g : Grant) : List Byte :=
  bytesOf 4 (g.kind.code * 2 ^ 30 + g.index.val * 2 ^ 24 + g.start * 2 ^ 12 + g.length)

/-- The type byte and the fields of a directive (R217). -/
def Directive.fields : Directive → List Byte
  | .assign t i => bytesOf 1 0 ++ bytesOf 8 t.toNat ++ bytesOf 1 i.val
  | .setDelay i d => bytesOf 1 1 ++ bytesOf 1 i.val ++ bytesOf 2 d
  | .leaveIndex i => bytesOf 1 2 ++ bytesOf 1 i.val
  | .leaveTag t => bytesOf 1 3 ++ bytesOf 8 t.toNat
  | .dozeGranted i n => bytesOf 1 4 ++ bytesOf 1 i.val ++ bytesOf 2 n
  | .wake i => bytesOf 1 5 ++ bytesOf 1 i.val

/-- A directive of 10 bytes; the bytes its type leaves unused are 0 (R216, R217). -/
def Directive.bytes (d : Directive) : List Byte := d.fields ++ List.replicate (10 - d.fields.length) 0

/-- The discovery invite flag: the map's reserved span is a discovery span (R78). -/
def Header.invite (h : Header) : Bool := h.map.any fun m => m.span.any fun sp => sp.1 == .discovery

/-- The code and the length of the reserved span; 0 and 0 with none (R217). -/
def Header.spanField (h : Header) : Nat × Nat :=
  match h.map.bind (·.span) with
  | some (k, n) => (k.code, n)
  | none => (0, 0)

def Header.grants (h : Header) : List Grant := (h.map.map (·.grants)).getD []

/-- Every byte of a round header but its check (R217). -/
def Header.checked (h : Header) : List Byte :=
  bytesOf 5 h.round.toNat ++ bytesOf 1 (bitIf h.invite 1 + bitIf h.idleFill 0) ++ indexBits h.dark
    ++ bytesOf 1 h.spanField.1 ++ bytesOf 2 h.spanField.2 ++ bytesOf 1 h.grants.length
    ++ bytesOf 1 h.directives.length ++ h.grants.flatMap Grant.bytes ++ h.directives.flatMap Directive.bytes

/-- The bytes of a round header (R217). -/
def Header.bytes (h : Header) : List Byte := h.checked ++ bytesOf 2 (crcBytes h.checked).toNat

/-- A frame between headers, and at the traffic port: index, length and frame bytes (R217, R218). -/
def Frame.line (f : Frame) : List Byte := bytesOf 1 f.index.val ++ bytesOf 2 f.bytes.length ++ f.bytes

/-- The header bytes on FDTX of the current downstream round; none before the first header (R78). -/
def State.feederHeader (s : State) : List Byte := (s.framer.header.map Header.bytes).getD []

/-- The bytes the last close passed to the switch (R152). -/
def State.portBytes (s : State) : List Byte := s.toSwitch.flatMap Frame.line

end Sys2Proof.Machine
end

