-- ==== Sys2Proof/Safety.lean ====
section
/-! DEFINITION. What a safe state of the part is, in the terms the statements use: the laws the manual says always hold,
each as a predicate of the state; and the words for what a step leaves behind. -/

namespace Sys2Proof.Machine

open Sys2Proof

/-! ### Laws that always hold -/

/-- The inbox, the outbox, the directive queue and the bar list hold no more than their sizes (R197, R195, R79, R54). -/
structure State.QueuesBounded (s : State) : Prop where
  inbox : s.bus.inbox.length ≤ 8
  outbox : s.bus.outbox.length ≤ 16
  directives : s.framer.queue.length ≤ 32
  bars : s.bars.length ≤ 16

/-- The bar list holds no tag twice (R54). -/
def State.BarsDistinct (s : State) : Prop := (s.bars.map fun e => e.tag).Nodup

/-- No tag is held by two entries whose state is other than Vacant (R4). -/
def State.TagsUnique (s : State) : Prop :=
  ∀ (i j : HomeIdx) (t : Tag), (s.entry i).state ≠ .vacant → (s.entry j).state ≠ .vacant →
    (s.entry i).tag = some t → (s.entry j).tag = some t → i = j

/-- Between steps every upkeep balance lies within -8..+7: it is 8 only during the planning of one map (R87). -/
def State.BalancesBelowEight (s : State) : Prop := ∀ i : HomeIdx, -8 ≤ (s.entry i).balance ∧ (s.entry i).balance ≤ 7

/-- No entry in Ranging, Testing or Held holds a tag that is on the bar list (R55). -/
def State.NoBarredEnrolling (s : State) : Prop :=
  ∀ (i : HomeIdx) (t : Tag), (s.entry i).state.enrolling → (s.entry i).tag = some t → s.barred t = false

/-- Guaranteed shares: none outside service, and a sum of at most 2,400 quanta (R77). -/
structure State.SharesInRange (s : State) : Prop where
  outside : ∀ i : HomeIdx, (s.entry i).state.inService = false → (s.entry i).share = 0
  total : s.shareSum ≤ 2400

/-- Every counter lies in its range (R212). -/
def State.CountersInRange (s : State) : Prop := ∀ c : Counter, s.counter c ≤ counterMax

/-- A record of the Live bank stands for the tag its index holds, and every home in service, and every Retired one, has
its record; a bank is Live exactly while the part is Set, and an Unset part holds no home, expects no round and has its
round counter at 0 (R14, R171, R164, R19, R123, R206). -/
structure State.BillingSound (s : State) : Prop where
  record : ∀ (i : HomeIdx) (r : UsageRecord), s.liveRecord i = some r → (s.entry i).tag = some r.tag
  served : ∀ i : HomeIdx, (s.entry i).state.inService ∨ (s.entry i).state = .retired → (s.liveRecord i).isSome
  live : s.banks.live.isSome = s.setup.isSome
  unset : s.setup = none → ∀ i : HomeIdx, (s.entry i).state = .vacant
  noRound : s.setup = none → s.rx.arriving = none
  counter : s.setup = none → s.clock.round = 0

/-- The states whose entries hold a delay and a level (R2); a Retired entry may hold them or not (log 10). -/
def EState.measured : EState → Bool
  | .testing | .held | .active | .dozing | .muted => true
  | .vacant | .ranging | .retired => false

/-- Each field of an entry is present in the states R2 gives it and absent in the others, and holds a value of R2's
range; `target` is T_target and `doze` is 9 x I. D and L of a Retired entry are left open (log 10). -/
structure Entry.Legal (e : Entry) (target doze : Nat) : Prop where
  tag : e.tag.isSome = (e.state != .vacant)
  delay : e.state.measured → e.delay.isSome
  noDelay : e.state = .vacant ∨ e.state = .ranging → e.delay = none
  delayRange : ∀ d, e.delay = some d → d ≤ target
  level : e.state.measured → e.level.isSome
  noLevel : e.state = .vacant ∨ e.state = .ranging → e.level = none
  levelRange : ∀ l, e.level = some l → l ≤ 255
  share : e.share ≤ 1000
  weight : 1 ≤ e.weight ∧ e.weight ≤ 16
  balance : -8 ≤ e.balance ∧ e.balance ≤ 8
  backlog : e.backlog.isSome = (e.state == .active || e.state == .dozing)
  backlogRange : ∀ n, e.backlog = some n → n ≤ 65535
  miss : e.miss ≤ 4
  score : e.score ≤ 31
  claim : e.claim.isSome = e.state.inService
  wish : e.wish.isSome = (e.state == .active)
  dozeLeft : e.dozeLeft.isSome = (e.state == .dozing)
  dozeRange : ∀ n, e.dozeLeft = some n → n ≤ doze
  probe : e.probe → e.state.candidate
  mute : e.mute.isSome = (e.state == .muted)
  retire : e.retire.isSome = (e.state == .retired)

/-- What the blocks keep for an index fits the state of its entry: the progress record (R28), the retest (R42), the
request for ranging in place (R33, R115), the claim window (R47) and the kept Wake (R80). -/
structure Home.Legal (h : Home) (target doze : Nat) : Prop where
  entry : h.entry.Legal target doze
  progress : h.progress.isSome = h.entry.state.enrolling
  retest : h.retest ≠ .idle → h.entry.state = .active
  inPlace : h.inPlace ≠ .idle → h.entry.state.measured ∧ h.entry.state ≠ .testing
  window : h.window.isSome = (h.entry.claim == some .pending)
  keptWake : h.keptWake → h.entry.state = .active

/-- The longest doze: 9 x I rounds, I as Setup gave it (R2, R93); an Unset part has none. -/
def State.longestDoze (s : State) : Nat :=
  match s.setup with
  | some p => 9 * p.upkeep
  | none => 0

/-- The home table is as R2 describes it, and isolation as R129 does: while Probing the candidate set is not empty, rises
and holds Held, Active and Dozing entries only, and only candidates are probe-muted. -/
structure State.HomesLegal (s : State) : Prop where
  homes : ∀ i : HomeIdx, (s.home i).Legal s.target s.longestDoze
  rising : ∀ p, s.rogue.iso = .probing p → p.cands ≠ [] ∧ p.cands.Pairwise (· < ·)
  cands : ∀ p, s.rogue.iso = .probing p → ∀ i ∈ p.cands, (s.entry i).state.candidate
  probes : ∀ i : HomeIdx, (s.entry i).probe → ∃ p, s.rogue.iso = .probing p ∧ i ∈ p.cands
  interval : ∀ p, s.setup = some p → 4 ≤ p.upkeep ∧ p.upkeep ≤ 256

/-! ### The words of the statements -/

/-- A lookup of a tag finds the entry at an index: it is other than Vacant and holds the tag, and no lower one does
(R4). -/
structure State.Finds (s : State) (tag : Tag) (i : HomeIdx) : Prop where
  state : (s.entry i).state ≠ .vacant
  holds : (s.entry i).tag = some tag
  lowest : ∀ j, j < i → (s.entry j).state = .vacant ∨ (s.entry j).tag ≠ some tag

/-- A lookup of a tag answers "not held" (R4). -/
def State.NotHeld (s : State) (tag : Tag) : Prop := ∀ j : HomeIdx, (s.entry j).state = .vacant ∨ (s.entry j).tag ≠ some tag

/-- A value brought into a range: replaced by the nearest end where it lies outside (00_scope.md, conventions). -/
def nearest (lo hi v : Nat) : Nat := if v < lo then lo else if hi < v then hi else v

/-- The idle count after bit times that hold no message: idle ones in a row are counted up to 12 (R185). -/
def idleAfter (count : Nat) : List BitTime → Nat
  | [] => count
  | .idle :: rest => idleAfter (min 12 (count + 1)) rest
  | .busy :: rest => idleAfter 0 rest

/-- The port after bit times that hold no message: its idle count, and whether the port receives, once the count has
reached 12 (R185, R192, R200). -/
def Bus.after (b : Bus) (times : List BitTime) : Bus :=
  { b with
    idle := idleAfter b.idle times
    ready := b.ready || (List.range times.length).any fun k => idleAfter b.idle (times.take (k + 1)) == 12 }

/-- The directives that wait for room in the queue, in the order in which a boundary offers them: those of enrolments by
ascending index, then the kept Wakes (R28, R80; log 13). -/
def State.waitingDirectives (s : State) : List Directive :=
  (allIdx.filterMap fun i => (s.home i).progress.bind (·.waiting))
    ++ allIdx.filterMap fun i => if (s.home i).keptWake then some (.wake i) else none

/-- A request of one kind, with a body of one length, stands at the inbox head, and the outbox has room for its answer
(R202). -/
structure State.Asks (s : State) (m : InMsg) (kind length : Nat) : Prop where
  head : s.bus.inbox.head? = some m
  kind : m.kind.toNat = kind
  length : m.body.length = length
  room : s.bus.outbox.length < 16

/-- The port after a request has left the inbox and its answer has joined the outbox (R202, R203). -/
def Bus.answered (b : Bus) (m : InMsg) (code : OutcomeCode) (data : List Byte) : Bus :=
  { b with inbox := b.inbox.tail, outbox := b.outbox ++ [answerMessage m.sender m.kind code data] }

/-- Messages are offered to the outbox in order: those that find room join it (R195). -/
def Bus.offered (b : Bus) (l : List OutMsg) : Bus := { b with outbox := b.outbox ++ l.take (16 - b.outbox.length) }

/-- The counters of a list gain 1 for each time they stand in it, up to the top of their range, and no other counter
changes (R212). -/
def State.Gained (s t : State) (l : List Counter) : Prop :=
  ∀ c : Counter, t.counter c = if c ∈ l then min (s.counter c + l.count c) counterMax else s.counter c

/-- The request is answered, and nothing else changes but the handler's count of it (R203, R213). -/
def State.Answers (s t : State) (m : InMsg) (code : OutcomeCode) (data : List Byte) : Prop :=
  t = { s with bus := s.bus.answered m code data, waited := false, counters := t.counters }
    ∧ s.Gained t [.requestsTaken]

/-- The directive queue after a directive is offered to it: a full queue takes nothing (R79, R80). -/
def joined (queue : List Directive) (d : Directive) : List Directive := if queue.length < 32 then queue ++ [d] else queue

/-- The bar list after an addition (R54). -/
def barsAfter (l : List BarEntry) (e : BarEntry) : List BarEntry :=
  if l.any fun x => x.tag == e.tag then l.filter (fun x => x.tag != e.tag) ++ [e]
  else if l.length < 16 then l ++ [e]
  else l.tail ++ [e]

/-- The message of a home's cancelled retest, where it has one (R42). -/
def State.cancelMessages (s : State) (i : HomeIdx) : List OutMsg :=
  if (s.home i).retest = .idle then []
  else [(Notice.testResult i (s.entry i).tagVal .cancelled).message s.reportStation]

/-- The messages of a home's move out of its state, ahead of those of the cause, in the order in which they are offered:
its cancelled retest, then the Unresolved outcome of an isolation whose last candidate it was (R42, R139, R142; the
order: log 14; the round and the steps of that outcome: log 11). -/
def State.partingMessages (s : State) (i : HomeIdx) (round : Round) : List OutMsg :=
  s.cancelMessages i ++
    match s.rogue.iso with
    | .probing p =>
      if i ∈ p.cands ∧ p.cands.erase i = [] then
        [(Notice.rogueUnresolved .empty round p.steps []).message s.reportStation]
      else []
    | _ => []

/-- The entry at an index leaves its state for Vacant, or for Retired where it was in service or the Live bank holds a
record for the index (R6, R7, R13); the record takes its flags (R172); a Leave is offered where the cause names one
(R80); and a candidate leaves the candidate set, which ends the isolation where it was the last (R139, R142). No other
index changes, but for the probe mutes that the end of an isolation releases. -/
structure State.Departs (s t : State) (i : HomeIdx) (r : RetireReason) (leave : Option Directive) : Prop where
  home : t.home i =
    if (s.entry i).state.inService ∨ (s.liveRecord i).isSome then
      { Home.vacant with entry := (s.entry i).retired r }
    else Home.vacant
  others : ∀ j, j ≠ i → t.home j = s.home j ∨
    (s.probing ∧ t.home j = { s.home j with entry := { s.entry j with probe := false } })
  record : ∀ q, s.liveRecord i = some q → t.liveRecord i =
    some { q with flags :=
      { q.flags with partialEpoch := q.flags.partialEpoch || (s.entry i).state.inService }.withReason r }
  noRecord : s.liveRecord i = none → t.liveRecord i = none
  records : ∀ j, j ≠ i → t.liveRecord j = s.liveRecord j
  banks : t.banks = { s.banks with live := t.banks.live }
    ∧ t.banks.live.map (fun l => (l.plan, l.start)) = s.banks.live.map fun l => (l.plan, l.start)
  framer : t.framer =
    match leave with
    | some d => { s.framer with queue := joined s.framer.queue d }
    | none => s.framer
  stays : (∀ p, s.rogue.iso = .probing p → i ∉ p.cands) → t.rogue = s.rogue ∧ ∀ j, j ≠ i → t.home j = s.home j
  leaves : ∀ p, s.rogue.iso = .probing p → i ∈ p.cands →
    t.rogue.iso = if p.cands.erase i = [] then .backoff 2000 else .probing { p with cands := p.cands.erase i }
  rest : t = { s with homes := t.homes, framer := t.framer, rogue := t.rogue, banks := t.banks, bus := t.bus,
                      bars := t.bars, counters := t.counters, waited := t.waited }

/-- A swap of the banks (R174): the Live bank closes into Rating, the other opens with the given plan and the given ring
position, every Retired entry enters Vacant, and the timer is set. -/
structure State.Swaps (s t : State) (p : Params) (l : LiveBank) (plan : Plan) (ring : Ring) : Prop where
  closed : ∃ c position, t.banks.other = .rating c position false ∧ c.plan = l.plan ∧ c.start = l.start
    ∧ c.stop = s.clock.round ∧ position = nextRecord c.records 0
    ∧ ∀ i : HomeIdx, c.records[i.val] = (s.liveRecord i).map fun r => { r with stop := some s.clock.round }
  opened : ∃ n, t.banks.live = some n ∧ n.plan = plan ∧ n.start = s.clock.round
    ∧ ∀ i : HomeIdx, n.records[i.val] =
      if (s.entry i).state.inService then
        some
          { tag := (s.entry i).tagVal, start := s.clock.round, stop := none, up := Vector.replicate 4 0
            down := Vector.replicate 4 0, charge := none
            flags := { RecFlags.clear with convicted := decide ((s.entry i).mute = some .convicted) } }
      else none
  flips : t.banks.liveId = s.banks.liveId.flip
  timer : t.banks.timer = p.epoch ∧ t.banks.held = false
  ring : t.ring = some ring
  homes : ∀ i : HomeIdx, t.home i = if (s.entry i).state = .retired then Home.vacant else s.home i

/-- The Held, Active and Dozing entries, ascending (R131). -/
def State.isolable (s : State) : List HomeIdx :=
  (List.finRange 64).filter fun i =>
    decide ((s.entry i).state = .held) || decide ((s.entry i).state = .active) || decide ((s.entry i).state = .dozing)

/-- The Ranging and Testing entries, ascending: those a start of isolation abandons (R131; the order: log 37). -/
def State.abandonable (s : State) : List HomeIdx :=
  (List.finRange 64).filter fun i =>
    decide ((s.entry i).state = .ranging) || decide ((s.entry i).state = .testing)

/-- The messages of a start of isolation in the order in which they are offered: for each abandoned entry its cancelled
retest, where it has one, and its EnrollFailed, then the Unresolved outcome of a start without candidates (R43, R132;
logs 14, 37). -/
def State.startMessages (s : State) (round : Round) : List OutMsg :=
  let tell (n : Notice) : OutMsg := n.message s.reportStation
  (s.abandonable.flatMap fun i => s.cancelMessages i ++ [tell (.enrollFailed i (s.entry i).tagVal .abandoned)])
    ++ if s.isolable = [] then [tell (.rogueUnresolved .empty round 0 [])] else []

/-- Isolation, not in progress, starts in a round, with its messages offered to a port (R130 to R132): the candidates are
every Held, Active and Dozing entry, each is probe-muted and the Whole step begins; an entry in Ranging or Testing is
abandoned, with its Leave; with no candidate the outcome is Unresolved at once. -/
structure State.StartsIsolation (s t : State) (port : Bus) (round : Round) : Prop where
  iso : t.rogue.iso =
    if s.isolable = [] then .backoff 2000
    else .probing { cands := s.isolable, step := .whole, obs := none, settle := 1, steps := 1 }
  streaks : t.rogue = { s.rogue with dirty := 0, clean := 0, iso := t.rogue.iso }
  abandoned : ∀ i : HomeIdx, (s.entry i).state = .ranging ∨ (s.entry i).state = .testing →
    t.home i =
      if (s.liveRecord i).isSome then { Home.vacant with entry := (s.entry i).retired .lost } else Home.vacant
  muted : ∀ i : HomeIdx, (s.entry i).state ≠ .ranging → (s.entry i).state ≠ .testing →
    t.home i = { s.home i with entry := { s.entry i with probe := decide (i ∈ s.isolable) } }
  leaves : t.framer = { s.framer with
    queue := (s.abandonable.map fun i =>
      if (s.entry i).state = .ranging then Directive.leaveTag (s.entry i).tagVal else .leaveIndex i).foldl joined
        s.framer.queue }
  told : t.bus = port.offered (s.startMessages round)
  records : ∀ i : HomeIdx, t.liveRecord i = (s.liveRecord i).map fun r =>
    if i ∈ s.abandonable then { r with flags := { r.flags with lost := true } } else r
  banks : t.banks = { s.banks with live := t.banks.live }
  counted : t.counter .isolationRun = min (s.counter .isolationRun + 1) counterMax
  unresolved : s.isolable = [] →
    t.counter .rogueUnresolved = min (s.counter .rogueUnresolved + 1) counterMax
  rest : t = { s with homes := t.homes, framer := t.framer, rogue := t.rogue, banks := t.banks, bus := t.bus,
                      counters := t.counters, waited := t.waited }

/-- Nothing that an earlier boundary brought due is still to be taken, no decay is owed, and no header is open. -/
structure State.Settled (s : State) : Prop where
  header : s.clock.headerOpen = false
  approvals : ∀ (i : HomeIdx) (p : Progress), (s.entry i).state = .held → (s.home i).progress = some p →
    p.clock ≠ some 4000
  windows : ∀ i : HomeIdx, (s.home i).window = some 0 → (s.entry i).claim ≠ some .pending
  dozes : ∀ i : HomeIdx, (s.entry i).state = .dozing → (s.entry i).dozeLeft ≠ some 0
  decays : s.rogue.owed = []
  backoff : s.rogue.iso ≠ .backoff 0
  ring : ∀ r, s.ring = some r → r.due = false
  epoch : s.epochDue = false
  rating : ∀ b position, s.banks.other ≠ .rating b position true

end Sys2Proof.Machine
end

