-- ==== Sys2Proof/Certificates/Slice0/Obligations.lean ====
section
/-! DEFINITION. The statements for the provers. Each docstring says which sentences of the manual it formalises, and
which choice of the model it rests on where it rests on one. -/

open Sys2Proof Sys2Proof.Machine

/-! ### The step -/

/-- One step takes the command at the front of the queue and runs it on the state that holds the queue's rest (the
model's reading of a block; log 3). -/
def Obligations.StepTakesFrontCommand : Prop :=
  ∀ (c : Instr) (rest : List Instr) (s : State),
    step { s with pending := c :: rest } = exec c { s with pending := rest }

/-- Every command of the table runs to a next state and leaves the queue of waiting commands alone. That none of the 48
stops is the model's choice (DESIGN CHOICE, log 28), read from 95_what_each_step_holds.md, where every step is whole;
the queue of commands is the model's as well (log 3). -/
def Obligations.CommandsCompleteAndKeepQueue : Prop :=
  ∀ (c : Instr) (s : State), ∃ t, exec c s = .next t ∧ t.pending = s.pending

/-! ### Full reset and Setup -/

/-- FULL_RESET reads the straps, returns every block to its reset values and leaves the part Unset: every index Vacant
with nothing kept for it, the lists, queues, counts, alarms and the port as section by section says, and no message
taken until the idle count first reaches 12; a part strapped to 31 is listen-only (sections 1.8, 2.9, 3.7, 4.3, 4.7,
5.5, 6.7, 7.9, 8.7, 9.7, 10.8, 11.9). The values of what does not run while the part is Unset are the model's choice
(DESIGN CHOICE, log 2): no open header and none sent, the ages of alarm, feeder loss and silence at 0, and no frames
passed to the switch; so is the quantum 0 beside the preset (log 20) and that no decay is owed (log 32). -/
def Obligations.FullResetLeavesPartUnset : Prop :=
  ∀ (station : Station) (reach : Reach) (s : State), ∃ t, exec (.fullReset station reach) s = .next t
    ∧ t.straps.station = station ∧ t.straps.reach = reach
    ∧ t.setup = none ∧ t.reportStation = 31 ∧ t.clock.round = 0 ∧ t.clock.headerOpen = false
    ∧ (∀ i : HomeIdx, t.home i =
        { entry :=
            { state := .vacant, tag := none, delay := none, level := none, share := 0, weight := 1, balance := 0
              backlog := none, miss := 0, score := 0, claim := none, wish := none, dozeLeft := none, probe := false
              mute := none, retire := none }
          progress := none, retest := .idle, inPlace := .idle, window := none, keptWake := false, marker := .clear })
    ∧ t.bars = [] ∧ t.planner.rotation = 0
    ∧ t.framer =
        { queue := [], run := 0, silence := false, silenceAge := 0, sending := none, waiting := none, header := none }
    ∧ t.rx = { preset := 128, since := 0, next := none, arriving := none, closing := [] }
    ∧ t.light = { streak := 0, loss := false, lossAge := 0 }
    ∧ t.rogue = { alarm := false, alarmAge := 0, dirty := 0, clean := 0, iso := .idle, owed := [] }
    ∧ t.ring = none ∧ t.banks.live = none ∧ t.banks.other = .empty ∧ t.banks.timer = 0 ∧ t.banks.held = false
    ∧ t.bus.inbox = [] ∧ t.bus.outbox = [] ∧ t.bus.idle = 0 ∧ t.bus.ready = false ∧ t.bus.sending = false
    ∧ (t.bus.listenOnly = true ↔ station = 31)
    ∧ t.waited = false ∧ t.toSwitch = []
    ∧ ∀ c : Counter, t.counter c = 0

/-- SETUP (section 11.5). On a Set part it is answered SETUP_DONE and nothing changes. On an Unset part the ten values
are taken, the acceptance is a round boundary that sets the round counter to 0 and sends the first of 8 idle-fill
headers, after which a waiting frame starts, a Declared silence grows older by that boundary, bank A becomes Live with
the flat plan and no record, the timer is E, the ring stands at its start, the discovery due round is 8, and the answer
carries the values. Nothing else of the part changes. That the acceptance is a boundary for the age of a silence too is
log 30 (DEDUCED). -/
def Obligations.SetupStartsThePart : Prop :=
  ∀ (s : State) (m : InMsg), s.Asks m 20 16 →
    (s.setup.isSome → ∃ t, exec .setup s = .next t ∧ s.Answers t m .setupDone [])
    ∧ (s.setup = none → ∃ t, exec .setup s = .next t
      ∧ t.setup = some (setupParams m.body).1
      ∧ t.clock = { round := 0, idleLeft := 7, firstMap := true, headerOpen := false }
      ∧ t.framer = { s.framer with
          header := some { round := 0, idleFill := true, dark := s.darkSet, map := none, directives := [] }
          silenceAge := if s.framer.silence then s.framer.silenceAge + 1 else s.framer.silenceAge
          sending := if s.framer.sending = none then s.framer.waiting else s.framer.sending
          waiting := if s.framer.sending = none then none else s.framer.waiting }
      ∧ t.banks.liveId = .bankA ∧ t.banks.other = .empty ∧ t.banks.held = false
      ∧ t.banks.timer = (setupParams m.body).1.epoch
      ∧ (t.banks.live.map fun l => (l.plan, l.start)) = some (Plan.flat, 0)
      ∧ (∀ i : HomeIdx, t.liveRecord i = none)
      ∧ t.ring = some { seg := 0, elapsed := 0, due := false }
      ∧ t.enrol = { due := 8, offered := false }
      ∧ t.rx = { s.rx with
          next := some { round := 1, map := none, spanGood := false, cutOff := false }, arriving := none, closing := [] }
      ∧ (let p := (setupParams m.body).1
         t.bus = s.bus.answered m (if (setupParams m.body).2 then .clamped else .ok)
          (bytesOf 2 p.upkeep ++ bytesOf 2 p.period ++ bytesOf 4 p.epoch ++ bytesOf 1 p.stray ++ bytesOf 1 p.dirtyLen
            ++ bytesOf 1 p.cleanLen ++ bytesOf 1 p.errMax ++ bytesOf 1 p.misLim
            ++ bytesOf 1 (if p.autoIsolate then 1 else 0) ++ bytesOf 1 p.report.toNat))
      ∧ s.Gained t [.requestsTaken]
      ∧ t = { s with setup := t.setup, clock := t.clock, framer := t.framer, banks := t.banks, ring := t.ring,
                     enrol := t.enrol, rx := t.rx, bus := t.bus, counters := t.counters, waited := false })

/-- Whatever a Setup body carries (its layout and mask bits: section 12.4; the table of section 11.5): each of the eight
parameters with a default takes it where its mask bit is set and is otherwise the value carried, replaced by the nearest
end of its range where it lies outside; the ten values lie in their ranges; auto-isolate is yes for any value above 0; a
report station above 31 becomes 31. The answer is CLAMPED exactly where a carried value was replaced. -/
def Obligations.SetupValuesLieInRange : Prop :=
  ∀ body : List Byte,
    let p := (setupParams body).1
    let mask := byteAt body 15
    let taken (bit default lo hi carried : Nat) : Nat := if mask.testBit bit then default else nearest lo hi carried
    let replaced (bit lo hi carried : Nat) : Prop := mask.testBit bit = false ∧ (carried < lo ∨ hi < carried)
    (4 ≤ p.upkeep ∧ p.upkeep ≤ 256) ∧ (8 ≤ p.period ∧ p.period ≤ 1024)
      ∧ (2000 ≤ p.epoch ∧ p.epoch ≤ 4294967295) ∧ (1 ≤ p.stray ∧ p.stray ≤ 255)
      ∧ (2 ≤ p.dirtyLen ∧ p.dirtyLen ≤ 16) ∧ (4 ≤ p.cleanLen ∧ p.cleanLen ≤ 64)
      ∧ p.errMax ≤ 255 ∧ (4 ≤ p.misLim ∧ p.misLim ≤ 31)
      ∧ p.upkeep = taken 0 16 4 256 (field body 0 2)
      ∧ p.period = taken 1 64 8 1024 (field body 2 2)
      ∧ p.epoch = taken 2 172800000 2000 4294967295 (field body 4 4)
      ∧ p.stray = taken 3 8 1 255 (byteAt body 8)
      ∧ p.dirtyLen = taken 4 4 2 16 (byteAt body 9)
      ∧ p.cleanLen = taken 5 16 4 64 (byteAt body 10)
      ∧ p.errMax = taken 6 4 0 255 (byteAt body 11)
      ∧ p.misLim = taken 7 16 4 31 (byteAt body 12)
      ∧ (p.autoIsolate = true ↔ byteAt body 13 ≠ 0)
      ∧ p.report.toNat = min (byteAt body 14) 31
      ∧ ((setupParams body).2 = true ↔
          replaced 0 4 256 (field body 0 2) ∨ replaced 1 8 1024 (field body 2 2)
          ∨ replaced 2 2000 4294967295 (field body 4 4) ∨ replaced 3 1 255 (byteAt body 8)
          ∨ replaced 4 2 16 (byteAt body 9) ∨ replaced 5 4 64 (byteAt body 10) ∨ replaced 7 4 31 (byteAt body 12)
          ∨ 1 < byteAt body 13 ∨ 31 < byteAt body 14)

/-! ### Requests in general -/

/-- The 22 request commands with the kind and the body length each has (section 12.4); LoadRing's length is checked to
hold its fixed part. -/
def requestCommands : List (Instr × Nat × (Nat → Bool) × Bool) :=
  [(.setup, 20, (· == 16), true), (.queryStatus, 21, (· == 0), true), (.readCounters, 22, (· == 2), true),
   (.treeRestart, 23, (· == 0), false), (.readHome, 24, (· == 1), false), (.removeHome, 25, (· == 9), false),
   (.approve, 26, (· == 9), false), (.deny, 27, (· == 9), false), (.retest, 28, (· == 1), false),
   (.addBar, 29, (· == 8), true), (.clearBar, 30, (· == 9), true), (.readBarList, 31, (· == 1), true),
   (.setShare, 32, (· == 4), false), (.wakeHome, 33, (· == 1), false), (.startIsolation, 34, (· == 0), false),
   (.releaseMute, 35, (· == 1), false), (.loadRates, 36, (· == 19), false), (.loadRing, 37, (6 ≤ ·), false),
   (.closeEpoch, 38, (· == 0), false), (.readUsageSummary, 39, (· == 1), false),
   (.readUsageVolumes, 40, (· == 2), false), (.releaseBank, 41, (· == 0), false)]

/-- Any of the 22 requests at the inbox head with a full outbox waits: it stays at the head, it is counted as waiting
once, and nothing else changes (section 11.1). -/
def Obligations.RequestWaitsForOutboxRoom : Prop :=
  ∀ q ∈ requestCommands, ∀ (s : State) (m : InMsg),
    s.bus.inbox.head? = some m → m.kind.toNat = q.2.1 → 16 ≤ s.bus.outbox.length →
      ∃ t, exec q.1 s = .next t ∧ t = { s with waited := true, counters := t.counters }
        ∧ s.Gained t (if s.waited then [] else [.requestWaited])

/-- A request whose body length does not fit is answered BAD_LENGTH, and one that Unset does not admit NOT_SET; the
answer carries no data, and nothing changes but the handler's own counters (sections 11.2, 11.3). -/
def Obligations.MisfitRequestsAreRefused : Prop :=
  ∀ q ∈ requestCommands, ∀ (s : State) (m : InMsg),
    s.bus.inbox.head? = some m → m.kind.toNat = q.2.1 → s.bus.outbox.length < 16 →
      (q.2.2.1 m.body.length = false →
        ∃ t, exec q.1 s = .next t
          ∧ t = { s with bus := s.bus.answered m .badLength [], waited := false, counters := t.counters }
          ∧ s.Gained t [.badLength, .requestsTaken])
      ∧ (q.2.2.1 m.body.length = true → q.2.2.2 = false → s.setup = none →
        ∃ t, exec q.1 s = .next t
          ∧ t = { s with bus := s.bus.answered m .notSet [], waited := false, counters := t.counters }
          ∧ s.Gained t [.notSet, .requestsTaken])

/-- UNKNOWN_KIND: a head message of a kind the formats do not give, any but 1..5, 8..10, 16, 20..41 and 48..55, is
answered BAD_KIND with that kind, and counted. FOREIGN_MESSAGE: an answer or a notice at the head is removed, discarded
and counted, whatever the outbox holds (sections 11.1, 11.2, 12.4). -/
def Obligations.OtherHeadsAreAnsweredOrDiscarded : Prop :=
  ∀ (s : State) (m : InMsg), s.bus.inbox.head? = some m →
    let k := m.kind.toNat
    let given := (1 ≤ k ∧ k ≤ 5) ∨ (8 ≤ k ∧ k ≤ 10) ∨ k = 16 ∨ (20 ≤ k ∧ k ≤ 41) ∨ (48 ≤ k ∧ k ≤ 55)
    (¬ given → s.bus.outbox.length < 16 →
      ∃ t, exec .unknownKind s = .next t
        ∧ t = { s with bus := s.bus.answered m .badKind [], waited := false, counters := t.counters }
        ∧ s.Gained t [.badKind, .requestsTaken])
    ∧ ((1 ≤ k ∧ k ≤ 5) ∨ k = 16 ∨ (48 ≤ k ∧ k ≤ 55) →
      ∃ t, exec .foreignMessage s = .next t
        ∧ t = { s with bus := { s.bus with inbox := s.bus.inbox.tail }, waited := false, counters := t.counters }
        ∧ s.Gained t [.foreignMessage])

/-! ### Reads -/

/-- The manual's number of an item that its table of codes lists from 0 upwards (12.1). -/
def codeIn {α : Type} [DecidableEq α] (codes : List α) (x : α) : Nat := codes.idxOf x

/-- Bytes are laid out as a table of (first byte, width, value) says: each field holds its value, most significant byte
first (12.1). -/
def LaidOut (bytes : List Byte) (table : List (Nat × Nat × Nat)) : Prop :=
  ∀ f ∈ table, field bytes f.1 f.2.1 = f.2.2 % 256 ^ f.2.1

/-- The eight entry states in the order of their codes (12.1). -/
def stateCodes : List EState := [.vacant, .ranging, .testing, .held, .active, .dozing, .muted, .retired]

/-- The number of a bank's state: Empty 0, Ready 1, Live 2, Rating 3, Done 4 (12.1). -/
def bankStateCode (s : State) (id : BankId) : Nat :=
  if s.banks.live = none then 0
  else if s.banks.liveId = id then 2
  else
    match s.banks.other with
    | .empty => 0
    | .ready _ => 1
    | .rating .. => 3
    | .done _ => 4

/-- The table of the QueryStatus data (12.5): first byte, width, value. The Setup and ring fields are absent, and sent as
0, while the part is Unset. -/
def statusTable (s : State) : List (Nat × Nat × Nat) :=
  let flag (b : Bool) (n : Nat) : Nat := if b then 2 ^ n else 0
  let value (f : Params → Nat) : Nat :=
    match s.setup with
    | some p => f p
    | none => 0
  let position (f : Ring → Nat) : Nat :=
    match s.ring with
    | some r => f r
    | none => 0
  let band : Nat :=
    match s.currentBand with
    | some b => b.val
    | none => 0
  let count (st : EState) : Nat := (List.finRange 64).countP fun i => (s.entry i).state == st
  [(0, 1, flag s.setup.isSome 7 + flag (decide (s.straps.reach = .long)) 6 + flag s.rogue.alarm 5 + flag s.light.loss 4
      + flag s.framer.silence 3 + flag s.banks.held 2 + value (fun p => flag p.autoIsolate 1)
      + flag (s.banks.live.isSome && decide (s.banks.liveId = .bankB)) 0),
   (1, 1, s.straps.station.toNat * 8 + position (·.seg)),
   (2, 1, bankStateCode s .bankA * 32 + bankStateCode s .bankB * 4 + band),
   (3, 5, s.clock.round.toNat),
   (8, 1, value fun p => p.upkeep - 1),
   (9, 2, value fun p => p.dirtyLen * 2048 + p.period),
   (11, 4, value (·.epoch)),
   (15, 1, value (·.stray)),
   (16, 1, value (·.errMax)),
   (17, 2, value fun p => p.report.toNat * 2048 + p.misLim * 64 + (p.cleanLen - 1)),
   (19, 7, count .vacant * 128 ^ 7 + count .ranging * 128 ^ 6 + count .testing * 128 ^ 5 + count .held * 128 ^ 4
      + count .active * 128 ^ 3 + count .dozing * 128 ^ 2 + count .muted * 128 + count .retired),
   (26, 2,
      match s.rogue.iso with
      | .idle => 0
      | .probing p => 1 * 16384 + codeIn [IsoStep.whole, .halving, .confirm] p.step * 4096 + p.cands.length
      | .backoff n => 2 * 16384 + n),
   (28, 4, s.banks.timer),
   (32, 4, s.bus.inbox.length * 2 ^ 28 + position (·.elapsed)),
   (36, 2, s.bus.outbox.length * 2048 + s.framer.queue.length * 32 + s.bars.length)]

/-- The table of the ReadHome data (12.5): first byte, width, value. An absent field is sent as 0, and the presence word
shows the absence; probe muted is present for a Held, Active or Dozing entry while isolation is in progress. A yes/no
field is sent as 1 or 0 (log 33). -/
def homeTable (s : State) (i : HomeIdx) : List (Nat × Nat × Nat) :=
  let e := s.entry i
  let probed := s.probing && (decide (e.state = .held) || decide (e.state = .active) || decide (e.state = .dozing))
  let flag (b : Bool) (n : Nat) : Nat := if b then 2 ^ n else 0
  [(0, 1, i.val),
   (1, 1, codeIn stateCodes e.state),
   (2, 2, flag e.tag.isSome 9 + flag e.delay.isSome 8 + flag e.level.isSome 7 + flag e.backlog.isSome 6
      + flag e.claim.isSome 5 + flag e.wish.isSome 4 + flag e.dozeLeft.isSome 3 + flag probed 2 + flag e.mute.isSome 1
      + flag e.retire.isSome 0),
   (4, 8, match e.tag with | some t => t.toNat | none => 0),
   (12, 2, e.delay.getD 0),
   (14, 1, e.level.getD 0),
   (15, 2, e.share),
   (17, 1, e.weight),
   (18, 1, (BitVec.ofInt 8 e.balance).toNat),
   (19, 2, e.backlog.getD 0),
   (21, 1, e.miss),
   (22, 1, e.score),
   (23, 1, match e.claim with | some c => codeIn [ClaimStatus.pending, .confirmed] c | none => 0),
   (24, 1, if e.wish = some true then 1 else 0),
   (25, 2, e.dozeLeft.getD 0),
   (27, 1, if probed && e.probe then 1 else 0),
   (28, 1, match e.mute with | some r => codeIn [MuteReason.convicted, .misbehaving] r | none => 0),
   (29, 1, match e.retire with | some r => codeIn [RetireReason.lost, .removed, .dropped, .restart] r | none => 0),
   (30, 1, if (s.liveRecord i).isSome then 1 else 0)]

/-- The fields e, m and o of a TestResult with its result code (12.5): first byte, width, value. -/
def testTable (o : Nat) : TestOutcome → List (Nat × Nat × Nat)
  | .pass e m f => [(o, 1, 0), (o + 1, 2, e), (o + 3, 1, m), (o + 4, 1, (BitVec.ofInt 8 f).toNat)]
  | .fail e m f => [(o, 1, 1), (o + 1, 2, e), (o + 3, 1, m), (o + 4, 1, (BitVec.ofInt 8 f).toNat)]
  | .misaligned m f => [(o, 1, 2), (o + 1, 2, 0), (o + 3, 1, m), (o + 4, 1, (BitVec.ofInt 8 f).toNat)]
  | .garbled => [(o, 1, 3), (o + 1, 4, 0)]
  | .dark => [(o, 1, 4), (o + 1, 4, 0)]
  | .cancelled => [(o, 1, 5), (o + 1, 4, 0)]

/-- The notices (11.4, 12.4, 12.5): kind, body length, and the table of the body: first byte, width, value. A declaration
length of 2^32 boundaries or more is a free value (log 9); a yes/no field is 1 or 0 (log 33). -/
def noticeTable : Notice → Nat × Nat × List (Nat × Nat × Nat)
  | .rogueAlarm declared round stray started n => (1, 13,
      [(0, 1, if declared then 1 else 0), (1, 5, round.toNat), (6, 2, if declared then stray else 0),
       (8, 1, if declared && started then 1 else 0), (9, 4, if declared then 0 else lasted n)])
  | .rogueConvicted i tag prior round steps => (2, 16,
      [(0, 1, i.val), (1, 8, tag.toNat), (9, 1, codeIn stateCodes prior), (10, 5, round.toNat), (15, 1, steps)])
  | .rogueUnresolved why round steps left => (3, 15,
      [(0, 1, codeIn [UnresolvedReason.whole, .confirm, .empty, .line] why), (1, 5, round.toNat), (6, 1, steps),
       (7, 8, ((List.finRange 64).map fun i => if i ∈ left then 2 ^ (63 - i.val) else 0).sum)])
  | .feederLoss declared round n => (4, 10,
      [(0, 1, if declared then 1 else 0), (1, 5, round.toNat), (6, 4, if declared then 0 else lasted n)])
  | .transmitSilent declared round n => (5, 10,
      [(0, 1, if declared then 1 else 0), (1, 5, round.toNat), (6, 4, if declared then 0 else lasted n)])
  | .offer i tag fine level errors => (48, 14,
      [(0, 1, i.val), (1, 8, tag.toNat), (9, 2, fine), (11, 1, level), (12, 2, errors)])
  | .enrollFailed i tag why => (49, 10,
      [(0, 1, i.val), (1, 8, tag.toNat),
       (9, 1, codeIn [EnrolReason.outOfReach, .noRange, .poorLink, .lost, .noApproval, .abandoned, .claimed, .barred] why)])
  | .duplicateTag tag i state peer peerIndex => (50, 12,
      [(0, 8, tag.toNat), (8, 1, i.val), (9, 1, codeIn stateCodes state), (10, 1, peer.toNat), (11, 1, peerIndex)])
  | .testResult i tag result => (51, 14, [(0, 1, i.val), (1, 8, tag.toNat)] ++ testTable 9 result)
  | .homeLost i tag round => (52, 14, [(0, 1, i.val), (1, 8, tag.toNat), (9, 5, round.toNat)])
  | .homeMisbehaving i tag score => (53, 10, [(0, 1, i.val), (1, 8, tag.toNat), (9, 1, score)])
  | .epochClosed id start stop records saturated clamped => (54, 14,
      [(0, 1, codeIn [BankId.bankA, .bankB] id), (1, 5, start.toNat), (6, 5, stop.toNat), (11, 1, records),
       (12, 1, saturated), (13, 1, clamped)])
  | .epochHeld id other round => (55, 7,
      [(0, 1, codeIn [BankId.bankA, .bankB] id), (1, 1, other), (2, 5, round.toNat)])
where
  lasted (n : Nat) : Nat := if n < 2 ^ 32 then n else (Config.overlongDeclaration n).toNat

/-- QUERY_STATUS and READ_HOME are answered OK with their data, and an index above 63 BAD_INDEX; the part does not
change. The 38 bytes of a status and the 31 of a home hold every field of their tables in its place. So does the body of
every notice, which has its class, its kind and its length and goes to the station it is raised for; an answer carries
the request's kind and its outcome code; Counter-claim and Bar carry their fields (sections 1.7, 11.1, 11.2, 11.4, 11.6,
12.1, 12.4, 12.5; the code of a yes/no field is log 33, the status of an Unset part log 26, an overlong declaration log
9). -/
def Obligations.StatusAndHomeReadsGiveLayouts : Prop :=
  ∀ (s : State) (m : InMsg),
    (s.Asks m 21 0 → ∃ t, exec .queryStatus s = .next t
      ∧ s.Answers t m .ok { s with bus := { s.bus with inbox := s.bus.inbox.tail } }.statusBytes)
    ∧ (s.Asks m 24 1 → s.setup.isSome →
      (∀ i : HomeIdx, byteAt m.body 0 = i.val →
        ∃ t, exec .readHome s = .next t ∧ s.Answers t m .ok (s.homeBytes i))
      ∧ (63 < byteAt m.body 0 → ∃ t, exec .readHome s = .next t ∧ s.Answers t m .badIndex []))
    ∧ s.statusBytes.length = 38 ∧ LaidOut s.statusBytes (statusTable s)
    ∧ (∀ i : HomeIdx, (s.homeBytes i).length = 31 ∧ LaidOut (s.homeBytes i) (homeTable s i))
    ∧ (∀ (n : Notice) (report : Station),
        let o := n.message report
        o.kind.toNat = (noticeTable n).1 ∧ o.body.length = (noticeTable n).2.1 ∧ LaidOut o.body (noticeTable n).2.2
        ∧ o.cls = (if (noticeTable n).1 ≤ 5 then 0 else 3) ∧ o.target = report ∧ o.begun = false)
    ∧ (∀ (asker : Station) (kind : BitVec 6) (code : OutcomeCode) (data : List Byte),
        answerMessage asker kind code data =
          { cls := 2, kind := 16, target := asker, begun := false
            body := bytesOf 1 kind.toNat
              ++ bytesOf 1 (codeIn [OutcomeCode.ok, .clamped, .badKind, .badLength, .badIndex, .badState, .tagMismatch,
                  .shareLimit, .bankBusy, .notDone, .absent, .notSet, .setupDone] code)
              ++ data })
    ∧ ∀ (tag : Tag) (own peer : Station),
        counterClaimMessage tag own peer =
          { cls := 1, kind := 9, target := peer, begun := false, body := bytesOf 8 tag.toNat ++ bytesOf 1 own.toNat }
        ∧ barMessage tag own =
          { cls := 1, kind := 10, target := 31, begun := false
            body := bytesOf 8 tag.toNat ++ bytesOf 1 1 ++ bytesOf 1 own.toNat }

/-- The ten groups of counters, each in the order of its block's table (section 11.7). -/
def counterTable : List (List Counter) :=
  [[.enrolDeferred, .barredAttempts, .localDuplicate, .discoveryRefused, .discoveryCollision, .outOfReach, .reRangeFailed],
   [.claimUnsent, .localYield, .cloneDrop, .counterClaimsSent, .counterClaimsIgnored, .barReceived, .barEvicted,
    .peerMalformed],
   [.directiveWait, .driftDropped, .leaveDropped, .dozeDeferred, .transmitSilence],
   [.dozeGranted, .homeLost, .blankRound, .feederLoss],
   [.garbledBurst, .staleBurst, .driftCorrection, .reRangeRequest, .overlap, .weakBurst, .earlyLight, .overrunLight],
   [.rogueAlarm, .isolationRun, .rogueConvicted, .rogueUnresolved, .misbehaviourMute],
   [.trafficMalformed, .undeliverableFrame, .upstreamMalformed, .counterSaturated, .ringRefit],
   [.epochHeld, .accumulatorClamped, .chargeClamped],
   [.messagesTaken, .messagesSent, .untaken, .arbitrationLost, .bitError, .crcError, .inboxFull, .frameError,
    .stationClash],
   [.requestsTaken, .requestWaited, .badKind, .badLength, .notSet, .foreignMessage, .noticesQueued, .noticeDropped]]

/-- READ_COUNTERS answers with the group, the number of its counters and their values in the order of the group's table,
4 bytes each; with the clear flag every counter of the group, and no other, is set to 0 in the same step, and the
request itself is counted after. A group above 9 is BAD_INDEX (sections 11.7, 12.5). -/
def Obligations.ReadCountersReadsAndClears : Prop :=
  ∀ (s : State) (m : InMsg), s.Asks m 22 2 →
    (9 < byteAt m.body 0 → ∃ t, exec .readCounters s = .next t ∧ s.Answers t m .badIndex [])
    ∧ (∀ group, counterTable[byteAt m.body 0]? = some group →
      ∃ t, exec .readCounters s = .next t
        ∧ t = { s with
            bus := s.bus.answered m .ok
              (bytesOf 1 (byteAt m.body 0) ++ bytesOf 1 group.length ++ group.flatMap fun c => bytesOf 4 (s.counter c))
            waited := false, counters := t.counters }
        ∧ ∀ c : Counter,
            let v := if byteAt m.body 1 ≠ 0 ∧ c ∈ group then 0 else s.counter c
            t.counter c = if c = .requestsTaken then min (v + 1) counterMax else v)

/-- READ_BAR_LIST: a page above 3 is BAD_INDEX; otherwise the answer carries the number of entries, the page and its
four positions, and nothing changes. A position is eight bytes of tag and one of reason (Rogue 1, Clone 2, Operator 3;
bits 7..6) and origin (bits 4..0); one beyond the entries is nine bytes of 0 (section 12.5). -/
def Obligations.ReadBarListGivesPage : Prop :=
  ∀ (s : State) (m : InMsg), s.Asks m 31 1 →
    let position (k : Nat) : List Byte :=
      match s.bars[4 * byteAt m.body 0 + k]? with
      | some e =>
        bytesOf 8 e.tag.toNat
          ++ bytesOf 1 ((match e.reason with | .rogue => 1 | .clone => 2 | .operator => 3) * 64 + e.origin.toNat)
      | none => [0, 0, 0, 0, 0, 0, 0, 0, 0]
    (3 < byteAt m.body 0 → ∃ t, exec .readBarList s = .next t ∧ s.Answers t m .badIndex [])
    ∧ (byteAt m.body 0 ≤ 3 → ∃ t, exec .readBarList s = .next t
      ∧ s.Answers t m .ok
        (bytesOf 1 s.bars.length ++ bytesOf 1 (byteAt m.body 0) ++ position 0 ++ position 1 ++ position 2 ++ position 3))

/-- READ_USAGE_SUMMARY and READ_USAGE_VOLUMES: the answers in the order of their checks, from the Done bank alone;
nothing changes. The summary's flags are Partial in bit 7, Saturated 6, Clamped 5, Lost 4, Removed 3, Dropped 2, Restart
1 and Convicted in bit 0 (sections 9.6, 12.1, 12.5). That any nonzero direction is sent back as 1 is the model's choice
(DESIGN CHOICE, log 33). -/
def Obligations.UsageReadsComeFromDoneBank : Prop :=
  ∀ (s : State) (m : InMsg) (c : Instr) (data : UsageRecord → List Byte), s.setup.isSome →
    let bit (b : Bool) (place : Nat) : Nat := if b then 2 ^ place else 0
    let flags (f : RecFlags) : Nat :=
      bit f.partialEpoch 7 + bit f.saturated 6 + bit f.clamped 5 + bit f.lost 4 + bit f.removed 3 + bit f.dropped 2
        + bit f.restart 1 + bit f.convicted 0
    (s.Asks m 39 1 ∧ c = .readUsageSummary
        ∧ data = (fun r => bytesOf 1 (flags r.flags) ++ bytesOf 5 r.start.toNat
            ++ bytesOf 5 ((r.stop.map BitVec.toNat).getD 0) ++ bytesOf 5 (r.charge.getD 0))
      ∨ s.Asks m 40 2 ∧ c = .readUsageVolumes
        ∧ data = (fun r => bytesOf 1 (if byteAt m.body 1 = 0 then 0 else 1)
            ++ ((if byteAt m.body 1 = 0 then r.up else r.down).toList.flatMap (bytesOf 5)))) →
    ∃ t, exec c s = .next t
      ∧ (63 < byteAt m.body 0 → s.Answers t m .badIndex [])
      ∧ ∀ i : HomeIdx, byteAt m.body 0 = i.val →
        (∀ b position done, s.banks.other = .rating b position done → s.Answers t m .bankBusy [])
        ∧ (s.banks.other = .empty ∨ (∃ p, s.banks.other = .ready p) → s.Answers t m .notDone [])
        ∧ (∀ b, s.banks.other = .done b → b.records[i.val] = none → s.Answers t m .absent [])
        ∧ (∀ b r, s.banks.other = .done b → b.records[i.val] = some r →
            s.Answers t m .ok
              (bytesOf 1 s.banks.liveId.flip.code ++ bytesOf 1 i.val ++ bytesOf 8 r.tag.toNat ++ data r))

/-! ### Requests on one home -/

/-- REMOVE_HOME: BAD_INDEX, BAD_STATE or TAG_MISMATCH change nothing; otherwise the entry departs with the reason
Removed and the Leave its state calls for, the answer is OK, and no bar is made. After the answer go out a TestResult
Cancelled of a retest that was pending and, where the home was the last candidate of an isolation, its Unresolved
outcome, and nothing else: no EnrollFailed (sections 1.7, 2.6, 2.7, 7.6, 7.7; the order of the two is log 14, DESIGN
CHOICE; the round and steps of the outcome are log 11, DEDUCED). -/
def Obligations.RemoveHomeTakesHomeOff : Prop :=
  ∀ (s : State) (m : InMsg), s.Asks m 25 9 → s.setup.isSome →
    (63 < byteAt m.body 0 → ∃ t, exec .removeHome s = .next t ∧ s.Answers t m .badIndex [])
    ∧ ∀ i : HomeIdx, byteAt m.body 0 = i.val →
      let e := s.entry i
      ((e.state = .vacant ∨ e.state = .retired) →
        ∃ t, exec .removeHome s = .next t ∧ s.Answers t m .badState [])
      ∧ (e.state ≠ .vacant → e.state ≠ .retired → e.tag ≠ some (tagAt m.body 1) →
        ∃ t, exec .removeHome s = .next t ∧ s.Answers t m .tagMismatch [])
      ∧ (e.state ≠ .vacant → e.state ≠ .retired → e.tag = some (tagAt m.body 1) →
        ∃ t, exec .removeHome s = .next t
          ∧ s.Departs t i .removed
              (some (if e.state = .ranging then .leaveTag (tagAt m.body 1) else .leaveIndex i))
          ∧ t.bars = s.bars ∧ t.waited = false
          ∧ t.bus = (s.bus.answered m .ok []).offered (s.partingMessages i s.clock.round)
          ∧ (32 ≤ s.framer.queue.length →
              t.counter .leaveDropped = min (s.counter .leaveDropped + 1) counterMax))

/-- APPROVE: BAD_INDEX, BAD_STATE or TAG_MISMATCH change nothing; otherwise the Held entry enters Active, its progress
record goes, its claim window opens at 200, the Live bank makes a Partial record or continues the one it has, and the
Claim follows the answer into the outbox where there is room (sections 1.4, 2.6, 3.1, 9.3). -/
def Obligations.ApproveBringsHomeIntoService : Prop :=
  ∀ (s : State) (m : InMsg), s.Asks m 26 9 → s.setup.isSome →
    (63 < byteAt m.body 0 → ∃ t, exec .approve s = .next t ∧ s.Answers t m .badIndex [])
    ∧ ∀ i : HomeIdx, byteAt m.body 0 = i.val →
      ((s.entry i).state ≠ .held → ∃ t, exec .approve s = .next t ∧ s.Answers t m .badState [])
      ∧ ((s.entry i).state = .held → (s.entry i).tag ≠ some (tagAt m.body 1) →
        ∃ t, exec .approve s = .next t ∧ s.Answers t m .tagMismatch [])
      ∧ ((s.entry i).state = .held → (s.entry i).tag = some (tagAt m.body 1) →
        ∃ t, exec .approve s = .next t
          ∧ t.home i = { s.home i with
              entry := { s.entry i with
                state := .active, claim := some .pending, share := 0, weight := 1, balance := 0,
                backlog := some 0, wish := some false }
              progress := none, window := some 200 }
          ∧ (∀ j, j ≠ i → t.home j = s.home j ∧ t.liveRecord j = s.liveRecord j)
          ∧ (∀ r, s.liveRecord i = some r → t.liveRecord i = some r)
          ∧ (s.banks.live.isSome → s.liveRecord i = none →
              t.liveRecord i = some
                (UsageRecord.fresh (tagAt m.body 1) s.clock.round { RecFlags.clear with partialEpoch := true }))
          ∧ t.bus = (s.bus.answered m .ok []).offered
              [{ cls := 1, kind := 8, target := 31, begun := false,
                 body := bytesOf 8 (tagAt m.body 1).toNat ++ bytesOf 1 s.straps.station.toNat ++ bytesOf 1 i.val }]
          ∧ s.Gained t
              (if s.bus.outbox.length < 15 then [.requestsTaken] else [.claimUnsent, .requestsTaken])
          ∧ t = { s with homes := t.homes, banks := { s.banks with live := t.banks.live }, bus := t.bus,
                         counters := t.counters, waited := false })

/-- DENY: BAD_INDEX, BAD_STATE or TAG_MISMATCH change nothing; otherwise the Held entry departs, as Removed where a
record keeps it, with a Leave to its index and no bar. After the answer goes out, where the home was the last candidate
of an isolation, its Unresolved outcome, and no EnrollFailed (sections 2.6, 2.7, 7.6, 7.7; a retest that is pending, as
no Held home's is in a run, would be cancelled first: log 14, DESIGN CHOICE; the round and steps of the outcome are log
11, DEDUCED). -/
def Obligations.DenyEndsEnrolment : Prop :=
  ∀ (s : State) (m : InMsg), s.Asks m 27 9 → s.setup.isSome →
    (63 < byteAt m.body 0 → ∃ t, exec .deny s = .next t ∧ s.Answers t m .badIndex [])
    ∧ ∀ i : HomeIdx, byteAt m.body 0 = i.val →
      ((s.entry i).state ≠ .held → ∃ t, exec .deny s = .next t ∧ s.Answers t m .badState [])
      ∧ ((s.entry i).state = .held → (s.entry i).tag ≠ some (tagAt m.body 1) →
        ∃ t, exec .deny s = .next t ∧ s.Answers t m .tagMismatch [])
      ∧ ((s.entry i).state = .held → (s.entry i).tag = some (tagAt m.body 1) →
        ∃ t, exec .deny s = .next t ∧ s.Departs t i .removed (some (.leaveIndex i)) ∧ t.bars = s.bars
          ∧ t.waited = false ∧ t.bus = (s.bus.answered m .ok []).offered (s.partingMessages i s.clock.round))

/-- RETEST: BAD_INDEX and BAD_STATE (not Active, or one still pending) change nothing; otherwise the answer is OK and
the retest is pending, and nothing else changes (section 2.6). -/
def Obligations.RetestBecomesPending : Prop :=
  ∀ (s : State) (m : InMsg), s.Asks m 28 1 → s.setup.isSome →
    (63 < byteAt m.body 0 → ∃ t, exec .retest s = .next t ∧ s.Answers t m .badIndex [])
    ∧ ∀ i : HomeIdx, byteAt m.body 0 = i.val →
      ((s.entry i).state ≠ .active ∨ (s.home i).retest ≠ .idle →
        ∃ t, exec .retest s = .next t ∧ s.Answers t m .badState [])
      ∧ ((s.entry i).state = .active → (s.home i).retest = .idle →
        ∃ t, exec .retest s = .next t
          ∧ t.home i = { s.home i with retest := .asked } ∧ (∀ j, j ≠ i → t.home j = s.home j)
          ∧ s.Gained t [.requestsTaken]
          ∧ t = { s with homes := t.homes, bus := s.bus.answered m .ok [], counters := t.counters, waited := false })

/-- SET_SHARE: the checks in order; g above 1,000 becomes 1,000 and w is brought into 1..16; the share limit is checked
with that g; the entry takes both, the answer carries them, and nothing else changes (section 4.4). -/
def Obligations.SetShareTakesValuesWithinLimit : Prop :=
  ∀ (s : State) (m : InMsg), s.Asks m 32 4 → s.setup.isSome →
    let g := min (field m.body 1 2) 1000
    let w := max 1 (min (byteAt m.body 3) 16)
    (63 < byteAt m.body 0 → ∃ t, exec .setShare s = .next t ∧ s.Answers t m .badIndex [])
    ∧ ∀ i : HomeIdx, byteAt m.body 0 = i.val →
      ((s.entry i).state.inService = false → ∃ t, exec .setShare s = .next t ∧ s.Answers t m .badState [])
      ∧ ((s.entry i).state.inService = true → 2400 + (s.entry i).share < s.shareSum + g →
        ∃ t, exec .setShare s = .next t ∧ s.Answers t m .shareLimit [])
      ∧ ((s.entry i).state.inService = true → s.shareSum + g ≤ 2400 + (s.entry i).share →
        ∃ t, exec .setShare s = .next t
          ∧ t.home i = { s.home i with entry := { s.entry i with share := g, weight := w } }
          ∧ (∀ j, j ≠ i → t.home j = s.home j)
          ∧ s.Gained t [.requestsTaken]
          ∧ t = { s with
              homes := t.homes
              bus := s.bus.answered m (if g = field m.body 1 2 ∧ w = byteAt m.body 3 then .ok else .clamped)
                (bytesOf 2 g ++ bytesOf 1 w)
              counters := t.counters, waited := false })

/-- The home of a woken entry: Active with b = +1 and no doze, and its Wake kept where the queue is full. -/
def wokenHome (s : State) (i : HomeIdx) : Home :=
  { s.home i with
    entry := { s.entry i with state := .active, balance := 1, wish := some false, dozeLeft := none }
    keptWake := (s.home i).keptWake || decide (32 ≤ s.framer.queue.length) }

/-- WAKE_HOME and DOZE_EXPIRY: a Dozing entry is woken, by the request, or by its count at 0; the Wake joins the queue
or is kept and counted. WAKE_HOME on any other entry is BAD_STATE, above 63 BAD_INDEX; DOZE_EXPIRY that is not due
changes nothing (section 5.2; log 4). -/
def Obligations.DozeEndsByRequestOrExpiry : Prop :=
  ∀ (s : State) (i : HomeIdx),
    (∀ m, s.Asks m 33 1 → s.setup.isSome →
      (63 < byteAt m.body 0 → ∃ t, exec .wakeHome s = .next t ∧ s.Answers t m .badIndex [])
      ∧ (byteAt m.body 0 = i.val → (s.entry i).state ≠ .dozing →
        ∃ t, exec .wakeHome s = .next t ∧ s.Answers t m .badState [])
      ∧ (byteAt m.body 0 = i.val → (s.entry i).state = .dozing →
        ∃ t, exec .wakeHome s = .next t ∧ t.home i = wokenHome s i ∧ (∀ j, j ≠ i → t.home j = s.home j)
          ∧ s.Gained t (if s.framer.queue.length < 32 then [.requestsTaken] else [.directiveWait, .requestsTaken])
          ∧ t = { s with
              homes := t.homes, framer := { s.framer with queue := joined s.framer.queue (.wake i) }
              bus := s.bus.answered m .ok [], counters := t.counters, waited := false }))
    ∧ ((s.entry i).state = .dozing → (s.entry i).dozeLeft = some 0 →
      ∃ t, exec (.dozeExpiry i) s = .next t ∧ t.home i = wokenHome s i ∧ (∀ j, j ≠ i → t.home j = s.home j)
        ∧ s.Gained t (if s.framer.queue.length < 32 then [] else [.directiveWait])
        ∧ t = { s with
            homes := t.homes, framer := { s.framer with queue := joined s.framer.queue (.wake i) }
            counters := t.counters })
    ∧ ((s.entry i).state ≠ .dozing ∨ (s.entry i).dozeLeft ≠ some 0 → exec (.dozeExpiry i) s = .next s)

/-- RELEASE_MUTE: BAD_INDEX and BAD_STATE change nothing; otherwise the Muted entry becomes Active with the values of
section 1.4 and keeps the rest, and neither the bar list nor the record is touched (section 7.8). -/
def Obligations.ReleaseMuteReturnsHome : Prop :=
  ∀ (s : State) (m : InMsg), s.Asks m 35 1 → s.setup.isSome →
    (63 < byteAt m.body 0 → ∃ t, exec .releaseMute s = .next t ∧ s.Answers t m .badIndex [])
    ∧ ∀ i : HomeIdx, byteAt m.body 0 = i.val →
      ((s.entry i).state ≠ .muted → ∃ t, exec .releaseMute s = .next t ∧ s.Answers t m .badState [])
      ∧ ((s.entry i).state = .muted →
        ∃ t, exec .releaseMute s = .next t
          ∧ t.home i = { s.home i with
              entry := { s.entry i with
                state := .active, balance := 0, miss := 0, score := 0, backlog := some 0, wish := some false,
                mute := none } }
          ∧ (∀ j, j ≠ i → t.home j = s.home j)
          ∧ s.Gained t [.requestsTaken]
          ∧ t = { s with homes := t.homes, bus := s.bus.answered m .ok [], counters := t.counters, waited := false })

/-! ### The claim unit -/

/-- An addition to the bar list, for any list: a tag on it moves to newest with the new reason and origin, a new tag is
placed newest, and a full list loses its oldest entry, which is counted; nothing else of the part changes. A list of at
most 16 without a double stays so. -/
def Obligations.BarListAdditionPlacesNewest : Prop :=
  ∀ (s : State) (t : Tag) (r : BarReason) (origin : Station),
    (s.addBar t r origin).bars = barsAfter s.bars { tag := t, reason := r, origin }
      ∧ s.addBar t r origin = { s with
          bars := (s.addBar t r origin).bars, counters := (s.addBar t r origin).counters }
      ∧ s.Gained (s.addBar t r origin)
          (if s.bars.any (fun e => e.tag == t) then [] else if s.bars.length < 16 then [] else [.barEvicted])
      ∧ (s.barred t → (s.addBar t r origin).bars.length ≤ s.bars.length)
      ∧ (s.bars.length ≤ 16 → (s.addBar t r origin).bars.length ≤ 16)
      ∧ (s.BarsDistinct → (s.addBar t r origin).BarsDistinct)
      ∧ (s.addBar t r origin).bars.getLast? = some { tag := t, reason := r, origin }

/-- ADD_BAR: the tag is added with reason Operator and the own station. The entry that holds it (section 1.3), where it
is Ranging, Testing or Held, departs with its Leave, and the answer carries its index; any other entry stays, and the
answer carries no index. The answer carries the evicted tag where the addition evicts one. After it goes out, where the
home was the last candidate of an isolation, its Unresolved outcome, and no EnrollFailed notice (sections 1.3, 2.6, 3.5,
3.6, 7.6, 7.7, 12.5; a record that keeps the entry is flagged Lost; a retest that is pending would be cancelled first:
log 14, DESIGN CHOICE; the round and steps of the outcome are log 11, DEDUCED). -/
def Obligations.AddBarBarsTagAndEndsEnrolment : Prop :=
  ∀ (s : State) (m : InMsg), s.Asks m 29 8 →
    let tag := tagAt m.body 0
    let on := s.bars.any fun e => e.tag == tag
    let evicted := if on = true ∨ s.bars.length < 16 then none else s.bars.head?.map fun e => e.tag
    let data (index : Option HomeIdx) : List Byte :=
      bytesOf 1 ((if index.isSome then 2 else 0) + if evicted.isSome then 1 else 0)
        ++ bytesOf 1 (match index with | some i => i.val | none => 0)
        ++ bytesOf 8 (match evicted with | some t => t.toNat | none => 0)
    ∃ t, exec .addBar s = .next t
      ∧ t.bars = barsAfter s.bars { tag, reason := .operator, origin := s.straps.station }
      ∧ (∀ i, s.Finds tag i → (s.entry i).state.enrolling →
          s.Departs t i .lost (some (if (s.entry i).state = .ranging then .leaveTag tag else .leaveIndex i))
          ∧ t.bus = (s.bus.answered m .ok (data (some i))).offered (s.partingMessages i s.clock.round))
      ∧ (s.NotHeld tag ∨ (∃ i, s.Finds tag i ∧ (s.entry i).state.enrolling = false) →
          t = { s with bars := t.bars, counters := t.counters, waited := false
                       bus := s.bus.answered m .ok (data none) }
          ∧ s.Gained t (if on = true ∨ s.bars.length < 16 then [.requestsTaken] else [.barEvicted, .requestsTaken]))

/-- CLEAR_BAR: one tag is removed wherever it stands and the rest keep their order, or it is ABSENT and nothing changes;
the form for all empties the list; no home entry and no peer is touched. -/
def Obligations.ClearBarRemovesTag : Prop :=
  ∀ (s : State) (m : InMsg), s.Asks m 30 9 →
    let tag := tagAt m.body 1
    (byteAt m.body 0 ≠ 0 →
      ∃ t, exec .clearBar s = .next t ∧ s.Gained t [.requestsTaken]
        ∧ t = { s with bars := [], bus := s.bus.answered m .ok [], counters := t.counters, waited := false })
    ∧ (byteAt m.body 0 = 0 → s.barred tag →
      ∃ t, exec .clearBar s = .next t ∧ s.Gained t [.requestsTaken]
        ∧ t = { s with bars := s.bars.filter (fun e => e.tag != tag), bus := s.bus.answered m .ok [],
                       counters := t.counters, waited := false }
        ∧ t.barred tag = false)
    ∧ (byteAt m.body 0 = 0 → s.barred tag = false →
      ∃ t, exec .clearBar s = .next t ∧ s.Answers t m .absent [])

/-- BAR: a Bar of ten bytes with a reason 1 to 3 and the sender's number in it adds its tag with that reason and the
sender as origin and is counted, and the entry that holds the tag (section 1.3), where it is Ranging, Testing or Held,
departs with its Leave and an EnrollFailed notice; any other Bar is malformed, is counted and changes nothing. A Bar is
removed and never answered (sections 1.3, 2.6, 2.7, 3.2, 3.5, 7.6, 7.7, 12.4). The EnrollFailed comes after the messages
of the move, a cancelled retest's and those of an isolation that loses its last candidate (the order: log 14, DESIGN
CHOICE; the round and steps of that outcome: log 11, DEDUCED). -/
def Obligations.PeerBarIsApplied : Prop :=
  ∀ (s : State) (m : InMsg), s.bus.inbox.head? = some m → m.kind.toNat = 10 →
    let port : Bus := { s.bus with inbox := s.bus.inbox.tail }
    let formed := m.body.length = 10 ∧ byteAt m.body 9 = m.sender.toNat
    let tag := tagAt m.body 0
    let evicts := (s.bars.any fun e => e.tag == tag) = false ∧ 16 ≤ s.bars.length
    (∀ r : BarReason, formed →
      byteAt m.body 8 = (match r with | .rogue => 1 | .clone => 2 | .operator => 3) →
      ∃ t, exec .bar s = .next t
        ∧ t.bars = barsAfter s.bars { tag, reason := r, origin := m.sender }
        ∧ t.counter .barReceived = min (s.counter .barReceived + 1) counterMax
        ∧ (∀ i, s.Finds tag i → (s.entry i).state.enrolling →
            s.Departs t i .lost (some (if (s.entry i).state = .ranging then .leaveTag tag else .leaveIndex i))
            ∧ t.bus = port.offered
                (s.partingMessages i s.clock.round ++ [(Notice.enrollFailed i tag .barred).message s.reportStation]))
        ∧ (s.NotHeld tag ∨ (∃ i, s.Finds tag i ∧ (s.entry i).state.enrolling = false) →
            t = { s with bars := t.bars, counters := t.counters, waited := false, bus := port }
            ∧ s.Gained t (if evicts then [.barEvicted, .barReceived] else [.barReceived])))
    ∧ (¬ (formed ∧ 1 ≤ byteAt m.body 8 ∧ byteAt m.body 8 ≤ 3) →
      ∃ t, exec .bar s = .next t ∧ s.Gained t [.peerMalformed]
        ∧ t = { s with bus := port, counters := t.counters, waited := false })

/-- CLAIM: a body of ten bytes with the sender's number in it is decided by the local holding of its tag (section 1.3).
Not held or Retired: nothing. Enrolling: the entry yields, with its Leave and its notice, and the tag is not barred. In
service, Pending and a lower peer: the entry is dropped and its tag barred as Clone with the peer as origin. In service
otherwise: the entry stays, and a Counter-claim and a notice are offered to the outbox. Any other Claim is malformed, is
counted and changes nothing (sections 1.3, 2.6, 2.7, 3.2, 3.3, 7.6, 7.7). The model's: the Counter-claim before the
notice, and the notice of a departure after the messages of the move, a cancelled retest's and those of an isolation
that loses its last candidate (the order: log 14, DESIGN CHOICE; the round and steps of that outcome: log 11, DEDUCED);
and the notice raised also where the Counter-claim found no room (log 15, DEDUCED). -/
def Obligations.ClaimIsDecidedByLocalHolding : Prop :=
  ∀ (s : State) (m : InMsg), s.bus.inbox.head? = some m → m.kind.toNat = 8 →
    let port : Bus := { s.bus with inbox := s.bus.inbox.tail }
    let formed := m.body.length = 10 ∧ byteAt m.body 8 = m.sender.toNat
    let tag := tagAt m.body 0
    let peerIndex := byteAt m.body 9
    let told (i : HomeIdx) (state : EState) : OutMsg :=
      (Notice.duplicateTag tag i state m.sender peerIndex).message s.reportStation
    (formed → s.NotHeld tag ∨ (∃ i, s.Finds tag i ∧ (s.entry i).state = .retired) →
      exec .claim s = .next { s with bus := port, waited := false })
    ∧ (∀ i, formed → s.Finds tag i →
      ((s.entry i).state.enrolling → ∃ t, exec .claim s = .next t
        ∧ s.Departs t i .dropped
            (some (if (s.entry i).state = .ranging then .leaveTag tag else .leaveIndex i))
        ∧ t.bars = s.bars ∧ t.counter .localYield = min (s.counter .localYield + 1) counterMax
        ∧ t.bus = port.offered
            (s.partingMessages i s.clock.round ++ [(Notice.enrollFailed i tag .claimed).message s.reportStation]))
      ∧ ((s.entry i).state.inService → (s.entry i).claim = some .pending → m.sender < s.straps.station →
        ∃ t, exec .claim s = .next t ∧ s.Departs t i .dropped (some (.leaveIndex i))
          ∧ t.bars = barsAfter s.bars { tag, reason := .clone, origin := m.sender }
          ∧ t.counter .cloneDrop = min (s.counter .cloneDrop + 1) counterMax
          ∧ t.bus = port.offered (s.partingMessages i s.clock.round ++ [told i .retired]))
      ∧ ((s.entry i).state.inService → (s.entry i).claim ≠ some .pending ∨ ¬ m.sender < s.straps.station →
        ∃ t, exec .claim s = .next t
          ∧ t = { s with bus := t.bus, counters := t.counters, waited := false }
          ∧ t.bus = port.offered
              [counterClaimMessage tag s.straps.station m.sender, told i (s.entry i).state]
          ∧ s.Gained t
              (if s.bus.outbox.length < 15 then [.counterClaimsSent, .noticesQueued]
               else if s.bus.outbox.length < 16 then [.counterClaimsSent, .noticeDropped]
               else [.claimUnsent, .noticeDropped])))
    ∧ (¬ formed → ∃ t, exec .claim s = .next t ∧ s.Gained t [.peerMalformed]
        ∧ t = { s with bus := port, counters := t.counters, waited := false })

/-- COUNTER_CLAIM: a body of nine bytes with the sender's number in it: the entry that holds its tag (section 1.3),
where it is in service and its claim is Pending, is dropped and its tag barred as Clone with the sender as origin, and a
DuplicateTag notice is offered; in every other case the message is ignored and counted. Any other Counter-claim is
malformed, is counted and changes nothing (sections 1.3, 2.6, 3.2, 3.4, 7.6, 7.7). The notice comes after the messages
of the move, a cancelled retest's and those of an isolation that loses its last candidate (the order: log 14, DESIGN
CHOICE; the round and steps of that outcome: log 11, DEDUCED). -/
def Obligations.CounterClaimDropsPendingEntry : Prop :=
  ∀ (s : State) (m : InMsg), s.bus.inbox.head? = some m → m.kind.toNat = 9 →
    let port : Bus := { s.bus with inbox := s.bus.inbox.tail }
    let formed := m.body.length = 9 ∧ byteAt m.body 8 = m.sender.toNat
    let tag := tagAt m.body 0
    (∀ i, formed → s.Finds tag i → (s.entry i).state.inService → (s.entry i).claim = some .pending →
      ∃ t, exec .counterClaim s = .next t ∧ s.Departs t i .dropped (some (.leaveIndex i))
        ∧ t.bars = barsAfter s.bars { tag, reason := .clone, origin := m.sender }
        ∧ t.counter .cloneDrop = min (s.counter .cloneDrop + 1) counterMax
        ∧ t.bus = port.offered
            (s.partingMessages i s.clock.round
              ++ [(Notice.duplicateTag tag i .retired m.sender 255).message s.reportStation]))
    ∧ (formed →
        s.NotHeld tag ∨ (∃ i, s.Finds tag i
          ∧ ((s.entry i).state.inService = false ∨ (s.entry i).claim ≠ some .pending)) →
      ∃ t, exec .counterClaim s = .next t ∧ s.Gained t [.counterClaimsIgnored]
        ∧ t = { s with bus := port, counters := t.counters, waited := false })
    ∧ (¬ formed → ∃ t, exec .counterClaim s = .next t ∧ s.Gained t [.peerMalformed]
        ∧ t = { s with bus := port, counters := t.counters, waited := false })

/-! ### The tree restart and isolation -/

/-- The home at an index after a tree restart that takes no swap: a home in service, or enrolling with a Live record, is
Retired (Restart), another enrolling one is Vacant, and every entry's b, miss count, score and probe mute are cleared. -/
def restartedHome (s : State) (i : HomeIdx) : Home :=
  if (s.entry i).state.inService ∨ (s.entry i).state.enrolling ∧ (s.liveRecord i).isSome then
    { Home.vacant with
      entry := { (s.entry i).retired .restart with balance := 0, miss := 0, score := 0, probe := false } }
  else if (s.entry i).state.enrolling then Home.vacant
  else { Home.vacant with entry := { s.entry i with balance := 0, miss := 0, score := 0, probe := false } }

/-- A Live record at a tree restart: Partial and Restart for a home in service, Restart for an enrolling one. -/
def restartedRecord (s : State) (i : HomeIdx) : Option UsageRecord :=
  (s.liveRecord i).map fun r =>
    { r with flags :=
        if (s.entry i).state.inService then { r.flags with partialEpoch := true, restart := true }
        else if (s.entry i).state.enrolling then { r.flags with restart := true }
        else r.flags }

/-- TREE_RESTART: the home table first, then the swap where the other bank is Empty or Ready, which leaves every entry
Vacant, else the hold; planner, directive queue, light monitor, alarm and isolation return to their starts, the preset
is 128, the expectations taken are kept; 8 idle-fill rounds follow, of which the first begins at once where its header
was open, and the discovery timer falls due in the round that builds the first map. The new Live bank's ring starts as
its plan says; a held swap leaves the ring. Frames, the bar list, the drive check, Setup and the counters stay, but for
what the swap, the hold and the request itself count (sections 1.8, 2.9, 4.3, 4.6, 4.7, 6.7, 8.1, 8.4, 8.7, 9.7, 11.8;
the quantum of the restart is a free value, log 20; that no decay is owed after it is the model's, log 32). -/
def Obligations.TreeRestartClearsTreeAndSwaps : Prop :=
  ∀ (s : State) (m : InMsg) (p : Params) (l : LiveBank) (r : Ring),
    s.Asks m 23 0 → s.setup = some p → s.banks.live = some l → s.ring = some r →
    let first := if s.clock.headerOpen then s.clock.round else s.clock.round + 1
    let cut (e : RoundExp) : RoundExp := { e with cutOff := true }
    ∃ t, exec .treeRestart s = .next t
      ∧ t.clock = { round := s.clock.round, idleLeft := if s.clock.headerOpen then 7 else 8, firstMap := true
                    headerOpen := false }
      ∧ t.enrol = { due := first + 8, offered := false } ∧ t.planner = { s.planner with rotation := 0 }
      ∧ (s.clock.headerOpen = false → t.framer = { s.framer with queue := [] })
      ∧ (s.clock.headerOpen = true → t.framer = { s.framer with
          queue := []
          header := some { round := s.clock.round, idleFill := true, dark := [], map := none, directives := [] }
          sending := if s.framer.sending = none then s.framer.waiting else s.framer.sending
          waiting := if s.framer.sending = none then none else s.framer.waiting })
      ∧ t.rx =
          { preset := 128, since := t.rx.since
            next := if s.clock.headerOpen then
                some { round := s.clock.round + 1, map := none, spanGood := false, cutOff := false }
              else s.rx.next.map cut
            arriving := s.rx.arriving.map cut, closing := s.rx.closing.map cut }
      ∧ t.light = { streak := 0, loss := false, lossAge := 0 }
      ∧ t.rogue = { alarm := false, alarmAge := 0, dirty := 0, clean := 0, iso := .idle, owed := [] }
      ∧ t.setup = s.setup ∧ t.bars = s.bars ∧ t.straps = s.straps ∧ t.toSwitch = s.toSwitch ∧ t.waited = false
      ∧ (s.banks.other.free = true →
          (∀ i, (t.entry i).state = .vacant ∧ t.liveRecord i = none)
          ∧ t.banks.timer = p.epoch ∧ t.banks.held = false ∧ t.banks.liveId = s.banks.liveId.flip
          ∧ (∃ c position, t.banks.other = .rating c position false ∧ c.plan = l.plan ∧ c.start = l.start
              ∧ c.stop = s.clock.round
              ∧ ∀ i : HomeIdx,
                  c.records[i.val] = (restartedRecord s i).map fun r => { r with stop := some s.clock.round })
          ∧ (∃ n, t.banks.live = some n ∧ s.banks.other.openingPlan l.plan = some n.plan ∧ n.start = s.clock.round)
          ∧ t.ring = some (openingRing s.banks.other l.plan r).1
          ∧ s.Gained t (if (openingRing s.banks.other l.plan r).2 then [.ringRefit, .requestsTaken] else [.requestsTaken])
          ∧ t.bus = s.bus.answered m .ok (bytesOf 5 first.toNat ++ bytesOf 1 0))
      ∧ (s.banks.other.free = false →
          (∀ i, t.home i = restartedHome s i ∧ t.liveRecord i = restartedRecord s i)
          ∧ t.banks.held = true ∧ t.banks.timer = (if s.banks.held then s.banks.timer else 0)
          ∧ t.banks.other = s.banks.other ∧ t.banks.liveId = s.banks.liveId ∧ t.ring = s.ring
          ∧ s.Gained t
              (if s.banks.held then [.requestsTaken]
               else if s.bus.outbox.length < 15 then [.epochHeld, .noticesQueued, .requestsTaken]
               else [.epochHeld, .noticeDropped, .requestsTaken])
          ∧ t.bus = (s.bus.answered m .ok
                (bytesOf 5 first.toNat ++ bytesOf 1 (if s.banks.held then 2 else 1))).offered
              (if s.banks.held then []
               else [(Notice.epochHeld s.banks.liveId s.banks.other.code s.clock.round).message p.report]))

/-- START_ISOLATION and BACKOFF_EXPIRY: the request starts isolation while the alarm is Declared and isolation Idle, and
is BAD_STATE otherwise; the end of a backoff starts it where the alarm is Declared and auto-isolate set, and makes
isolation Idle otherwise; a backoff that has not ended is left alone. A start probe-mutes every Held, Active and Dozing
entry, abandons the Ranging and Testing ones with their Leaves and EnrollFailed notices, and is Unresolved at once with
none to probe-mute (sections 2.7, 7.3, 7.7; log 4; the order in which entries are abandoned and their messages are the
model's choice, logs 14, 37; the 0 steps and the round of an Unresolved start are log 11, DEDUCED). -/
def Obligations.IsolationStartsByRequestOrBackoffEnd : Prop :=
  ∀ s : State,
    (∀ m, s.Asks m 34 0 → s.setup.isSome →
      (s.rogue.alarm = false ∨ s.rogue.iso ≠ .idle →
        ∃ t, exec .startIsolation s = .next t ∧ s.Answers t m .badState [])
      ∧ (s.rogue.alarm = true → s.rogue.iso = .idle →
        ∃ t, exec .startIsolation s = .next t ∧ t.waited = false
          ∧ s.StartsIsolation t (s.bus.answered m .ok (bytesOf 1 s.isolable.length)) s.clock.round))
    ∧ (∀ p, s.rogue.iso = .backoff 0 → s.setup = some p →
      (s.rogue.alarm = true → p.autoIsolate = true →
        ∃ t, exec .backoffExpiry s = .next t ∧ t.waited = s.waited ∧ s.StartsIsolation t s.bus s.clock.round)
      ∧ (s.rogue.alarm = false ∨ p.autoIsolate = false →
        exec .backoffExpiry s = .next { s with rogue := { s.rogue with iso := .idle } }))
    ∧ (s.rogue.iso ≠ .backoff 0 → exec .backoffExpiry s = .next s)

/-- What a step's observation round brings, while Probing: a void round, a dirty Whole or Confirm round and an empty
candidate set end the isolation Unresolved, with its notice; a clean Whole round, and a Halving round that leaves
several candidates, begin a Halving step on the lower half; one candidate left begins the Confirm step; a clean Confirm
round convicts its candidate: an Active or Dozing one is Muted, a Held one leaves enrolment with a Leave to its index
and no EnrollFailed, its tag is barred, its record is flagged Convicted, and the Bar and the RogueConvicted notice go
out (sections 3.5, 7.4, 7.5, 7.7). The order of the messages is log 14 (DESIGN CHOICE), the flag of a Held home's record
log 17 (DEDUCED). -/
def Obligations.StepVerdictNarrowsOrConvicts : Prop :=
  ∀ (s : State) (p : Probe) (round : Round) (dirty blank : Bool), s.rogue.iso = .probing p →
    let t := s.stepVerdict p round dirty blank
    let dark := blank || s.light.loss || s.framer.silence
    let noticed := if s.bus.outbox.length < 16 then Counter.noticesQueued else .noticeDropped
    let unresolved (why : UnresolvedReason) (left : List HomeIdx) : Prop :=
      (∀ i, t.home i = { s.home i with entry := { s.entry i with probe := false } })
      ∧ t.rogue = { s.rogue with iso := .backoff 2000, dirty := 0, clean := 0 }
      ∧ s.Gained t [.rogueUnresolved, noticed]
      ∧ t = { s with
          homes := t.homes, rogue := t.rogue, counters := t.counters
          bus := s.bus.offered [(Notice.rogueUnresolved why round p.steps left).message s.reportStation] }
    let narrows (c : List HomeIdx) : Prop :=
      (c = [] → unresolved .empty [])
      ∧ (∀ i, c = [i] → t.rogue.iso =
            .probing { cands := [i], step := .confirm, obs := none, settle := 0, steps := p.steps + 1 }
          ∧ ∀ j, (t.entry j).probe = decide (j = i))
      ∧ (2 ≤ c.length → t.rogue.iso =
            .probing { cands := c, step := .halving, obs := none, settle := 0, steps := p.steps + 1 }
          ∧ ∀ j, (t.entry j).probe = decide (j ∈ c.take ((c.length + 1) / 2)))
    (dirty = false → dark = true → unresolved .line p.cands)
    ∧ (p.step = .whole → dirty = true → unresolved .whole p.cands)
    ∧ (p.step = .whole → dirty = false → dark = false → narrows p.cands)
    ∧ (p.step = .halving → dirty = true ∨ dark = false →
        narrows (p.cands.filter fun i => (s.entry i).probe != dirty))
    ∧ (p.step = .confirm → dirty = true → unresolved .confirm p.cands)
    ∧ (∀ i, p.step = .confirm → dirty = false → dark = false → p.cands = [i] →
        let tag := (s.entry i).tagVal
        let tell (n : Notice) : OutMsg := n.message s.reportStation
        t.rogue = { s.rogue with iso := .idle, dirty := 0, clean := 0 }
        ∧ (∀ j, j ≠ i → t.home j = { s.home j with entry := { s.entry j with probe := false } }
            ∧ t.liveRecord j = s.liveRecord j)
        ∧ t.bars = barsAfter s.bars
            { tag := (s.entry i).tagVal, reason := .rogue, origin := s.straps.station }
        ∧ ((s.entry i).state = .active ∨ (s.entry i).state = .dozing →
            t.home i = { s.home i with
              entry := { s.entry i with
                state := .muted, mute := some .convicted, backlog := none, wish := none, dozeLeft := none
                probe := false }
              retest := .idle, keptWake := false }
            ∧ t.framer = s.framer
            ∧ t.liveRecord i = (s.liveRecord i).map fun r => { r with flags := { r.flags with convicted := true } })
        ∧ ((s.entry i).state = .held →
            t.home i =
              (if (s.liveRecord i).isSome then { Home.vacant with entry := (s.entry i).retired .lost } else Home.vacant)
            ∧ t.framer = { s.framer with queue := joined s.framer.queue (.leaveIndex i) }
            ∧ t.liveRecord i = (s.liveRecord i).map fun r =>
                { r with flags := { r.flags with convicted := true, lost := true } })
        ∧ ((s.entry i).state = .held ∨ (s.entry i).state = .active ∨ (s.entry i).state = .dozing →
            t.bus = s.bus.offered
              (s.cancelMessages i
                ++ [{ cls := 1, kind := 10, target := 31, begun := false
                      body := bytesOf 8 tag.toNat ++ bytesOf 1 1 ++ bytesOf 1 s.straps.station.toNat },
                    tell (.rogueConvicted i tag (s.entry i).state round p.steps)])
            ∧ t = { s with
                homes := t.homes, framer := t.framer, rogue := t.rogue, bars := t.bars, bus := t.bus
                banks := { s.banks with live := t.banks.live }, counters := t.counters })
        ∧ t.counter .rogueConvicted = min (s.counter .rogueConvicted + 1) counterMax)

/-- The alarm: a counted dirty round, one whose stray count is T_s or more, ends the clean streak, and the N_d-th in a
row declares the alarm with its notice, which starts isolation where it is Idle and auto-isolate is set, and is
Unresolved at once where the start finds no candidate; a counted clean round ends the dirty streak, and the N_c-th in a
row clears a Declared alarm. A quiet round counts for neither. A Probing part counts no round: its step's observation
round goes to the verdict of the step, and no other round changes anything. The stray count of a mapped round is its Lit
core quanta, its Lit neighbours and 4 for each overlap, and a quantum is core where it lies in no window, no ranging or
discovery span and not beside a window (sections 6.1, 6.6, 7.1, 7.3, 7.4). Of a start, the order of the abandoned
entries (log 37, DESIGN CHOICE) and of the messages (log 14, DESIGN CHOICE), and the 0 steps and the round of an
Unresolved one (log 11, DEDUCED), are the model's. -/
def Obligations.AlarmFollowsRunsOfRounds : Prop :=
  (∀ (s : State) (p : Params) (round : Round) (stray : Nat) (v : RoundVerdict) (k : RoundKind), s.setup = some p →
    let t := s.takeRound round stray v k
    (∀ q, s.rogue.iso = .probing q → q.obs = some round →
        t = s.stepVerdict q round (decide (p.stray ≤ stray)) (decide (v = .blank)))
    ∧ (∀ q, s.rogue.iso = .probing q → q.obs ≠ some round → t = s)
    ∧ (s.probing = false → k = .quiet → t = s)
    ∧ (s.probing = false → k ≠ .quiet → p.stray ≤ stray → t.rogue.clean = 0
        ∧ (s.rogue.alarm = true → t = { s with rogue := { s.rogue with clean := 0 } })
        ∧ (s.rogue.alarm = false → s.rogue.dirty + 1 < p.dirtyLen →
            t = { s with rogue := { s.rogue with clean := 0, dirty := s.rogue.dirty + 1 } })
        ∧ (s.rogue.alarm = false → p.dirtyLen ≤ s.rogue.dirty + 1 →
            let starts := p.autoIsolate && decide (s.rogue.iso = .idle)
            ∃ u : State,
              u = { s with
                  rogue := { s.rogue with alarm := true, alarmAge := 0, dirty := 0, clean := 0 }
                  bus := s.bus.offered [(Notice.rogueAlarm true round stray starts 0).message p.report]
                  counters := u.counters }
              ∧ s.Gained u [.rogueAlarm, if s.bus.outbox.length < 16 then .noticesQueued else .noticeDropped]
              ∧ (starts = false → t = u)
              ∧ (starts = true → u.StartsIsolation t u.bus round)))
    ∧ (s.probing = false → k ≠ .quiet → stray < p.stray → t.rogue.dirty = 0 ∧ t.rogue.iso = s.rogue.iso
        ∧ (s.rogue.alarm = false → t.rogue.alarm = false ∧ t.rogue.clean = min (s.rogue.clean + 1) p.cleanLen)
        ∧ (s.rogue.alarm = true → s.rogue.clean + 1 < p.cleanLen →
            t.rogue.alarm = true ∧ t.rogue.clean = s.rogue.clean + 1)
        ∧ (s.rogue.alarm = true → p.cleanLen ≤ s.rogue.clean + 1 →
            t.rogue.alarm = false ∧ t.rogue.clean = 0
            ∧ t.bus = s.bus.offered [(Notice.rogueAlarm false round 0 false s.rogue.alarmAge).message p.report])))
  ∧ ∀ (x : Expectation) (o : RoundObs),
      let spanLength := match x.span with | some (.discovery, n) => n | _ => 0
      let inside (w : Window) (q : Nat) : Bool := decide (w.start ≤ q ∧ q < w.start + w.length)
      let before (w : Window) (q : Nat) : Bool := decide (q + 1 = w.start)
      let after (w : Window) (q : Nat) : Bool := decide (q = w.start + w.length)
      let core (q : Nat) : Bool :=
        decide (spanLength ≤ q) && x.windows.all fun w => !inside w q && !(w.isWindow && (before w q || after w q))
      let neighbours (w : Window) : Nat :=
        if w.isWindow then
          (if o.lit.any (before w) then 1 else 0) + if o.lit.any fun q => after w q && decide (q ≤ 3999) then 1 else 0
        else 0
      x.litCore o = o.lit.countP core ∧ (x.overlapCount o = x.windows.countP fun w => w.overlaps o)
        ∧ (x.stray o = o.lit.countP core + (x.windows.map neighbours).sum + 4 * x.windows.countP fun w => w.overlaps o)
        ∧ ∀ w : Window,
          w.isWindow = (w.purpose == .data || w.purpose == .poll || w.purpose == .enrolTest || w.purpose == .retest)
          ∧ w.litIn o = o.lit.any (inside w)
          ∧ w.earlyLit o = (w.isWindow && o.lit.any (before w))
          ∧ w.lateLit o = (w.isWindow && o.lit.any fun q => after w q && decide (q ≤ 3999))

/-! ### The epoch banks -/

/-- LOAD_RATES: over a Continue copy of the Live plan where the other bank is Empty, over its own plan where it is
Ready, the four up rates, the four down rates, the fee and the scale take the values carried, a scale above 7 becoming
7, and the ring items stay; the answer names the bank. Rating or Done: BANK_BUSY and nothing changes. -/
def Obligations.LoadRatesFillsOtherBank : Prop :=
  ∀ (s : State) (m : InMsg) (l : LiveBank), s.Asks m 36 19 → s.setup.isSome → s.banks.live = some l →
    (s.banks.other.free = false → ∃ t, exec .loadRates s = .next t ∧ s.Answers t m .bankBusy [])
    ∧ ∀ base : Plan, s.banks.other = .empty ∧ base = { l.plan with cont := true } ∨ s.banks.other = .ready base →
      ∃ t plan, exec .loadRates s = .next t
        ∧ (∀ j : Fin 4, plan.up[j.val] = field m.body (2 * j.val) 2
            ∧ plan.down[j.val] = field m.body (8 + 2 * j.val) 2)
        ∧ plan.fee = field m.body 16 2 ∧ plan.scale = (if 7 < byteAt m.body 18 then 7 else byteAt m.body 18)
        ∧ plan = { base with up := plan.up, down := plan.down, fee := plan.fee, scale := plan.scale }
        ∧ s.Gained t [.requestsTaken]
        ∧ t = { s with
            banks := { s.banks with other := .ready plan }
            bus := s.bus.answered m (if 7 < byteAt m.body 18 then .clamped else .ok)
              (bytesOf 1 s.banks.liveId.flip.code)
            counters := t.counters, waited := false }

/-- LOAD_RING: a count of 0 or above 8, or a body that does not match it, is BAD_LENGTH; a Rating or Done bank is
BANK_BUSY; otherwise the segments, the start segment, the start offset and the ring start are taken, each brought into
range in its order, and the rates, fee and scale stay (sections 8.4, 9.2, 12.4). That a BAD_LENGTH of this rule gains
the bad-length counter is the model's reading (DEDUCED, log 16). -/
def Obligations.LoadRingFillsOtherBank : Prop :=
  ∀ (s : State) (m : InMsg) (l : LiveBank),
    s.Asks m 37 m.body.length → s.setup.isSome → s.banks.live = some l →
    let n := byteAt m.body 0
    let bad := n = 0 ∨ 8 < n ∨ m.body.length ≠ 6 + 3 * n
    (bad → ∃ t, exec .loadRing s = .next t ∧ s.Gained t [.badLength, .requestsTaken]
      ∧ t = { s with bus := s.bus.answered m .badLength [], counters := t.counters, waited := false })
    ∧ (¬ bad → s.banks.other.free = false → ∃ t, exec .loadRing s = .next t ∧ s.Answers t m .bankBusy [])
    ∧ ∀ base : Plan, ¬ bad →
      s.banks.other = .empty ∧ base = { l.plan with cont := true } ∨ s.banks.other = .ready base →
      ∃ t plan code, exec .loadRing s = .next t
        ∧ plan.segments.length = n
        ∧ (∀ k, k < n → ∃ g, plan.segments[k]? = some g
            ∧ g.minutes = max 1 (min (field m.body (7 + 3 * k) 2) 1440)
            ∧ g.band.val = min (byteAt m.body (6 + 3 * k)) 3)
        ∧ plan.startSeg = (if byteAt m.body 1 < n then byteAt m.body 1 else 0)
        ∧ plan.startOff =
            (if field m.body 2 3 * 2000 < (plan.segment plan.startSeg).rounds then field m.body 2 3 else 0)
        ∧ plan.cont = decide (byteAt m.body 5 ≠ 0)
        ∧ plan = { base with segments := plan.segments, startSeg := plan.startSeg, startOff := plan.startOff
                             cont := plan.cont }
        ∧ (code = .ok ∨ code = .clamped)
        ∧ (code = .ok ↔ (∀ k, k < n → 1 ≤ field m.body (7 + 3 * k) 2 ∧ field m.body (7 + 3 * k) 2 ≤ 1440
              ∧ byteAt m.body (6 + 3 * k) ≤ 3)
            ∧ byteAt m.body 1 < n ∧ plan.startOff = field m.body 2 3)
        ∧ s.Gained t [.requestsTaken]
        ∧ t = { s with
            banks := { s.banks with other := .ready plan }
            bus := s.bus.answered m code (bytesOf 1 s.banks.liveId.flip.code)
            counters := t.counters, waited := false }

/-- The ring position of a new Live bank: a Given start gives its own start; Continue and an Empty bank take the closing
bank's position, advanced where an advance is due, which a Ready plan fits to its own segments (section 8.4). -/
def Obligations.OpeningRingFollowsPlan : Prop :=
  ∀ (closing p : Plan) (r : Ring),
    let now := if r.due then r.next closing else r
    openingRing .empty closing r = (now, false)
    ∧ (p.cont = false →
        openingRing (.ready p) closing r
          = ({ seg := p.startSeg, elapsed := p.startOff * 2000, due := false }, false))
    ∧ (p.cont = true → now.seg < p.segments.length → now.elapsed < (p.segment now.seg).rounds →
        openingRing (.ready p) closing r = (now, false))
    ∧ (p.cont = true → now.seg < p.segments.length → (p.segment now.seg).rounds ≤ now.elapsed →
        openingRing (.ready p) closing r
          = ({ seg := if now.seg + 1 < p.segments.length then now.seg + 1 else 0, elapsed := 0, due := false }, true))
    ∧ (p.cont = true → p.segments.length ≤ now.seg →
        openingRing (.ready p) closing r = ({ seg := 0, elapsed := 0, due := false }, true))

/-- CLOSE_EPOCH and EPOCH_TIMER_EXPIRY: the swap where the other bank is Empty or Ready. Otherwise the request is
BANK_BUSY and changes nothing, and an expiry holds the epoch: the flag is set, the timer stays at 0, the counter gains 1
and an EpochHeld notice is offered. An expiry that is not due changes nothing (section 9.4; log 4). -/
def Obligations.EpochClosesBySwapOrIsHeld : Prop :=
  ∀ (s : State) (p : Params) (l : LiveBank) (r : Ring),
    s.setup = some p → s.banks.live = some l → s.ring = some r →
    (∀ m, s.Asks m 38 0 →
      (s.banks.other.free = false → ∃ t, exec .closeEpoch s = .next t ∧ s.Answers t m .bankBusy [])
      ∧ (∀ plan, s.banks.other.openingPlan l.plan = some plan →
          ∃ t, exec .closeEpoch s = .next t ∧ s.Swaps t p l plan (openingRing s.banks.other l.plan r).1
            ∧ s.Gained t
                (if (openingRing s.banks.other l.plan r).2 then [.ringRefit, .requestsTaken] else [.requestsTaken])
            ∧ t = { s with
                homes := t.homes, banks := t.banks, ring := t.ring, counters := t.counters, waited := false
                bus := s.bus.answered m .ok
                  (bytesOf 1 s.banks.liveId.flip.code ++ bytesOf 5 s.clock.round.toNat) }))
    ∧ (s.banks.timer = 0 → s.banks.held = false →
      (∀ plan, s.banks.other.openingPlan l.plan = some plan →
        ∃ t, exec .epochTimerExpiry s = .next t ∧ s.Swaps t p l plan (openingRing s.banks.other l.plan r).1
          ∧ s.Gained t (if (openingRing s.banks.other l.plan r).2 then [.ringRefit] else [])
          ∧ t = { s with homes := t.homes, banks := t.banks, ring := t.ring, counters := t.counters })
      ∧ (s.banks.other.free = false →
        ∃ t, exec .epochTimerExpiry s = .next t
          ∧ t = { s with
              banks := { s.banks with held := true, timer := 0 }
              bus := s.bus.offered
                [(Notice.epochHeld s.banks.liveId s.banks.other.code s.clock.round).message p.report]
              counters := t.counters }
          ∧ s.Gained t
              (if s.bus.outbox.length < 16 then [.epochHeld, .noticesQueued] else [.epochHeld, .noticeDropped])))
    ∧ (s.banks.timer ≠ 0 ∨ s.banks.held = true → exec .epochTimerExpiry s = .next s)

/-- RELEASE_BANK: a Done bank becomes Empty, and a held swap is performed at once, into an Empty bank, with a copy of
the Live plan and its ring position; the answer tells which. With no Done bank it is NOT_DONE and nothing changes
(sections 9.6, 9.4). The codes 1 and 0 of that byte are the model's choice (DESIGN CHOICE, log 33). -/
def Obligations.ReleaseBankEmptiesAndSwapsIfHeld : Prop :=
  ∀ (s : State) (m : InMsg) (p : Params) (l : LiveBank) (r : Ring), s.Asks m 41 0 →
    s.setup = some p → s.banks.live = some l → s.ring = some r →
    ((∀ b, s.banks.other ≠ .done b) → ∃ t, exec .releaseBank s = .next t ∧ s.Answers t m .notDone [])
    ∧ ∀ b, s.banks.other = .done b →
      (s.banks.held = false → ∃ t, exec .releaseBank s = .next t ∧ s.Gained t [.requestsTaken]
        ∧ t = { s with
            banks := { s.banks with other := .empty }
            bus := s.bus.answered m .ok (bytesOf 1 0 ++ bytesOf 5 0)
            counters := t.counters, waited := false })
      ∧ (s.banks.held = true → ∃ t, exec .releaseBank s = .next t
        ∧ s.Swaps t p l l.plan (if r.due then r.next l.plan else r)
        ∧ s.Gained t [.requestsTaken]
        ∧ t = { s with
            homes := t.homes, banks := t.banks, ring := t.ring, counters := t.counters, waited := false
            bus := s.bus.answered m .ok (bytesOf 1 1 ++ bytesOf 5 s.clock.round.toNat) })

/-- The record at the rating position is rated: eight counts rounded to KiB, halves up; each times the rate of its own
band and direction; the sum clamped at 2^48 - 1; scaled by 2^s with rounding, halves up; the fee added and the charge
clamped at 2^40 - 1. Each clamp sets its flag and counts, flags already set stay, all counts at 0 cost the fee, and each
figure lies in its range. -/
def Obligations.RatedChargeFollowsFormula : Prop :=
  ∀ (s : State) (b : ClosedBank) (i : HomeIdx) (done : Bool) (r : UsageRecord),
    s.banks.other = .rating b (some i) done → b.records[i.val] = some r →
    let k (n : Nat) : Nat := (n + 512) / 1024
    let sum := k r.up[0] * b.plan.up[0] + k r.up[1] * b.plan.up[1] + k r.up[2] * b.plan.up[2]
      + k r.up[3] * b.plan.up[3] + k r.down[0] * b.plan.down[0] + k r.down[1] * b.plan.down[1]
      + k r.down[2] * b.plan.down[2] + k r.down[3] * b.plan.down[3]
    let a := min sum (2 ^ 48 - 1)
    let h := if b.plan.scale = 0 then 0 else 2 ^ (b.plan.scale - 1)
    let c := (a + h) / 2 ^ b.plan.scale + b.plan.fee
    let rated : UsageRecord :=
      { r with
        charge := some (min c (2 ^ 40 - 1))
        flags := { r.flags with saturated := r.flags.saturated || decide (2 ^ 48 - 1 < sum)
                                clamped := r.flags.clamped || decide (2 ^ 40 - 1 < c) } }
    let clamps := (if 2 ^ 48 - 1 < sum then [Counter.accumulatorClamped] else [])
      ++ if 2 ^ 40 - 1 < c then [Counter.chargeClamped] else []
    (∃ next, s.tickRating.banks.other
        = .rating { b with records := b.records.set i.val (some rated) i.isLt } next next.isNone
      ∧ (∀ j, next = some j → i < j ∧ (b.records[j.val]).isSome)
      ∧ ∀ j : HomeIdx, i < j → (b.records[j.val]).isSome → ∃ n, next = some n ∧ n ≤ j)
    ∧ s.Gained s.tickRating clamps
    ∧ s.tickRating = { s with banks := { s.banks with other := s.tickRating.banks.other }
                              counters := s.tickRating.counters }
    ∧ (∀ n, n ≤ 2 ^ 40 - 1 → k n ≤ 2 ^ 30)
    ∧ (∀ n rate, n ≤ 2 ^ 40 - 1 → rate ≤ 65535 → k n * rate < 2 ^ 46)
    ∧ (r.up = Vector.replicate 4 0 → r.down = Vector.replicate 4 0 → b.plan.fee ≤ 65535 →
        rated.charge = some b.plan.fee)

/-- RATING_COMPLETE and RING_SEGMENT_ADVANCE: where every record is rated, the bank becomes Done and an EpochClosed
notice with its rounds and counts is offered; where the boundary's advance reached the segment's length, the ring moves
to the next segment, and after the last to segment 0. Where they are not due, nothing changes. A bank that closed with
no record becomes due at the first boundary, and any other where its last record is rated (sections 9.5, 8.4; log 4). -/
def Obligations.RatingCompletesAndRingAdvances : Prop :=
  ∀ s : State,
    (∀ b position, s.banks.other = .rating b position true →
      ∃ t, exec .ratingComplete s = .next t
        ∧ t = { s with
            banks := { s.banks with other := .done b }
            bus := s.bus.offered
              [(Notice.epochClosed s.banks.liveId.flip b.start b.stop
                  (allIdx.countP fun i => (b.records[i.val]).isSome)
                  (allIdx.countP fun i => (b.records[i.val]).any fun r => r.flags.saturated)
                  (allIdx.countP fun i => (b.records[i.val]).any fun r => r.flags.clamped)).message s.reportStation]
            counters := t.counters }
        ∧ s.Gained t (if s.bus.outbox.length < 16 then [.noticesQueued] else [.noticeDropped]))
    ∧ ((∀ b position, s.banks.other ≠ .rating b position true) → exec .ratingComplete s = .next s)
    ∧ (∀ r l, s.ring = some r → s.banks.live = some l →
      exec .ringSegmentAdvance s = .next
        (if r.due then
          { s with
            ring := some
              { seg := if r.seg + 1 < l.plan.segments.length then r.seg + 1 else 0, elapsed := 0, due := false } }
         else s))
    ∧ (∀ b done, s.banks.other = .rating b none done →
      s.tickRating = { s with banks := { s.banks with other := .rating b none true } })
    ∧ ((∀ b position done, s.banks.other ≠ .rating b position done) → s.tickRating = s)

/-! ### The shelf bus -/

/-- MESSAGE_RECEIVED and CLOCK_STOPS_BEFORE_TAKE_SLOT: the bit times before a message move the idle count. A port that
is not listen-only, not sending and whose idle count has reached 12 since the full reset decides the message by the
first condition that holds: malformed, a bad check, the own station number as sender, another target, a full inbox;
otherwise the message joins the inbox. A length of 41..63 is malformed too, and the port receives nothing more, the end
of that message included, until its idle count reaches 12 again. A clock that stops makes a message malformed. While
Listen-only no bus event moves a message or a counter, or ends the Listen-only state. The check is over the bits of
class to body, each field most significant bit first, with the generator x^16 + x^12 + x^5 + 1 from all bits at 1
(sections 10.1, 10.3, 10.6, 10.7, 10.8). That a port which does not receive only ends its idle count at a message, and
that any other message is decided however few idle bit times precede it, is the model's choice (DESIGN CHOICE, log
23). -/
def Obligations.ReceivedMessageIsDecided : Prop :=
  (crc16 [] = 0xFFFF#16 ∧ ∀ (bits : List Bool) (b : Bool),
    crc16 (bits ++ [b]) = if (crc16 bits).msb != b then (crc16 bits <<< 1) ^^^ 0x1021#16 else crc16 bits <<< 1)
  ∧ (∀ (cls : BitVec 2) (kind : BitVec 6) (sender target : Station) (length : BitVec 6) (body : List Byte),
    let head := cls.toNat * 2 ^ 22 + kind.toNat * 2 ^ 16 + sender.toNat * 2 ^ 11 + target.toNat * 2 ^ 6 + length.toNat
    frameBits cls kind sender target length body =
      (List.range 24).map (fun k => head.testBit (23 - k))
        ++ (List.range (8 * body.length)).map fun k => (body.getD (k / 8) 0).getLsbD (7 - k % 8))
  ∧ ∀ (s : State) (m : BusMessage),
    let met : Bus := s.bus.after m.before
    let port : Bus := { met with idle := 0 }
    let overlong := 40 < m.length.toNat
    let malformed := overlong ∨ m.sender = 31
    let badCheck := crc16 (frameBits m.cls m.kind m.sender m.target m.length m.body) ≠ m.check
    let elsewhere := m.target ≠ s.straps.station ∧ m.target ≠ 31
    let decides (bus : Bus) (l : List Counter) : Prop := ∃ t, exec (.messageReceived m) s = .next t
      ∧ t = { s with bus, counters := t.counters } ∧ s.Gained t l
    (s.bus.listenOnly = true ∨ s.bus.sending = true ∨ met.ready = false →
      exec (.messageReceived m) s = .next { s with bus := port })
    ∧ (s.bus.listenOnly = false → s.bus.sending = false → met.ready = true →
      (overlong → decides { port with ready := false } [.frameError])
      ∧ (¬ overlong → malformed → decides port [.frameError])
      ∧ (¬ malformed → badCheck → decides port [.crcError])
      ∧ (¬ malformed → ¬ badCheck → m.sender = s.straps.station →
          decides { port with listenOnly := true } [.stationClash])
      ∧ (¬ malformed → ¬ badCheck → m.sender ≠ s.straps.station → elsewhere → decides port [])
      ∧ (¬ malformed → ¬ badCheck → m.sender ≠ s.straps.station → ¬ elsewhere → 8 ≤ s.bus.inbox.length →
          decides port [.inboxFull])
      ∧ (¬ malformed → ¬ badCheck → m.sender ≠ s.straps.station → ¬ elsewhere → s.bus.inbox.length < 8 →
          decides
            { port with inbox := s.bus.inbox ++
                [{ cls := m.cls, kind := m.kind, sender := m.sender, target := m.target, body := m.body }] }
            [.messagesTaken]))
    ∧ (∃ t, exec .clockStopsBeforeTakeSlot s = .next t
        ∧ t = { s with bus := { s.bus with idle := 0 }, counters := t.counters }
        ∧ s.Gained t
            (if s.bus.listenOnly = false ∧ s.bus.sending = false ∧ s.bus.ready = true then [.frameError] else []))
    ∧ (∀ times : List BitTime,
        ((s.bus.after times).ready = true ↔
          s.bus.ready = true ∨ ∃ k, k < times.length ∧ (s.bus.after (times.take (k + 1))).idle = 12))
    ∧ (s.bus.listenOnly = true → s.bus.sending = false →
      ∀ c, c = .messageReceived m ∨ (∃ n l, c = .messageSendStart n l) ∨ (∃ b, c = .takeSlot b)
          ∨ c = .clockStopsBeforeTakeSlot →
        ∃ t, exec c s = .next t
          ∧ t = { s with bus := { s.bus with idle := t.bus.idle, ready := t.bus.ready } })

/-- MESSAGE_SEND_START and TAKE_SLOT: idle bit times are counted, and a bit time that is driven sets the count to 0; at
an idle count of 12 the head is begun; with no bit overridden it goes on to its take slot; a 1 overridden in the
arbitration field loses, and the message stays the head; any other mismatch drops it. Before 12, or with an empty
outbox, only the idle count moves, and a station that is sending begins nothing. At the take slot the message leaves and
is counted, as untaken too where no station drove the slot. A station drives a start bit of 0, the bits of class to body
with its own number as sender, and the 16 bits of their check (sections 10.1, 10.2, 10.4; the form of the operands is
log 23). -/
def Obligations.MessageIsSentLostOrAborted : Prop :=
  (∀ (m : OutMsg) (own : Station),
    let body := frameBits m.cls m.kind own m.target (BitVec.ofNat 6 m.body.length) m.body
    m.bits own = false :: body ++ (List.range 16).map fun k => (crc16 body).getLsbD (15 - k))
  ∧ ∀ (s : State) (before : List BitTime) (bus : List Bool), s.bus.listenOnly = false →
    let c := Instr.messageSendStart before bus
    let met : Bus := s.bus.after before
    (s.bus.sending = true → exec c s = .next s)
    ∧ (s.bus.sending = false → met.idle < 12 ∨ s.bus.outbox = [] → exec c s = .next { s with bus := met })
    ∧ (∀ k m, s.bus.sending = false → 12 ≤ met.idle → headIndex s.bus.outbox = some k →
        s.bus.outbox[k]? = some m →
        let driven := m.bits s.straps.station
        let begun := s.bus.outbox.set k { m with begun := true }
        (firstDiffer driven bus = none →
          exec c s = .next { s with bus := { met with idle := 0, outbox := begun, sending := true } })
        ∧ (∀ j, firstDiffer driven bus = some j → 1 ≤ j → j ≤ 13 → driven[j]? = some true →
          ∃ t, exec c s = .next t ∧ s.Gained t [.arbitrationLost]
            ∧ t = { s with bus := { met with idle := 0, outbox := begun }, counters := t.counters })
        ∧ (∀ j, firstDiffer driven bus = some j → j = 0 ∨ 13 < j ∨ driven[j]? = some false →
          ∃ t, exec c s = .next t ∧ s.Gained t [.bitError]
            ∧ t = { s with bus := { met with idle := 0, outbox := s.bus.outbox.eraseIdx k }
                           counters := t.counters }))
    ∧ (∀ k taken, s.bus.sending = true → headIndex s.bus.outbox = some k →
        ∃ t, exec (.takeSlot taken) s = .next t
          ∧ t = { s with bus := { s.bus with idle := 0, sending := false, outbox := s.bus.outbox.eraseIdx k }
                         counters := t.counters }
          ∧ s.Gained t (if taken then [.messagesSent] else [.messagesSent, .untaken]))
    ∧ (∀ taken, s.bus.sending = false → exec (.takeSlot taken) s = .next s)

/-- The head of the outbox: the message that has begun, else the one of lowest class, and among those the one that
joined first; there is none only when the outbox is empty (section 10.5). -/
def Obligations.OutboxHeadIsBegunOrLowestClass : Prop :=
  ∀ out : List OutMsg,
    (headIndex out = none ↔ out = [])
    ∧ ∀ k m, headIndex out = some k → out[k]? = some m →
      (m.begun = true ∧ ∀ j n, j < k → out[j]? = some n → n.begun = false)
      ∨ ((∀ n ∈ out, n.begun = false)
        ∧ ∀ j n, out[j]? = some n → m.cls ≤ n.cls ∧ (j < k → m.cls < n.cls))

/-- Arbitration, for any number of stations that begin in the same bit time: where one of them has the lowest class,
kind and sender, the bus carries its bits through the whole field whatever the others still sending drive, it goes on
alone, and every other station loses (section 10.2). -/
def Obligations.LowestArbitrationFieldWins : Prop :=
  ∀ (w : OutMsg × Station) (l : List (OutMsg × Station)), w ∈ l →
    let number (x : OutMsg × Station) : Nat := x.1.cls.toNat * 2048 + x.1.kind.toNat * 32 + x.2.toNat
    let driven (x : OutMsg × Station) : List Bool := x.1.bits x.2
    (∀ x ∈ l, x ≠ w → number w < number x) →
      (∀ k, k < 14 → (driven w).getD k true
        = (l.filter fun x => (driven x).take k == (driven w).take k).all fun x => (driven x).getD k true)
      ∧ sendResult (driven w) (driven w) = .won
      ∧ ∀ x ∈ l, x ≠ w → sendResult (driven x) (driven w) = .lost

/-! ### The round boundary -/

/-- The events that fall due at a boundary, in the order in which a boundary that finds them still owed takes them: the
map of the header that is open, the waits and the dozes by ascending index, the end of a backoff, the ring's advance, the
epoch's expiry and the completion of rating (log 6). -/
def owedCommands : List Instr :=
  [.roundBoundary .map]
    ++ (List.finRange 64).flatMap (fun i => [.approvalTimeout i, .claimWindowExpiry i, .dozeExpiry i])
    ++ [.backoffExpiry, .ringSegmentAdvance, .epochTimerExpiry, .ratingComplete]

/-- The state after commands taken one after another. -/
def takes (s : State) : List Instr → Host.Outcome State Fault Refusal
  | [] => .next s
  | c :: rest =>
    match exec c s with
    | .next t => takes t rest
    | .fault f => .fault f
    | .refused r => .refused r

/-- The part once the decays that were held back for a close have been taken: each named home's score falls by 1 (R145;
log 32). -/
def decaysTaken (s : State) : State :=
  { s with
    homes := s.homes.mapFinIdx fun i h hi =>
      if s.rogue.owed.contains ⟨i, hi⟩ then { h with entry := { h.entry with score := h.entry.score - 1 } } else h
    rogue := { s.rogue with owed := [] } }

/-- ROUND_BOUNDARY. Taken whole it is its map after its opening. On a Set part the opening first takes what the boundary
before still owes, held-back decays and then each event as its own command would, and is then that of a part that owes
nothing. There the round counter gains 1, the counts of every index, the epoch timer, the backoff, the band ring and the
ages of a Declared silence, feeder loss and alarm each move by 1, and in every 64th round each score falls by 1; the
record at the rating position is rated; waiting directives and kept Wakes join the queue while it has room, and a Set
delay that joins makes its marker queued; the next round begins to arrive and the one before waits for its close; an
idle-fill header goes out or a mapped header opens; nothing else changes. An opening that holds decays back differs from
the plain one in the scores it leaves, whose homes it names as owed (sections 2.3, 2.6, 3.1, 4.5, 4.6, 4.7, 5.2, 5.4,
6.2, 6.4, 6.6, 7.1, 7.7, 7.8, 8.4, 9.4, 9.5). The model's choices: the opening as a part of the boundary (log 5), what
is owed and its order (log 6), the list of rounds that wait for their close (log 24), the re-offer here, before the
header takes directives (log 13), the gain of the approval clocks here, ahead of an isolation that starts at this
boundary (log 40), the decays that may wait for the close (log 32), the point at which the preset is switched (log
20). -/
def Obligations.BoundaryOpeningMovesCounts : Prop :=
  (∀ s t : State, exec (.roundBoundary .opening) s = .next t →
    exec (.roundBoundary .whole) s = exec (.roundBoundary .map) t)
  ∧ (∀ (s : State) (p : Params), s.setup = some p → 0 < p.epoch → s.banks.live.isSome →
    ∃ u, takes (decaysTaken s) owedCommands = .next u ∧ u.Settled
      ∧ ∀ l, exec (.roundBoundary .opening) s = exec (.roundBoundary .opening) u
        ∧ exec (.roundBoundary (.openingHolding l)) s = exec (.roundBoundary (.openingHolding l)) u)
  ∧ (∀ (s : State) (l : List HomeIdx), s.setup = none →
      exec (.roundBoundary (.openingHolding l)) s = exec (.roundBoundary .opening) s)
  ∧ (∀ (s : State) (l : List HomeIdx), s.setup.isSome → s.Settled →
    let decay := decide ((s.clock.round + 1).toNat % 64 = 0)
    ∃ t v, exec (.roundBoundary .opening) s = .next t ∧ exec (.roundBoundary (.openingHolding l)) s = .next v
      ∧ v = { t with homes := v.homes, rogue := v.rogue }
      ∧ v.rogue = { t.rogue with owed := if decay then l else [] }
      ∧ ∀ i, v.home i = { t.home i with
          entry := { t.entry i with score := if i ∈ l then (s.entry i).score else (t.entry i).score } })
  ∧ ∀ (s : State) (p : Params), s.setup = some p → s.Settled →
    let round := s.clock.round + 1
    let room := 32 - s.framer.queue.length
    let offered := s.waitingDirectives.take room
    let idleFill := decide (0 < s.clock.idleLeft)
    let started := ((s.rx.arriving.bind (·.map)).map (·.windows)).getD [] |>.filter fun w =>
      decide (s.rx.since < w.start ∧ w.start ≤ 4000)
    ∃ t, exec (.roundBoundary .opening) s = .next t
      ∧ t.clock = { s.clock with round, idleLeft := s.clock.idleLeft - 1, headerOpen := !idleFill }
      ∧ (∀ i, t.home i = { s.home i with
            entry := { s.entry i with
              dozeLeft := if (s.entry i).state = .dozing then (s.entry i).dozeLeft.map (· - 1)
                          else (s.entry i).dozeLeft
              score := if round.toNat % 64 = 0 then (s.entry i).score - 1 else (s.entry i).score }
            window :=
              if (s.entry i).claim = some .pending then (s.home i).window.map (· - 1) else (s.home i).window
            progress := (t.home i).progress, keptWake := (t.home i).keptWake
            marker :=
              if offered.any fun d => match d with | .setDelay j _ => j == i | _ => false then .queued
              else (s.home i).marker }
          ∧ ((t.home i).progress.map fun q => { q with waiting := none })
            = (s.home i).progress.map fun q => { q with
                waiting := none
                clock := if (s.entry i).state = .held ∧ s.probing = false then q.clock.map fun c => min (c + 1) 4000
                         else q.clock })
      ∧ t.waitingDirectives = s.waitingDirectives.drop room
      ∧ t.framer = { s.framer with
          queue := s.framer.queue ++ offered
          silenceAge := if s.framer.silence then s.framer.silenceAge + 1 else s.framer.silenceAge
          sending := if idleFill then s.framer.waiting else none
          waiting := if idleFill then none else s.framer.waiting
          header := if idleFill then
              some { round, idleFill := true, dark := s.darkSet, map := none, directives := [] }
            else s.framer.header }
      ∧ t.rx =
          { preset :=
              if s.rx.next.any fun e => e.map.any fun x => x.span.any fun sp => decide (sp.1 = .discovery) then 128
              else (started.getLast?.map (·.preset)).getD s.rx.preset
            since := 0
            next := if idleFill then some { round := round + 1, map := none, spanGood := false, cutOff := false }
                    else none
            arriving := s.rx.next, closing := s.rx.closing ++ s.rx.arriving.toList }
      ∧ t.light = { s.light with lossAge := if s.light.loss then s.light.lossAge + 1 else s.light.lossAge }
      ∧ t.rogue = { s.rogue with
          alarmAge := if s.rogue.alarm then s.rogue.alarmAge + 1 else s.rogue.alarmAge
          iso := match s.rogue.iso with
            | .backoff n => .backoff (n - 1)
            | other => other }
      ∧ t.ring = (match s.ring, s.banks.live with
          | some r, some l => some
            (if r.elapsed + 1 < (l.plan.segment r.seg).rounds then { r with elapsed := r.elapsed + 1 }
             else { r with due := true })
          | r, _ => r)
      ∧ t.banks = { s.banks with timer := s.banks.timer - 1, other := s.tickRating.banks.other }
      ∧ t.counters = s.tickRating.counters
      ∧ t = { s with clock := t.clock, homes := t.homes, framer := t.framer, rx := t.rx, light := t.light,
                     rogue := t.rogue, ring := t.ring, banks := t.banks, counters := t.counters }

/-- A directive of ten bytes at a place of a header (12.2): type byte, fields, and zeros. -/
def directiveTable (o : Nat) : Directive → List (Nat × Nat × Nat)
  | .assign tag i => [(o, 1, 0), (o + 1, 8, tag.toNat), (o + 9, 1, i.val)]
  | .setDelay i d => [(o, 1, 1), (o + 1, 1, i.val), (o + 2, 2, d), (o + 4, 6, 0)]
  | .leaveIndex i => [(o, 1, 2), (o + 1, 1, i.val), (o + 2, 8, 0)]
  | .leaveTag tag => [(o, 1, 3), (o + 1, 8, tag.toNat), (o + 9, 1, 0)]
  | .dozeGranted i n => [(o, 1, 4), (o + 1, 1, i.val), (o + 2, 2, n), (o + 4, 6, 0)]
  | .wake i => [(o, 1, 5), (o + 1, 1, i.val), (o + 2, 8, 0)]

/-- The table of a round header (12.2): first byte, width, value. Index i of the dark set is bit 63 - i of its 64. -/
def headerTable (h : Header) : List (Nat × Nat × Nat) :=
  let span := h.map.bind (·.span)
  let grants : List Grant := match h.map with | some m => m.grants | none => []
  let invite : Bool := match span with | some (.discovery, _) => true | _ => false
  [(0, 5, h.round.toNat),
   (5, 1, (if invite then 2 else 0) + if h.idleFill then 1 else 0),
   (6, 8, ((List.finRange 64).map fun i => if i ∈ h.dark then 2 ^ (63 - i.val) else 0).sum),
   (14, 1, match span with | some (.discovery, _) => 1 | some (.quiet, _) => 2 | none => 0),
   (15, 2, match span with | some (_, n) => n | none => 0),
   (17, 1, grants.length),
   (18, 1, h.directives.length)]
  ++ grants.zipIdx.map (fun g =>
      (19 + 4 * g.2, 4, codeIn [GrantKind.data, .poll, .test, .ranging] g.1.kind * 2 ^ 30 + g.1.index.val * 2 ^ 24
        + g.1.start * 2 ^ 12 + g.1.length))
  ++ h.directives.zipIdx.flatMap (fun d => directiveTable (19 + 4 * grants.length + 10 * d.2) d.1)

/-- ROUND_BOUNDARY, its map (section 4): the discovery decision of the round comes first; then the ticks are added, the
map is filled with those balances and the reserved span; every grant lowers the balance of a Held or Active home by 1
but not below -8, a Data grant lowers the recorded backlog by its payload, and a placed Test or ranging span is noted;
up to 8 directives go out oldest first, which moves the stage of an Assign or a Set delay on and marks a correction as
sent; the header carries map and dark set, after which a waiting frame starts; the expectation of the next upstream
round is the map, a window record for each grant; while Probing the map is a settle map or the observation map. The dark
set holds the Muted and the probe-muted homes, and the header's bytes on the feeder hold every field of the header, its
grants, its directives and its check in their places (sections 2.4, 2.5, 4.1, 4.2, 4.3, 4.5, 5.1, 6.1, 6.2, 6.4, 7.4,
12.2; log 5). With no header open there is no map to build. That a directive counts as sent only where no later one of
its kind is queued for the home is log 29 (DEDUCED), and that a home which entered Held at this boundary already ticks
is log 39 (DESIGN CHOICE). -/
def Obligations.MapIsBuiltIntoOpenHeader : Prop :=
  (∀ h : Header,
    let size := 19 + 4 * (match h.map with | some m => m.grants.length | none => 0) + 10 * h.directives.length
    h.bytes.length = size + 2 ∧ LaidOut h.bytes (headerTable h)
      ∧ h.bytes.drop size = bytesOf 2 (crcBytes (h.bytes.take size)).toNat)
  ∧ ∀ s : State,
    (∀ i, i ∈ s.darkSet ↔ (s.entry i).state = .muted ∨ (s.entry i).probe = true)
    ∧ s.feederHeader = (match s.framer.header with | some h => h.bytes | none => [])
    ∧ (s.clock.headerOpen = false → exec (.roundBoundary .map) s = .next s)
    ∧ (∀ u, exec .discoveryDue s = .next u → s.clock.headerOpen = true → u.enrol.due ≠ s.clock.round →
        exec (.roundBoundary .map) s = exec (.roundBoundary .map) u)
    ∧ ∀ p : Params, s.setup = some p → s.clock.headerOpen = true → s.clock.round ≠ s.enrol.due →
      let phase := if s.clock.firstMap then 0 else (s.planner.phase + 1) % p.upkeep
      let ticked (i : HomeIdx) : Int :=
        if s.light.loss = false ∧ s.framer.silence = false ∧ i.val % p.upkeep = phase
            ∧ ((s.entry i).state = .held ∨ (s.entry i).state = .active) ∧ (s.entry i).probe = false then
          min 8 ((s.entry i).balance + 1)
        else (s.entry i).balance
      let span :=
        if s.probing then some (SpanKind.quiet, 400)
        else if s.enrol.offered then some (.discovery, if s.straps.reach = .long then 3238 else 1638)
        else none
      let upstream := s.clock.round + 1
      let out := s.framer.queue.take 8
      let rest := s.framer.queue.drop 8
      let delays (i : HomeIdx) (l : List Directive) : Bool :=
        l.any fun d => match d with | .setDelay j _ => j == i | _ => false
      let delaySent (i : HomeIdx) : Bool := delays i out && !delays i rest
      let assignSent (i : HomeIdx) : Bool :=
        match (s.entry i).tag with
        | some tag => out.contains (.assign tag i) && !rest.contains (.assign tag i)
        | none => false
      ∃ (homes : Vector Home 64) (map : TalkMap) (rotation : HomeIdx) (t : State),
        (∀ i : HomeIdx, homes[i.val] = { s.home i with entry := { s.entry i with balance := ticked i } })
        ∧ planMap homes s.planner.rotation span = (map, rotation)
        ∧ exec (.roundBoundary .map) s = .next t
        ∧ t.planner = { rotation, phase } ∧ t.clock = { s.clock with headerOpen := false, firstMap := false }
        ∧ t.framer = { s.framer with
            queue := rest
            header := some { round := s.clock.round, idleFill := false, dark := s.darkSet, map := some map
                             directives := out }
            sending := if s.framer.sending = none then s.framer.waiting else s.framer.sending
            waiting := if s.framer.sending = none then none else s.framer.waiting }
        ∧ (∀ i,
            let grant := map.grants.find? fun g => g.index == i
            let kind := grant.map (·.kind)
            let e := s.entry i
            t.home i =
              { s.home i with
                entry := { e with
                  balance := if (e.state = .held ∨ e.state = .active) ∧ grant.isSome then max (-8) (ticked i - 1)
                             else ticked i
                  backlog := match grant with
                    | some g => if g.kind = .data then e.backlog.map (· - (g.length - 3)) else e.backlog
                    | none => e.backlog }
                retest := if kind = some .test ∧ e.state ≠ .testing then .placed upstream else (s.home i).retest
                inPlace := if kind = some .ranging ∧ e.state ≠ .ranging then .placed upstream
                           else (s.home i).inPlace
                marker := if (s.home i).marker = .queued ∧ delaySent i = true then .sent s.clock.round
                          else (s.home i).marker
                progress := (s.home i).progress.map fun q =>
                  let stage : Stage :=
                    if kind = some .test ∧ e.state = .testing then .testOutstanding upstream
                    else if kind = some .ranging ∧ e.state = .ranging then .spanOutstanding upstream
                    else q.stage
                  { q with stage :=
                      if stage = .awaitingAssign ∧ q.waiting = none ∧ assignSent i = true then .spanDue
                      else if stage = .awaitingSetDelay ∧ q.waiting = none ∧ delaySent i = true then .testDue
                      else stage } })
        ∧ t.enrol = { s.enrol with offered := false }
        ∧ t.rx = { s.rx with
            next := some
              { round := upstream
                spanGood := false
                cutOff := false
                map := some
                  { span := span
                    windows := map.grants.map fun g =>
                      let e := s.entry g.index
                      { index := g.index, start := g.start, length := g.length, tag := e.tag
                        purpose := match g.kind with
                          | .data => .data
                          | .poll => .poll
                          | .test => if e.state = .testing then .enrolTest else .retest
                          | .ranging => if e.state = .ranging then .enrolRanging else .inPlaceRanging
                        payload := match g.kind with
                          | .data => g.length - 3
                          | .test => 16
                          | .poll | .ranging => 0
                        preset := if g.kind = .ranging then 128 else e.level.getD 128 } } } }
        ∧ t.rogue = (match s.rogue.iso with
            | .probing q => { s.rogue with
                iso := .probing
                 (if 0 < q.settle then { q with settle := q.settle - 1 }
                 else if q.obs = none then { q with obs := some upstream }
                 else q) }
            | _ => s.rogue)
        ∧ s.Gained t (if s.probing = true ∧ s.enrol.offered = true then [.enrolDeferred] else [])
        ∧ t = { s with planner := t.planner, clock := t.clock, framer := t.framer, homes := t.homes, enrol := t.enrol,
                       rx := t.rx, rogue := t.rogue, counters := t.counters }

/-! The filling of one map in the manual's own terms: what each home holds, and what an addition needs (4.2). -/

/-- What each home holds in a map under construction. -/
abbrev Content := HomeIdx → Option PGrant

/-- The space a grant uses: 5 quanta and its payload, 21 for a Test, 46 for a Ranging grant (R64). -/
def contentSpace : Option PGrant → Nat
  | none => 0
  | some (.window x) => 5 + x
  | some .test => 21
  | some (.ranging _) => 46

/-- The space left (R64). -/
def Content.left (m : Content) (span : Nat) : Nat :=
  4000 - (span + ((List.finRange 64).map fun i => contentSpace (m i)).sum)

/-- The number of grants. -/
def Content.size (m : Content) : Nat := (List.finRange 64).countP fun i => (m i).isSome

def Content.put (m : Content) (i : HomeIdx) (g : PGrant) : Content := fun j => if j = i then some g else m j

/-- An addition or a replacement, made where the space and, for a new grant, the number allow it (R64). -/
def Content.place (m : Content) (span : Nat) (i : HomeIdx) (g : PGrant) : Content :=
  if ((m i).isSome ∨ m.size < 80) ∧ contentSpace (some g) - contentSpace (m i) ≤ m.left span then m.put i g else m

/-- Payload for a home, cut to the space left, less 5 for a new grant; none for a home with a Test or Ranging grant
(R70, R71). -/
def Content.pay (m : Content) (i : HomeIdx) (want : Nat) : Content :=
  match m i with
  | none =>
    let x := min want (m.left 0 - 5)
    if x = 0 ∨ 80 ≤ m.size then m else m.put i (.window x)
  | some (.window y) =>
    let x := min want (m.left 0)
    if x = 0 then m else m.put i (.window (y + x))
  | some _ => m

/-- The centre of the ranging span asked for a home: of an enrolment whose span is due, or in place (R69). -/
def spanAsked (h : Home) : Option Nat :=
  match h.entry.state, h.progress, h.inPlace with
  | .ranging, some q, _ => if q.stage = .spanDue then some q.coarse else none
  | .active, _, .asked c => if h.entry.probe then none else some c
  | _, _, _ => none

/-- A Test is asked for a home: of an enrolment whose test is due, or a pending Retest (R69). -/
def testAsked (h : Home) : Bool :=
  match h.entry.state, h.progress with
  | .testing, some q => decide (q.stage = .testDue)
  | .active, _ => decide (h.retest = .asked) && !h.entry.probe
  | _, _ => false

/-- The enrolment grants of one home: its span first, where none placed overlaps it, then its Test (R69). -/
def Content.enrol (m : Content) (i : HomeIdx) (h : Home) : Content :=
  let first (c : Nat) : Nat := min 3976 (max 2 (c - 10))
  let spanned : Content := match spanAsked h with
    | none => m
    | some c =>
      let overlaps (j : HomeIdx) : Bool := match m j with
        | some (.ranging s) => decide (s < first c + 26 ∧ first c < s + 26)
        | _ => false
      if (List.finRange 64).any overlaps then m else m.place 0 i (.ranging (first c))
  match testAsked h, spanned i with
  | true, some (.ranging _) => spanned
  | true, _ => spanned.place 0 i .test
  | false, _ => spanned

/-- Homes are taken one after another; what the map holds after `k` of them. -/
def Content.after (m : Content) (order : Nat → HomeIdx) (step : Content → HomeIdx → Content) : Nat → Content
  | 0 => m
  | k + 1 => step (m.after order step k) (order k)

/-- The steps of a normal round after the forced and the doze-priority polls (R67): enrolment, guaranteed parts, the
excess by weight from the rotation pointer on in whole cycles until one gives nothing, optional polls; with the new
rotation pointer. -/
def FillsNormal (homes : Vector Home 64) (p : HomeIdx) (polls m : Content) (p' : HomeIdx) : Prop :=
  let entry (i : HomeIdx) : Entry := (homes[i.val]).entry
  let backlog (i : HomeIdx) : Nat := (entry i).backlog.getD 0
  let served (i : HomeIdx) : Bool := decide ((entry i).state = .active) && !(entry i).probe
  let payload (u : Content) (i : HomeIdx) : Nat := match u i with | some (.window y) => y | _ => 0
  let ascending (k : Nat) : HomeIdx := Fin.ofNat 64 k
  let enrolled := polls.after ascending (fun u i => u.enrol i homes[i.val]) 64
  let shared := enrolled.after ascending
    (fun u i => if served i then u.pay i (min (entry i).share (backlog i)) else u) 64
  let visits (k : Nat) : Content := shared.after (fun k => p + ascending k)
    (fun u i => if served i then u.pay i (min (backlog i - payload u i) ((entry i).weight * 16)) else u) k
  ∃ cycles : Nat,
    visits (64 * cycles + 64) = visits (64 * cycles)
    ∧ (∀ c, c < cycles → visits (64 * c + 64) ≠ visits (64 * c))
    ∧ (cycles = 0 → p' = p)
    ∧ (∀ k, k < 64 * cycles → visits (k + 1) ≠ visits k →
        (∀ j, k < j → j < 64 * cycles → visits (j + 1) = visits j) → p' = p + ascending k + 1)
    ∧ m = (visits (64 * cycles)).after ascending
        (fun u i =>
          if ((entry i).state = .held ∨ (entry i).state = .active) ∧ (entry i).probe = false ∧ 0 < (entry i).balance
              ∧ u i = none then
            u.place 0 i (.window 0)
          else u) 64

/-- Every talk map the planner makes, for any home table, rotation pointer and reserved span of the two kinds. What it
holds: the forced and the doze-priority polls; in a normal round also spans and Tests asked for, guaranteed parts by g
and backlog, the excess by w from the rotation pointer on, optional polls, each step in its order and cut to the space
and the 80 grants left, and the new rotation pointer. Where it lies: at most 80 grants, at most one for each home, in
ascending order, each after 2 guard quanta of its own, none overlapping another or the reserved span, all within quanta
0..3,999; a span at its place, the rest in ascending index, each as soon as a window or span before it ends, and a
payload cut only to end at the guard of a span. So Data goes to Active homes in normal rounds, at most their backlog; a
Poll to Held and Active homes with a balance above 0; none of these to a probe-muted home, and nothing to any other. A
home whose balance stands at 8, and an Active one with a doze wish and a balance above 0, has a grant, and a reserved
round grants to no other and keeps the rotation pointer (sections 4.1, 4.2, 4.3). -/
def Obligations.TalkMapKeepsItsLaw : Prop :=
  ∀ (homes : Vector Home 64) (p : HomeIdx) (span : Option (SpanKind × Nat)),
    (span = none ∨ span = some (.quiet, 400) ∨ ∃ n, n ≤ 3238 ∧ span = some (.discovery, n)) →
    let map := (planMap homes p span).1
    let home (i : HomeIdx) : Home := homes[i.val]
    let entry (i : HomeIdx) : Entry := (home i).entry
    let first (centre : Nat) : Nat := min 3976 (max 2 (centre - 10))
    let pressing (i : HomeIdx) : Prop := (entry i).probe = false
      ∧ (((entry i).state = .held ∨ (entry i).state = .active) ∧ (entry i).balance = 8
        ∨ (entry i).state = .active ∧ (entry i).wish = some true ∧ 0 < (entry i).balance)
    map.span = span
    ∧ map.grants.length ≤ 80
    ∧ (map.grants.map (·.index)).Nodup
    ∧ map.grants.Pairwise (fun g h => g.start + g.length + 2 ≤ h.start)
    ∧ (∀ g ∈ map.grants, (span.map (·.2)).getD 0 + 2 ≤ g.start ∧ g.start + g.length ≤ 4000)
    ∧ (∀ g ∈ map.grants, g.kind = .data →
        (entry g.index).state = .active ∧ (entry g.index).probe = false ∧ span = none
        ∧ 4 ≤ g.length ∧ g.length - 3 ≤ (entry g.index).backlog.getD 0)
    ∧ (∀ g ∈ map.grants, g.kind = .poll →
        ((entry g.index).state = .held ∨ (entry g.index).state = .active) ∧ (entry g.index).probe = false
        ∧ 0 < (entry g.index).balance ∧ g.length = 3)
    ∧ (∀ g ∈ map.grants, g.kind = .test → span = none ∧ g.length = 19
        ∧ ((entry g.index).state = .testing
            ∧ (∃ q, (home g.index).progress = some q ∧ q.stage = .testDue)
          ∨ (entry g.index).state = .active ∧ (entry g.index).probe = false ∧ (home g.index).retest = .asked))
    ∧ (∀ g ∈ map.grants, g.kind = .ranging → span = none ∧ g.length = 24
        ∧ ((entry g.index).state = .ranging
            ∧ (∃ q, (home g.index).progress = some q ∧ q.stage = .spanDue ∧ g.start = first q.coarse)
          ∨ (entry g.index).state = .active ∧ (entry g.index).probe = false
            ∧ ∃ c, (home g.index).inPlace = .asked c ∧ g.start = first c))
    ∧ (∀ i : HomeIdx, pressing i → ∃ g ∈ map.grants, g.index = i)
    ∧ (span ≠ none → (∀ g ∈ map.grants, pressing g.index) ∧ (planMap homes p span).2 = p)
    ∧ (∃ m : Content,
        (span ≠ none → ∀ i, (pressing i → m i = some (.window 0)) ∧ (¬ pressing i → m i = none))
        ∧ (span = none → ∃ polls : Content,
            (∀ i, (pressing i → polls i = some (.window 0)) ∧ (¬ pressing i → polls i = none))
            ∧ FillsNormal homes p polls m (planMap homes p span).2)
        ∧ (∀ i, m i = none → ∀ g ∈ map.grants, g.index ≠ i)
        ∧ (∀ i c, m i = some c → ∃ g ∈ map.grants, g.index = i
          ∧ match c with
            | .test => g.kind = .test
            | .ranging s => g.kind = .ranging ∧ g.start = s
            | .window x =>
              g.kind = (if x = 0 then .poll else .data) ∧ g.length ≤ 3 + x
              ∧ (g.length < 3 + x →
                  3 < g.length ∧ ∃ r ∈ map.grants, r.kind = .ranging ∧ g.start + g.length + 2 = r.start)))
    ∧ map.grants.Pairwise (fun g h => g.kind = .ranging ∨ h.kind = .ranging ∨ g.index < h.index)
    ∧ (∀ g ∈ map.grants, g.kind ≠ .ranging →
        g.start = (span.map (·.2)).getD 0 + 2 ∨ ∃ h ∈ map.grants, g.start = h.start + h.length + 2)

/-- IDLE_FILL_END and the boundaries of an Unset part: the first map after Setup or a tree restart is built, with tick
phase 0, once the idle-fill headers have been sent: it is the map that ROUND_BOUNDARY builds, into the header that is
open or at the boundary that opens then; while Unset every boundary sends an idle-fill header with the round counter's
value, which stays, and only the frames and the age of a Declared silence move beside it (sections 4.6, 5.1, 11.3). The
model's readings: the event builds the map of a header that is open, or opens the boundary itself (DESIGN CHOICE, log
5), and changes nothing before it is due (DEDUCED, log 4). -/
def Obligations.IdleFillEndsWithFirstMap : Prop :=
  ∀ s : State,
    (s.setup.isSome → s.clock.firstMap = true → s.clock.headerOpen = true →
      exec .idleFillEnd s = exec (.roundBoundary .map) s)
    ∧ (s.setup.isSome → s.clock.firstMap = true → s.clock.headerOpen = false → s.clock.idleLeft = 0 →
      exec .idleFillEnd s = exec (.roundBoundary .whole) s)
    ∧ (s.setup.isSome → s.clock.firstMap = true → s.clock.headerOpen = true ∨ s.clock.idleLeft = 0 →
      ∃ t map, exec .idleFillEnd s = .next t ∧ t.clock.firstMap = false ∧ t.clock.headerOpen = false
        ∧ t.planner.phase = 0
        ∧ (t.framer.header.map fun h => (h.round, h.idleFill, h.map))
            = some (if s.clock.headerOpen then s.clock.round else s.clock.round + 1, false, some map))
    ∧ (s.setup = none ∨ s.clock.firstMap = false ∨ s.clock.headerOpen = false ∧ s.clock.idleLeft ≠ 0 →
      exec .idleFillEnd s = .next s)
    ∧ (s.setup = none → ∃ t, exec (.roundBoundary .opening) s = .next t
      ∧ t.framer = { s.framer with
          header := some { round := s.clock.round, idleFill := true, dark := s.darkSet, map := none, directives := [] }
          silenceAge := if s.framer.silence then s.framer.silenceAge + 1 else s.framer.silenceAge
          sending := if s.framer.sending = none then s.framer.waiting else s.framer.sending
          waiting := if s.framer.sending = none then none else s.framer.waiting }
      ∧ t = { s with framer := t.framer })

/-- DISCOVERY_DUE: in the round the timer names, the span is offered, or skipped and counted under isolation, at 4
enrolling entries, or with no Vacant entry and every Retired one's tag barred; the due round advances by P either way.
In any other round, or with no header open, nothing changes (section 2.1; log 4). -/
def Obligations.DiscoveryIsOfferedOrSkipped : Prop :=
  ∀ (s : State) (p : Params), s.setup = some p →
    (s.clock.headerOpen = false ∨ s.clock.round ≠ s.enrol.due → exec .discoveryDue s = .next s)
    ∧ (s.clock.headerOpen = true → s.clock.round = s.enrol.due →
      let full := (∀ i, (s.entry i).state ≠ .vacant)
        ∧ ∀ i, (s.entry i).state = .retired → s.barred (s.entry i).tagVal = true
      let skip := s.probing = true ∨ 4 ≤ s.enrollingCount ∨ full
      (skip → ∃ t, exec .discoveryDue s = .next t ∧ s.Gained t [.enrolDeferred]
        ∧ t = { s with enrol := { due := s.clock.round + BitVec.ofNat 40 p.period, offered := false }
                       counters := t.counters })
      ∧ (¬ skip → exec .discoveryDue s = .next
          { s with enrol := { due := s.clock.round + BitVec.ofNat 40 p.period, offered := true } }))

/-- APPROVAL_TIMEOUT and CLAIM_WINDOW_EXPIRY: a Held entry whose clock stands at 4,000 departs, as Lost where a record
keeps it, with a Leave to its index and, after the messages of the move, an EnrollFailed with the reason NO_APPROVAL; a
Pending claim whose window stands at 0 becomes Confirmed and the window closes. Before that nothing changes (sections
2.6, 2.7, 3.1, 7.6, 7.7; log 4). The order of the messages is log 14 (DESIGN CHOICE), and the round and steps of an
Unresolved outcome among them are log 11 (DEDUCED). -/
def Obligations.WaitsOfHomesEndWhenDue : Prop :=
  ∀ (s : State) (i : HomeIdx),
    (∀ p, (s.entry i).state = .held → (s.home i).progress = some p → p.clock = some 4000 →
      ∃ t, exec (.approvalTimeout i) s = .next t ∧ s.Departs t i .lost (some (.leaveIndex i)) ∧ t.bars = s.bars
        ∧ t.waited = s.waited
        ∧ t.bus = s.bus.offered (s.partingMessages i s.clock.round
            ++ [(Notice.enrollFailed i (s.entry i).tagVal .noApproval).message s.reportStation]))
    ∧ ((s.entry i).state ≠ .held ∨ (∀ p, (s.home i).progress = some p → p.clock ≠ some 4000) →
      exec (.approvalTimeout i) s = .next s)
    ∧ ((s.home i).window = some 0 → (s.entry i).claim = some .pending →
      ∃ t, exec (.claimWindowExpiry i) s = .next t ∧ t = { s with homes := t.homes }
        ∧ t.home i = { s.home i with entry := { s.entry i with claim := some .confirmed }, window := none }
        ∧ ∀ j, j ≠ i → t.home j = s.home j)
    ∧ ((s.home i).window ≠ some 0 ∨ (s.entry i).claim ≠ some .pending →
      exec (.claimWindowExpiry i) s = .next s)

/-! ### The feeder and the traffic port -/

/-- TRANSMIT_SILENCE_DECLARED and TRANSMIT_SILENCE_CLEAR: bit periods without a transition lengthen the run up to 128,
where a Clear check becomes Declared, is counted, and offers its notice; a transition sets the run to 0, and a Declared
check becomes Clear with a notice of the boundaries it lasted (section 4.7). -/
def Obligations.DriveCheckDeclaresAndClears : Prop :=
  ∀ (s : State) (n : Nat),
    let told (declared : Bool) (length : Nat) : List OutMsg :=
      [(Notice.transmitSilent declared s.clock.round length).message s.reportStation]
    let noticed := if s.bus.outbox.length < 16 then Counter.noticesQueued else .noticeDropped
    (s.framer.run + n < 128 ∨ s.framer.silence = true →
      exec (.transmitSilenceDeclared n) s
        = .next { s with framer := { s.framer with run := min 128 (s.framer.run + n) } })
    ∧ (128 ≤ s.framer.run + n → s.framer.silence = false →
      ∃ t, exec (.transmitSilenceDeclared n) s = .next t ∧ s.Gained t [.transmitSilence, noticed]
        ∧ t = { s with framer := { s.framer with run := 128, silence := true, silenceAge := 0 }
                       bus := s.bus.offered (told true 0), counters := t.counters })
    ∧ (s.framer.silence = false →
      exec .transmitSilenceClear s = .next { s with framer := { s.framer with run := 0, silenceAge := 0 } })
    ∧ (s.framer.silence = true →
      ∃ t, exec .transmitSilenceClear s = .next t ∧ s.Gained t [noticed]
        ∧ t = { s with framer := { s.framer with run := 0, silence := false, silenceAge := 0 }
                       bus := s.bus.offered (told false s.framer.silenceAge), counters := t.counters })

/-- DOWNSTREAM_FRAME and DOWNSTREAM_FRAME_SENT: with a frame waiting the port takes nothing; a malformed frame is
counted; a frame for a home that is Active or Dozing is delivered and billed to the current band of its Live record; one
for any other entry is discarded and counted. When the frame being sent is done, a waiting frame starts where it ends
before the next boundary, unless a tree restart's first idle-fill header is still to come, and waits on otherwise.
Nothing else changes. On the feeder and at the port a frame is its index, its length and its bytes (sections 4.5, 8.1,
8.2, 8.3, 12.2, 12.3; `room` is log 22). -/
def Obligations.DownstreamFramesAreDeliveredInTurn : Prop :=
  (∀ f : Frame, LaidOut f.line [(0, 1, f.index.val), (1, 2, f.bytes.length)] ∧ f.line.drop 3 = f.bytes
    ∧ f.lineBytes = f.line.length)
  ∧ ∀ (s : State) (index : Byte) (bytes : List Byte) (room : Nat),
    let c := Instr.downstreamFrame index bytes room
    let malformed := 63 < index.toNat ∨ bytes.length < 64 ∨ 2000 < bytes.length
    (s.framer.waiting.isSome → exec c s = .next s)
    ∧ (s.framer.waiting = none → malformed → ∃ t, exec c s = .next t
      ∧ t = { s with counters := t.counters } ∧ s.Gained t [.trafficMalformed])
    ∧ (∀ i : HomeIdx, s.framer.waiting = none → ¬ malformed → index.toNat = i.val →
      ((s.entry i).state ≠ .active → (s.entry i).state ≠ .dozing → ∃ t, exec c s = .next t
        ∧ t = { s with counters := t.counters } ∧ s.Gained t [.undeliverableFrame])
      ∧ (∀ r band, (s.entry i).state = .active ∨ (s.entry i).state = .dozing → s.liveRecord i = some r →
        s.currentBand = some band →
        let count := r.down[band.val] + bytes.length
        let top := 2 ^ 40 - 1
        ∃ t, exec c s = .next t
          ∧ t.framer =
              (if s.framer.sending = none ∧ s.clock.headerOpen = false ∧ bytes.length + 3 ≤ room then
                { s.framer with sending := some { index := i, bytes } }
              else { s.framer with waiting := some { index := i, bytes } })
          ∧ t.liveRecord i = some
              { r with
                down := r.down.set band.val (min count top) band.isLt
                flags := { r.flags with saturated := r.flags.saturated || decide (top < count) } }
          ∧ (∀ j, j ≠ i → t.liveRecord j = s.liveRecord j)
          ∧ s.Gained t (if top < count then [.counterSaturated] else [])
          ∧ t = { s with framer := t.framer, banks := { s.banks with live := t.banks.live }, counters := t.counters }))
    ∧ (s.framer.sending = none → exec (.downstreamFrameSent room) s = .next s)
    ∧ (s.framer.sending.isSome →
      exec (.downstreamFrameSent room) s = .next
        { s with
          framer :=
            match s.framer.waiting with
            | some f =>
              if f.bytes.length + 3 ≤ room ∧ s.clock.idleLeft ≠ 8 then
                { s.framer with sending := some f, waiting := none }
              else { s.framer with sending := none }
            | none => { s.framer with sending := none } })

/-! ### Upstream -/

/-- DISCOVERY_BURST, a good burst in the discovery span of the round arriving: a negative round trip is a collision;
then a barred tag is ignored; a held tag is a duplicate, with a notice; a Retired holder is revived at its own index and
a new tag gets the lowest Vacant entry, where fewer than 4 enrol; otherwise it is refused. Each is counted. A burst of a
span cut off by a tree restart is discarded. A burst that is not good, that does not end within the span, or that comes
in a round without a discovery span changes nothing (sections 1.3, 2.1, 2.2, 2.3, 12.3; that the burst's four quanta
must lie in the span is log 18, DEDUCED). -/
def Obligations.DiscoveryBurstIsDecided : Prop :=
  (∀ (s : State) (arrival : Nat) (body : List Byte),
    (∀ e x length, s.rx.arriving = some e → e.map = some x → x.span ≠ some (.discovery, length))
      ∨ (if s.straps.reach = .long then 3238 else 1638) < arrival + 4
      ∨ (crcBytes (body.take 9)).toNat ≠ field body 9 2 →
    exec (.discoveryBurst arrival body) s = .next s)
  ∧ ∀ (s : State) (arrival : Nat) (body : List Byte) (e : RoundExp) (x : Expectation) (length : Nat),
    s.rx.arriving = some e → e.map = some x → x.span = some (.discovery, length) →
    arrival + 4 ≤ (if s.straps.reach = .long then 3238 else 1638) →
    (crcBytes (body.take 9)).toNat = field body 9 2 →
    let c := Instr.discoveryBurst arrival body
    let tag := tagAt body 0
    let rx : Receiver := { s.rx with arriving := some { e with spanGood := true } }
    let counts (k : Counter) : Prop :=
      ∃ t, exec c s = .next t ∧ t = { s with rx, counters := t.counters } ∧ s.Gained t [k]
    let passes := e.cutOff = false ∧ byteAt body 8 ≤ arrival ∧ s.barred tag = false
    let accepts (i : HomeIdx) : Prop :=
      ∃ t, exec c s = .next t
        ∧ t.home i =
            { Home.vacant with
              entry := { Entry.vacant with state := .ranging, tag := some tag }
              progress := some
                { coarse := arrival - byteAt body 8, tries := 0, tests := 0, stage := .awaitingAssign, clock := none
                  waiting := if s.framer.queue.length < 32 then none else some (.assign tag i) } }
        ∧ (∀ j, j ≠ i → t.home j = s.home j)
        ∧ t = { s with rx, homes := t.homes, framer := { s.framer with queue := joined s.framer.queue (.assign tag i) }
                       counters := t.counters }
        ∧ s.Gained t (if s.framer.queue.length < 32 then [] else [.directiveWait])
    (e.cutOff = true → exec c s = .next { s with rx })
    ∧ (e.cutOff = false → arrival < byteAt body 8 → counts .discoveryCollision)
    ∧ (e.cutOff = false → byteAt body 8 ≤ arrival → s.barred tag = true → counts .barredAttempts)
    ∧ (passes → ∀ i, s.Finds tag i → (s.entry i).state ≠ .retired →
        ∃ t, exec c s = .next t
          ∧ t = { s with rx, counters := t.counters
                         bus := s.bus.offered
                          [(Notice.duplicateTag tag i (s.entry i).state 31 255).message s.reportStation] }
          ∧ s.Gained t
              [.localDuplicate, if s.bus.outbox.length < 16 then .noticesQueued else .noticeDropped])
    ∧ (passes → ∀ i, s.Finds tag i → (s.entry i).state = .retired →
        (s.enrollingCount < 4 → accepts i) ∧ (4 ≤ s.enrollingCount → counts .discoveryRefused))
    ∧ (passes → s.NotHeld tag →
        (∀ i, s.enrollingCount < 4 → (s.entry i).state = .vacant → (∀ j, j < i → (s.entry j).state ≠ .vacant) →
          accepts i)
        ∧ (4 ≤ s.enrollingCount ∨ (∀ i, (s.entry i).state ≠ .vacant) → counts .discoveryRefused))

/-- ROUND_CLOSE takes the oldest round that has arrived and discards its expectation. A mapped round's window verdicts
and misses come first, then the discovery span's, then the round verdict, then the correction markers of the round
before are cleared and the bursts and outcomes are taken in the order of their windows, then Lit neighbours are
attributed, and the stray count, verdict and kind are handed to the rogue monitor; an unmapped round is handed with
every Lit quantum. A blank round is counted, adds to the streak up to 8 unless transmit silence is Declared, and raises
no miss count; the streak that reaches 8 declares feeder loss, which is counted and told; a lit round clears the streak
and the feeder loss, with a notice of the boundaries the loss lasted. A Lit neighbour is counted, and brings its home a
gain, in a round with no Lit core quantum and no overlap; no gain is made under a quiet span or while Probing. A decay
that was held back stands after the gain that its home waits for, or after all. With no round to close nothing changes,
and a close leaves the round counter, the planner, the discovery timer, the ring, Setup and the inbox alone (sections
5.3, 5.4, 6.1, 6.4, 6.6, 6.7, 7.8). The model's choices: the list of rounds that wait (log 24), the place of a fourth
miss that the operand puts later (log 8), that gains are decided by the entries as the close begins (log 31), the
held-back decays (log 32), and the order of outcomes and neighbours among homes (log 36). -/
def Obligations.RoundCloseTakesOldestRound : Prop :=
  (∀ (u : State) (round : Round),
    let noticed := if u.bus.outbox.length < 16 then Counter.noticesQueued else .noticeDropped
    let told (n : Notice) : Bus := u.bus.offered [n.message u.reportStation]
    let lit := u.applyVerdict .lit round
    let blank := u.applyVerdict .blank round
    let declares := u.framer.silence = false ∧ 7 ≤ u.light.streak ∧ u.light.loss = false
    u.applyVerdict .neither round = u
    ∧ (u.light.loss = false → lit = { u with light := { streak := 0, loss := false, lossAge := 0 } })
    ∧ (u.light.loss = true →
        lit = { u with light := { streak := 0, loss := false, lossAge := 0 }, counters := lit.counters
                       bus := told (.feederLoss false round u.light.lossAge) }
        ∧ u.Gained lit [noticed])
    ∧ (declares →
        blank = { u with light := { streak := 8, loss := true, lossAge := 0 }, counters := blank.counters
                         bus := told (.feederLoss true round 0) }
        ∧ u.Gained blank [.blankRound, .feederLoss, noticed])
    ∧ (¬ declares →
        blank = { u with
          light := { u.light with streak := if u.framer.silence then u.light.streak else min (u.light.streak + 1) 8 }
          counters := blank.counters }
        ∧ u.Gained blank [.blankRound]))
  ∧ ∀ (s : State) (o : RoundObs),
    (s.rx.closing = [] ∨ s.setup = none → exec (.roundClose o) s = .next s)
    ∧ ∀ e rest p, s.rx.closing = e :: rest → s.setup = some p →
      let taken : State := { s with rx := { s.rx with closing := rest }, toSwitch := [] }
      let cleared (u : State) : State := { u with
        homes := u.homes.map fun h => if h.marker = .sent (e.round - 1) then { h with marker := .clear } else h }
      ∃ t, exec (.roundClose o) s = .next t
        ∧ t.rx = { s.rx with closing := rest } ∧ t.clock = s.clock ∧ t.planner = s.planner ∧ t.enrol = s.enrol
        ∧ t.ring = s.ring ∧ t.setup = s.setup ∧ t.straps = s.straps ∧ t.bus.inbox = s.bus.inbox
        ∧ t.framer.header = s.framer.header ∧ t.framer.silence = s.framer.silence
        ∧ (e.map = none →
            t = (decaysTaken (cleared taken)).takeRound e.round o.lit.length .neither .unmapped
            ∧ t.light = s.light ∧ t.toSwitch = [] ∧ t.banks.other = s.banks.other)
        ∧ ∀ x, e.map = some x →
          let litWindow (w : Window) : Bool := o.lit.any fun q => decide (w.start ≤ q ∧ q < w.start + w.length)
          let lit := x.windows.any litWindow
          let granted := x.windows.any fun w =>
            w.purpose == .data || w.purpose == .poll || w.purpose == .enrolTest || w.purpose == .retest
          let verdict : RoundVerdict := if lit then .lit else if granted then .blank else .neither
          let kind : RoundKind := match x.span with
            | none => .normal
            | some (.discovery, _) => .discovery
            | some (.quiet, _) => .quiet
          let gains := decide (kind ≠ .quiet) && !s.probing
          let fourth (w : Window) : Bool :=
            w.isWindow && (decide ((s.entry w.index).state = .held) || decide ((s.entry w.index).state = .active))
              && !(s.entry w.index).probe && decide ((s.entry w.index).miss = 3) && !litWindow w
              && decide (verdict ≠ .blank) && !s.framer.silence
          let late (w : Window) : Bool := fourth w && o.lossAfterGains.contains w.index
          let last (w : Window) : Bool := fourth w && !late w && o.lossAfterHand.contains w.index
          let byIndex := (List.finRange 64).flatMap fun i => x.windows.filter fun w => decide (w.index = i)
          let judged (l : List Window) (u : State) : State :=
            l.foldl (fun u w => u.applyWindow o (decide (verdict = .blank)) e.round w) u
          let discovery := match x.span with | some (.discovery, n) => n | _ => 0
          let collided (u : State) : State :=
            if e.spanGood = false ∧ o.lit.any (fun q => decide (q < discovery)) = true then u.bump .discoveryCollision
            else u
          let charged (w : Window) : Bool :=
            gains && decide ((s.entry w.index).tag = w.tag) && !(s.entry w.index).probe
              && (decide ((s.entry w.index).state = .held) || decide ((s.entry w.index).state = .active)
                || decide ((s.entry w.index).state = .dozing))
          let attributed (w : Window) (c : Counter) (u : State) : State :=
            if charged w = true ∧ (u.entry w.index).tag = w.tag then
              ((u.bump c).gain p w.index e.round).decayInTurn w.index
            else u.bump c
          let beside (u : State) (w : Window) : State :=
            let u := if w.earlyLit o then attributed w .earlyLight u else u
            if w.lateLit o then attributed w .overrunLight u else u
          let u1 := (collided (judged (byIndex.filter fun w => !late w && !last w) taken)).applyVerdict verdict e.round
          let u2 := x.windows.foldl (fun u w => u.applyBurst p gains o e.round w) (cleared u1)
          let u3 := x.windows.foldl (fun u w => u.takeOutcome p o e.round w) u2
          let u4 := decaysTaken (if x.litCore o = 0 ∧ x.overlapCount o = 0 then x.windows.foldl beside u3 else u3)
          let u5 := (judged (byIndex.filter late) u4).takeRound e.round (x.stray o) verdict kind
          t = judged (byIndex.filter last) u5
          ∧ (lit = true → t.light = { streak := 0, loss := false, lossAge := 0 }
            ∧ t.counter .blankRound = s.counter .blankRound)
          ∧ (lit = false → granted = false → t.light = s.light)
          ∧ (lit = false → granted = true →
              t.counter .blankRound = min (s.counter .blankRound + 1) counterMax
              ∧ t.light.streak = (if s.framer.silence then s.light.streak else min (s.light.streak + 1) 8)
              ∧ (t.light.loss = true ↔ s.light.loss = true ∨ s.framer.silence = false ∧ 7 ≤ s.light.streak)
              ∧ ∀ i, (t.entry i).miss ≤ (s.entry i).miss)

/-- One window verdict in a round that is not blank, with transmit silence Clear, for a Testing, Held or Active entry
that is not probe-muted: light clears the miss count, darkness adds a miss, and the fourth miss takes an Active home off
with a Leave and a HomeLost notice of index, tag and round, and ends a Held home's enrolment without a Leave and with an
EnrollFailed of reason LOST, each after the messages of the move: the TestResult Cancelled of a pending retest, and the
Unresolved outcome of an isolation that loses its last candidate. Entries in other states are left alone (sections 2.6,
2.7, 5.3, 7.6, 7.7). The order of the messages is log 14 (DESIGN CHOICE), the round of HomeLost log 12 (DEDUCED), and
the round and steps of that outcome log 11 (DEDUCED). -/
def Obligations.FourthMissTakesHomeOff : Prop :=
  ∀ (s : State) (o : RoundObs) (round : Round) (w : Window), w.isWindow = true →
    let i := w.index
    let e := s.entry i
    let t := s.applyWindow o false round w
    let counted := (e.state = .testing ∨ e.state = .held ∨ e.state = .active) ∧ e.probe = false
    let withMiss (n : Nat) : State := s.modEntry i fun e => { e with miss := n }
    (¬ counted → t = s)
    ∧ (counted → w.litIn o = true → t = withMiss 0)
    ∧ (counted → w.litIn o = false → s.framer.silence = true → t = s)
    ∧ (counted → w.litIn o = false → s.framer.silence = false →
      (e.miss < 3 → t = withMiss (e.miss + 1))
      ∧ (e.miss = 3 → e.state = .testing → t = withMiss 4)
      ∧ (e.miss = 3 → e.state = .active →
          (withMiss 4).Departs t i .lost (some (.leaveIndex i)) ∧ t.bars = s.bars ∧ t.waited = s.waited
          ∧ t.counter .homeLost = min (s.counter .homeLost + 1) counterMax
          ∧ t.bus = s.bus.offered
              (s.partingMessages i round ++ [(Notice.homeLost i e.tagVal round).message s.reportStation]))
      ∧ (e.miss = 3 → e.state = .held →
          (withMiss 4).Departs t i .lost none ∧ t.bars = s.bars ∧ t.waited = s.waited
          ∧ t.bus = s.bus.offered
              (s.partingMessages i round ++ [(Notice.enrollFailed i e.tagVal .lost).message s.reportStation])))

/-- The outcomes of spans and tests. R_f is the place of the first good burst of the span, with the home's tag, less 16.
In enrolment, R_f within reach makes the entry Testing with the D that brings its bursts to the target; a Set delay is
offered, makes the marker queued, and waits where the queue is full. Beyond reach the entry departs; no burst is a
failed try, and so is a misaligned test, which makes the entry Ranging again; the third departs. A test that passes
makes the entry Held with the burst's level and a clock of 0; a failed one is repeated once, and the second departs. The
outcome of a span or test for which the entry does not wait, because its state, its tag or its stage is another, or
because the span it waits for lies in another round, is discarded. Each departure raises EnrollFailed with its reason,
OUT_OF_REACH, NO_RANGE or POOR_LINK, after the messages of the move (their order: log 14, DESIGN CHOICE; the round and
steps of an Unresolved outcome among them: log 11, DEDUCED). A test is Dark with no light, Garbled without a decoded
burst, Misaligned from an offset of 3, and else Pass or Fail by its bit errors against the check sequence. A Retest
still pending ends with its TestResult notice and nothing more. A span for ranging in place brings the D of its burst, 0
beyond reach, or is counted as failed; a full queue drops its Set delay, counts it and keeps D. Each purpose takes its
own outcome (sections 2.3, 2.4, 2.5, 2.6, 2.7, 4.5, 6.4, 12.3). The model's readings: the outcome in place needs the
window's tag (DEDUCED, log 17), a ranging burst's delimiter lies in its span (DEDUCED, log 18), a burst that is not
decoded is Garbled whatever its offset (DEDUCED, log 19), and payload bytes that the operand does not list read as 0
(DESIGN CHOICE, log 21). -/
def Obligations.EnrolmentFollowsItsOutcomes : Prop :=
  (checkSequence.length = 2048 ∧ (∀ k, k < 11 → checkSequence[k]? = some true)
    ∧ ∀ k, k + 11 < 2048 →
      checkSequence.getD (k + 11) false = (checkSequence.getD k false != checkSequence.getD (k + 2) false))
  ∧ (∀ payload : List Byte,
    bitErrors payload = (List.range 2048).countP fun k =>
      checkSequence.getD k false != (payload.getD (k / 8) 0).getLsbD (7 - k % 8))
  ∧ (∀ (w : Window) (o : RoundObs),
    let bursts := o.spans.flatMap fun r => if r.index = w.index then r.bursts else []
    let good (b : Nat × List Byte) : Prop :=
      16 * w.start ≤ b.1 ∧ b.1 < 16 * (w.start + w.length)
        ∧ (crcBytes (b.2.take 9)).toNat = field b.2 9 2 ∧ some (tagAt b.2 0) = w.tag
    (w.fineTrip o = none ↔ ∀ b ∈ bursts, ¬ good b)
    ∧ ∀ before b later, bursts = before ++ b :: later → (∀ c ∈ before, ¬ good c) → good b →
        w.fineTrip o = some (b.1 - 16))
  ∧ ∀ (s : State) (p : Params) (w : Window) (o : RoundObs) (round : Round),
    let i := w.index
    let result := w.testOutcome o p.errMax
    let failed (t : State) (why : EnrolReason) : Prop :=
      t.bus = s.bus.offered
        (s.partingMessages i round ++ [(Notice.enrollFailed i (s.entry i).tagVal why).message s.reportStation])
    let waits (st : EState) (stage : Stage) : Prop :=
      (s.entry i).state = st ∧ (s.entry i).tag = w.tag ∧ ∃ q, (s.home i).progress = some q ∧ q.stage = stage
    s.target = (if s.straps.reach = .long then 52224 else 26624)
    ∧ (¬ waits .ranging (.spanOutstanding round) → s.rangingOutcome w o round = s)
    ∧ (¬ waits .testing (.testOutstanding round) → s.enrolTestOutcome p w o round = s)
    ∧ (∀ q, (s.home i).progress = some q → (s.entry i).tag = w.tag →
      ((s.entry i).state = .ranging → q.stage = .spanOutstanding round →
        let t := s.rangingOutcome w o round
        (∀ rf, w.fineTrip o = some rf → rf ≤ s.target →
          t.home i = { s.home i with
              entry := { s.entry i with state := .testing, delay := some (s.target - rf), level := some 128 }
              progress := some { q with
                coarse := rf / 16, tests := 0, stage := .awaitingSetDelay
                waiting := if s.framer.queue.length < 32 then q.waiting else some (.setDelay i (s.target - rf)) }
              marker := if s.framer.queue.length < 32 then .queued else (s.home i).marker }
          ∧ t.framer = { s.framer with queue := joined s.framer.queue (.setDelay i (s.target - rf)) })
        ∧ (∀ rf, w.fineTrip o = some rf → s.target < rf →
            s.Departs t i .lost (some (.leaveTag (s.entry i).tagVal)) ∧ failed t .outOfReach)
        ∧ (w.fineTrip o = none → q.tries < 2 →
            t.home i = { s.home i with progress := some { q with tries := q.tries + 1, stage := .spanDue } })
        ∧ (w.fineTrip o = none → 2 ≤ q.tries →
            s.Departs t i .lost (some (.leaveTag (s.entry i).tagVal)) ∧ failed t .noRange))
      ∧ ((s.entry i).state = .testing → q.stage = .testOutstanding round →
        let t := s.enrolTestOutcome p w o round
        (∀ errors level offset, result = .pass errors level offset →
          t.home i = { s.home i with
            entry := { s.entry i with state := .held, level := some level }
            progress := some { q with stage := .waitingApproval, clock := some 0 } }
          ∧ t.bus = s.bus.offered
            [(Notice.offer i (s.entry i).tagVal (s.target - (s.entry i).delay.getD 0) level errors).message
              s.reportStation])
        ∧ (∀ level offset, result = .misaligned level offset → q.tries < 2 →
            t.home i = { s.home i with
              entry := { s.entry i with state := .ranging, delay := none, level := none }
              progress := some { q with tries := q.tries + 1, stage := .spanDue } })
        ∧ (∀ level offset, result = .misaligned level offset → 2 ≤ q.tries →
            (s.modEntry i fun e => { e with state := .ranging, delay := none, level := none }).Departs t i .lost
              (some (.leaveTag (s.entry i).tagVal))
            ∧ failed t .noRange)
        ∧ ((∀ e l f, result ≠ .pass e l f) → (∀ l f, result ≠ .misaligned l f) →
            (q.tests = 0 →
              t.home i = { s.home i with progress := some { q with tests := 1, stage := .testDue } })
            ∧ (1 ≤ q.tests → s.Departs t i .lost (some (.leaveIndex i)) ∧ failed t .poorLink))))
    ∧ (w.litIn o = false → result = .dark)
    ∧ (w.litIn o = true → w.decoded o = none → result = .garbled)
    ∧ (∀ b f, w.litIn o = true → w.decoded o = some (b, f) → result =
        if 3 ≤ f.natAbs then .misaligned b.level.toNat f
        else if bitErrors b.payload ≤ p.errMax then .pass (bitErrors b.payload) b.level.toNat f
        else .fail (bitErrors b.payload) b.level.toNat f)
    ∧ ((s.home i).retest ≠ .placed round → s.retestOutcome p w o round = s)
    ∧ ((s.home i).retest = .placed round →
        let t := s.retestOutcome p w o round
        t.home i = { s.home i with retest := .idle } ∧ (∀ j, j ≠ i → t.home j = s.home j)
        ∧ t = { s with
            homes := t.homes, counters := t.counters
            bus := s.bus.offered [(Notice.testResult i (s.entry i).tagVal result).message s.reportStation] }
        ∧ s.Gained t [if s.bus.outbox.length < 16 then .noticesQueued else .noticeDropped])
    ∧ ((s.home i).inPlace ≠ .placed round ∨ (s.entry i).tag ≠ w.tag → s.inPlaceOutcome w o round = s)
    ∧ ((s.home i).inPlace = .placed round → (s.entry i).tag = w.tag →
        let t := s.inPlaceOutcome w o round
        let room := decide (s.framer.queue.length < 32)
        (∀ j, j ≠ i → t.home j = s.home j)
        ∧ (w.fineTrip o = none →
            t.home i = { s.home i with inPlace := .idle } ∧ s.Gained t [.reRangeFailed]
            ∧ t = { s with homes := t.homes, counters := t.counters })
        ∧ ∀ rf, w.fineTrip o = some rf →
            t.home i = { s.home i with
              inPlace := .idle
              entry := if room then { s.entry i with delay := some (s.target - rf) } else s.entry i
              marker := if room then .queued else (s.home i).marker }
            ∧ s.Gained t ((if s.target < rf then [.outOfReach] else []) ++ if room then [] else [.driftDropped])
            ∧ t = { s with
                homes := t.homes, counters := t.counters
                framer := { s.framer with queue := joined s.framer.queue (.setDelay i (s.target - rf)) } })
    ∧ s.takeOutcome p o round w =
        match w.purpose with
        | .enrolRanging => s.rangingOutcome w o round
        | .inPlaceRanging => s.inPlaceOutcome w o round
        | .enrolTest => s.enrolTestOutcome p w o round
        | .retest => s.retestOutcome p w o round
        | .data | .poll => s

/-- A burst of a round that closes. It is decoded where its window is lit, its delimiter is found within 31 of its place
and its header is good. A lit window without a decoded burst is garbled, and an overlap, a level more than 12 above the
preset, is counted. A decoded burst acts by the table of section 6.3: an Active home's backlog, payload, doze wish,
offset and level; a Dozing one's without the wish; a Held, Muted or retested one's offset and level; a Testing one's
nothing here; any other, and one for another tag, is stale. An offset of 3 or more, with no correction in flight,
corrects the delay, or asks for ranging in place; from 8 it brings a gain, after which a decay that waits for it is
taken, and a score that reaches M_lim mutes. The level follows a burst within 12 of the preset. A doze wish with b at
most 0 dozes the home for 9 I rounds where the queue has room. A Data payload's frames go to the switch and its length
is billed upward: frames of 64..2,000 bytes are found as they are, up to fill, and a length out of range or past the
payload ends them and is counted (sections 2.6, 5.2, 6.3, 6.4, 6.5, 6.6, 7.8, 8.3, 12.3). The order of the parts of one
burst is log 35 (DESIGN CHOICE), that of a mute's messages log 14 (DESIGN CHOICE; an Unresolved outcome among them: log
11, DEDUCED). A Muted home's stale count beside its offset and level is log 30 (DEDUCED), its count where the header's
length is above 0 is log 38 (DESIGN CHOICE), held-back decays are log 32 (DESIGN CHOICE), the bytes an operand does not
list read as 0 (DESIGN CHOICE, log 21), and an addition of 0 bytes at the top of a counter is log 34 (DEDUCED). -/
def Obligations.DecodedBurstReportsForItsHome : Prop :=
  (∀ (w : Window) (o : RoundObs),
    let levelled := w.purpose = .data ∨ w.purpose = .poll ∨ w.purpose = .retest
    let at_ (b : BurstObs) (f : Int) : Prop :=
      (∃ q ∈ o.lit, w.start ≤ q ∧ q < w.start + w.length) ∧ (o.windows.find? fun b => b.index == w.index) = some b
        ∧ (∃ d, b.delimiter = some d ∧ f = (d : Int) - (16 * w.start + 16 : Nat)) ∧ -31 ≤ f ∧ f ≤ 31
    let good (b : BurstObs) : Prop :=
      (crcBytes (b.header.take 6)).toNat = field b.header 6 2 ∧ byteAt b.header 0 % 64 = w.index.val
        ∧ (w.purpose = .data → field b.header 2 2 ≤ 16 * w.payload) ∧ (w.purpose = .poll → field b.header 2 2 = 0)
    (∀ b f, w.decoded o = some (b, f) ↔ at_ b f ∧ good b)
    ∧ (w.overlaps o = true ↔ levelled ∧ ∃ b f, at_ b f ∧ w.preset + 12 < b.level.toNat))
  ∧ (∀ (s : State) (p : Params) (gains : Bool) (o : RoundObs) (round : Round) (w : Window),
    (w.isWindow = false ∨ w.litIn o = false → s.applyBurst p gains o round w = s)
    ∧ (w.isWindow = true → w.litIn o = true →
        let u := if w.overlaps o then s.bump .overlap else s
        s.applyBurst p gains o round w =
          match w.decoded o with
          | none => u.bump .garbledBurst
          | some b => u.applyDecoded p gains round w b.1 b.2))
  ∧ (∀ (s : State) (p : Params) (gains : Bool) (round : Round) (w : Window) (b : BurstObs) (o : Int),
    let i := w.index
    let e := s.entry i
    let t := s.applyDecoded p gains round w b o
    let reports := w.purpose = .data ∨ w.purpose = .poll
    let line (u : State) : State := (u.applyOffset p gains round i o).learnLevel w b.level.toNat
    let reported : State :=
      (s.modEntry i fun e => { e with backlog := some (field b.header 4 2) }).handPayload w b
    let stale := s.bump .staleBurst
    (e.tag ≠ w.tag → t = stale)
    ∧ (e.tag = w.tag →
      (e.state = .active → reports → t = line (reported.applyWish p i ((byteAt b.header 1).testBit 0)))
      ∧ (e.state = .active → w.purpose = .retest → t = line s)
      ∧ (e.state = .dozing → reports → t = line reported)
      ∧ (e.state = .held → w.purpose = .poll → t = line s)
      ∧ (e.state = .muted → w.purpose ≠ .enrolTest →
          t = line (if 0 < field b.header 2 2 then stale else s))
      ∧ (e.state = .testing → w.purpose = .enrolTest → t = s)
      ∧ (e.state = .vacant ∨ e.state = .ranging ∨ e.state = .retired → t = stale)
      ∧ (e.state = .dozing → ¬ reports → t = stale)
      ∧ (e.state = .testing → w.purpose ≠ .enrolTest → t = stale)
      ∧ (e.state = .held → w.purpose ≠ .poll → t = stale)
      ∧ (e.state = .active → ¬ reports → w.purpose ≠ .retest → t = stale)))
  ∧ (∀ (s : State) (p : Params) (gains : Bool) (round : Round) (i : HomeIdx) (o : Int) (d : Nat),
    (s.entry i).delay = some d →
    let t := s.applyOffset p gains round i o
    let u := s.correctDelay i o
    let within := 0 ≤ (d : Int) - o ∧ (d : Int) - o ≤ (s.target : Int)
    let corrected := ((d : Int) - o).toNat
    ((s.home i).marker ≠ .clear ∨ o.natAbs < 3 → t = s)
    ∧ ((s.home i).marker = .clear → 3 ≤ o.natAbs →
        t = if 8 ≤ o.natAbs ∧ gains = true then (u.gain p i round).decayInTurn i else u)
    ∧ (∀ j, j ≠ i → u.home j = s.home j)
    ∧ (within → s.framer.queue.length < 32 →
        u.home i = { s.home i with entry := { s.entry i with delay := some corrected }, marker := .queued }
        ∧ s.Gained u [.driftCorrection]
        ∧ u = { s with
            homes := u.homes, counters := u.counters
            framer := { s.framer with queue := s.framer.queue ++ [.setDelay i corrected] } })
    ∧ (within → 32 ≤ s.framer.queue.length →
        s.Gained u [.driftDropped] ∧ u = { s with counters := u.counters })
    ∧ (¬ within →
        u.home i = { s.home i with
          inPlace := match (s.home i).inPlace with
            | .placed k => .placed k
            | _ => .asked (((s.target : Int) - d + o) / 16).toNat }
        ∧ s.Gained u [.reRangeRequest] ∧ u = { s with homes := u.homes, counters := u.counters }))
  ∧ (∀ (s : State) (i : HomeIdx),
    let t := s.decayInTurn i
    let owed := s.rogue.owed.erase i
    (i ∉ s.rogue.owed → t = s)
    ∧ (i ∈ owed → t = { s with rogue := { s.rogue with owed } })
    ∧ (i ∈ s.rogue.owed → i ∉ owed →
        t.home i = { s.home i with entry := { s.entry i with score := (s.entry i).score - 1 } }
        ∧ (∀ j, j ≠ i → t.home j = s.home j) ∧ t = { s with homes := t.homes, rogue := { s.rogue with owed } }))
  ∧ (∀ (s : State) (p : Params) (round : Round) (i : HomeIdx),
    let e := s.entry i
    let t := s.gain p i round
    let score := min (e.score + 1) 31
    (score < p.misLim ∨ e.state ≠ .active ∧ e.state ≠ .dozing →
        t.home i = { s.home i with entry := { e with score } } ∧ (∀ j, j ≠ i → t.home j = s.home j)
        ∧ t = { s with homes := t.homes })
    ∧ (p.misLim ≤ score → e.state = .active ∨ e.state = .dozing →
        t.home i = { s.home i with
          entry := { e with
            score, state := .muted, mute := some .misbehaving, backlog := none, wish := none, dozeLeft := none
            probe := false }
          retest := .idle, keptWake := false }
        ∧ t.counter .misbehaviourMute = min (s.counter .misbehaviourMute + 1) counterMax
        ∧ t.framer = s.framer ∧ t.bars = s.bars ∧ t.banks = s.banks
        ∧ t.bus = s.bus.offered (s.partingMessages i round
            ++ [(Notice.homeMisbehaving i e.tagVal score).message s.reportStation])))
  ∧ (∀ (s : State) (w : Window) (m : Nat),
    let t := s.learnLevel w m
    (w.preset + 12 < m → t = s)
    ∧ (m + 12 < w.preset → t = s.bump .weakBurst)
    ∧ (m ≤ w.preset + 12 → w.preset ≤ m + 12 →
        t.home w.index = { s.home w.index with
          entry := { s.entry w.index with level := (s.entry w.index).level.map fun l => (3 * l + m + 2) / 4 } }
        ∧ (∀ j, j ≠ w.index → t.home j = s.home j) ∧ t = { s with homes := t.homes }))
  ∧ (∀ (s : State) (p : Params) (i : HomeIdx) (wish : Bool),
    let e := s.entry i
    let t := s.applyWish p i wish
    let noted : Home := { s.home i with entry := { e with wish := some wish } }
    let dozes := wish = true ∧ e.balance ≤ 0
    (∀ j, j ≠ i → t.home j = s.home j)
    ∧ (¬ dozes → t.home i = noted ∧ t = { s with homes := t.homes })
    ∧ (dozes → 32 ≤ s.framer.queue.length →
        t.home i = noted ∧ s.Gained t [.dozeDeferred] ∧ t = { s with homes := t.homes, counters := t.counters })
    ∧ (dozes → s.framer.queue.length < 32 →
        t.home i = { s.home i with
          entry := { e with state := .dozing, dozeLeft := some (9 * p.upkeep), wish := none }
          retest := .idle, keptWake := false }
        ∧ t.counter .dozeGranted = min (s.counter .dozeGranted + 1) counterMax
        ∧ t.bus = s.bus.offered (s.cancelMessages i)
        ∧ t = { s with
            homes := t.homes, counters := t.counters, bus := t.bus
            framer := { s.framer with queue := s.framer.queue ++ [.dozeGranted i (9 * p.upkeep)] } }))
  ∧ (∀ (s : State) (w : Window) (b : BurstObs) (r : UsageRecord) (band : Fin 4),
    let t := s.handPayload w b
    let length := field b.header 2 2
    let payload := b.payload.take length ++ List.replicate (length - b.payload.length) 0
    let parsed := parseFrames (length + 1) payload
    let count := r.up[band.val] + length
    let top := 2 ^ 40 - 1
    (w.purpose ≠ .data → t = s)
    ∧ (w.purpose = .data → s.liveRecord w.index = some r → s.currentBand = some band →
        t.toSwitch = s.toSwitch ++ parsed.1.map (fun f => { index := w.index, bytes := f })
        ∧ t.liveRecord w.index = some
            { r with
              up := r.up.set band.val (min count top) band.isLt
              flags := { r.flags with saturated := r.flags.saturated || decide (top < count) } }
        ∧ (∀ j, j ≠ w.index → t.liveRecord j = s.liveRecord j)
        ∧ s.Gained t
            ((if parsed.2 then [.upstreamMalformed] else [])
              ++ if top < count ∨ top ≤ r.up[band.val] then [.counterSaturated] else [])
        ∧ t = { s with toSwitch := t.toSwitch, banks := { s.banks with live := t.banks.live }
                       counters := t.counters }))
  ∧ (∀ (frames : List (List Byte)) (n k : Nat), (∀ f ∈ frames, 64 ≤ f.length ∧ f.length ≤ 2000) → frames.length ≤ n →
      parseFrames n (frames.flatMap (fun f => bytesOf 2 f.length ++ f) ++ List.replicate k 0) = (frames, false))
  ∧ ∀ (frames : List (List Byte)) (n : Nat) (rest : List Byte),
      (∀ f ∈ frames, 64 ≤ f.length ∧ f.length ≤ 2000) → frames.length < n →
      let parsed := parseFrames n (frames.flatMap (fun f => bytesOf 2 f.length ++ f) ++ rest)
      let next := field rest 0 2
      (rest.length < 2 ∨ next = 0 → parsed = (frames, false))
      ∧ (2 ≤ rest.length → (0 < next ∧ next < 64) ∨ 2000 < next ∨ rest.length < next + 2 → next ≠ 0 →
          parsed = (frames, true))

/-! ### What every step keeps -/

/-- Every step keeps the sizes of the inbox, the outbox, the directive queue and the bar list, keeps the bar list free
of doubles, and keeps every counter in its range (sections 10.5, 10.6, 4.5, 3.5, 11.7). -/
def Obligations.StepsKeepQueuesAndCounters : Prop :=
  ∀ s t : State, s.QueuesBounded → s.BarsDistinct → s.CountersInRange → step s = .next t →
    t.QueuesBounded ∧ t.BarsDistinct ∧ t.CountersInRange

/-- Every step leaves every upkeep balance within -8..+7: a balance reaches 8 only during the planning of one map, whose
forced poll brings it back (sections 5.1, 4.2). -/
def Obligations.StepsKeepBalancesBelowEight : Prop :=
  ∀ s t : State, (∀ i, -8 ≤ (s.entry i).balance ∧ (s.entry i).balance ≤ 7) → step s = .next t →
    ∀ i, -8 ≤ (t.entry i).balance ∧ (t.entry i).balance ≤ 7

/-- Every step keeps the guaranteed shares at a sum of at most 2,400 quanta, and at 0 outside service (section 4.4). -/
def Obligations.StepsKeepShareLimit : Prop :=
  ∀ s t : State, s.SharesInRange → step s = .next t → t.SharesInRange

/-- Every step keeps the home table as section 1.1 describes it: every field present in its states, absent in the others
and in its range, doze remaining up to 9 I, but for D and L of a Retired entry, which are left open (DEDUCED, log 10);
what the blocks keep for an index fits its entry (sections 2.3, 2.4, 2.6, 3.1, 4.5, 5.2, 6.4), and the candidate set is
that of section 7.2. -/
def Obligations.StepsKeepHomeTableLegal : Prop :=
  ∀ s t : State, s.HomesLegal → step s = .next t → t.HomesLegal

/-- Every step keeps each tag with one entry, and keeps barred tags out of enrolment, on a home table that is legal
(sections 1.3, 3.5). -/
def Obligations.StepsKeepTagsUniqueAndBarred : Prop :=
  ∀ s t : State, s.HomesLegal → s.TagsUnique → step s = .next t →
    t.TagsUnique ∧ (s.NoBarredEnrolling → t.NoBarredEnrolling)

/-- Every step keeps billing sound on a legal home table: each Live record stands for the tag its index holds, every
home in service and every Retired one has its record, and a bank is Live exactly while the part is Set (sections 1.5,
9.1, 9.3). -/
def Obligations.StepsKeepBillingSound : Prop :=
  ∀ s t : State, s.HomesLegal → s.BillingSound → step s = .next t → t.BillingSound

/-- The part right after a full reset, taken in any state and with any straps, meets every law that steps keep, and
State.reset does with no command waiting (sections 1.8, 2.9, 3.7, 9.7, 10.8, 11.9). -/
def Obligations.ResetMeetsEveryLaw : Prop :=
  State.reset.pending = [] ∧
  ∀ (station : Station) (reach : Reach) (before s : State),
    s = State.reset ∨ exec (.fullReset station reach) before = .next s →
    s.QueuesBounded ∧ s.BarsDistinct ∧ s.CountersInRange ∧ s.TagsUnique ∧ s.BalancesBelowEight ∧ s.NoBarredEnrolling
      ∧ s.SharesInRange ∧ s.HomesLegal ∧ s.BillingSound
end

