-- ==== Sys2Proof/Laws/State.lean ====
section
/-! SUPPORT. One lemma for each field that an update leaves alone, and for what each update does to the field it changes. -/

namespace Sys2Proof.Machine

open Sys2Proof

variable (s : State)

/-! ### setHome -/

@[simp] theorem State.setHome_straps (i : HomeIdx) (h : Home) : (s.setHome i h).straps = s.straps := rfl
@[simp] theorem State.setHome_clock (i : HomeIdx) (h : Home) : (s.setHome i h).clock = s.clock := rfl
@[simp] theorem State.setHome_enrol (i : HomeIdx) (h : Home) : (s.setHome i h).enrol = s.enrol := rfl
@[simp] theorem State.setHome_bars (i : HomeIdx) (h : Home) : (s.setHome i h).bars = s.bars := rfl
@[simp] theorem State.setHome_planner (i : HomeIdx) (h : Home) : (s.setHome i h).planner = s.planner := rfl
@[simp] theorem State.setHome_framer (i : HomeIdx) (h : Home) : (s.setHome i h).framer = s.framer := rfl
@[simp] theorem State.setHome_rx (i : HomeIdx) (h : Home) : (s.setHome i h).rx = s.rx := rfl
@[simp] theorem State.setHome_light (i : HomeIdx) (h : Home) : (s.setHome i h).light = s.light := rfl
@[simp] theorem State.setHome_rogue (i : HomeIdx) (h : Home) : (s.setHome i h).rogue = s.rogue := rfl
@[simp] theorem State.setHome_ring (i : HomeIdx) (h : Home) : (s.setHome i h).ring = s.ring := rfl
@[simp] theorem State.setHome_banks (i : HomeIdx) (h : Home) : (s.setHome i h).banks = s.banks := rfl
@[simp] theorem State.setHome_toSwitch (i : HomeIdx) (h : Home) : (s.setHome i h).toSwitch = s.toSwitch := rfl
@[simp] theorem State.setHome_bus (i : HomeIdx) (h : Home) : (s.setHome i h).bus = s.bus := rfl
@[simp] theorem State.setHome_setup (i : HomeIdx) (h : Home) : (s.setHome i h).setup = s.setup := rfl
@[simp] theorem State.setHome_waited (i : HomeIdx) (h : Home) : (s.setHome i h).waited = s.waited := rfl
@[simp] theorem State.setHome_counters (i : HomeIdx) (h : Home) : (s.setHome i h).counters = s.counters := rfl
@[simp] theorem State.setHome_restarts (i : HomeIdx) (h : Home) : (s.setHome i h).restarts = s.restarts := rfl
@[simp] theorem State.setHome_pending (i : HomeIdx) (h : Home) : (s.setHome i h).pending = s.pending := rfl

/-! ### modHome -/

@[simp] theorem State.modHome_straps (i : HomeIdx) (f : Home → Home) : (s.modHome i f).straps = s.straps := rfl
@[simp] theorem State.modHome_clock (i : HomeIdx) (f : Home → Home) : (s.modHome i f).clock = s.clock := rfl
@[simp] theorem State.modHome_enrol (i : HomeIdx) (f : Home → Home) : (s.modHome i f).enrol = s.enrol := rfl
@[simp] theorem State.modHome_bars (i : HomeIdx) (f : Home → Home) : (s.modHome i f).bars = s.bars := rfl
@[simp] theorem State.modHome_planner (i : HomeIdx) (f : Home → Home) : (s.modHome i f).planner = s.planner := rfl
@[simp] theorem State.modHome_framer (i : HomeIdx) (f : Home → Home) : (s.modHome i f).framer = s.framer := rfl
@[simp] theorem State.modHome_rx (i : HomeIdx) (f : Home → Home) : (s.modHome i f).rx = s.rx := rfl
@[simp] theorem State.modHome_light (i : HomeIdx) (f : Home → Home) : (s.modHome i f).light = s.light := rfl
@[simp] theorem State.modHome_rogue (i : HomeIdx) (f : Home → Home) : (s.modHome i f).rogue = s.rogue := rfl
@[simp] theorem State.modHome_ring (i : HomeIdx) (f : Home → Home) : (s.modHome i f).ring = s.ring := rfl
@[simp] theorem State.modHome_banks (i : HomeIdx) (f : Home → Home) : (s.modHome i f).banks = s.banks := rfl
@[simp] theorem State.modHome_toSwitch (i : HomeIdx) (f : Home → Home) : (s.modHome i f).toSwitch = s.toSwitch := rfl
@[simp] theorem State.modHome_bus (i : HomeIdx) (f : Home → Home) : (s.modHome i f).bus = s.bus := rfl
@[simp] theorem State.modHome_setup (i : HomeIdx) (f : Home → Home) : (s.modHome i f).setup = s.setup := rfl
@[simp] theorem State.modHome_waited (i : HomeIdx) (f : Home → Home) : (s.modHome i f).waited = s.waited := rfl
@[simp] theorem State.modHome_counters (i : HomeIdx) (f : Home → Home) : (s.modHome i f).counters = s.counters := rfl
@[simp] theorem State.modHome_restarts (i : HomeIdx) (f : Home → Home) : (s.modHome i f).restarts = s.restarts := rfl
@[simp] theorem State.modHome_pending (i : HomeIdx) (f : Home → Home) : (s.modHome i f).pending = s.pending := rfl

/-! ### modEntry -/

@[simp] theorem State.modEntry_straps (i : HomeIdx) (f : Entry → Entry) : (s.modEntry i f).straps = s.straps := rfl
@[simp] theorem State.modEntry_clock (i : HomeIdx) (f : Entry → Entry) : (s.modEntry i f).clock = s.clock := rfl
@[simp] theorem State.modEntry_enrol (i : HomeIdx) (f : Entry → Entry) : (s.modEntry i f).enrol = s.enrol := rfl
@[simp] theorem State.modEntry_bars (i : HomeIdx) (f : Entry → Entry) : (s.modEntry i f).bars = s.bars := rfl
@[simp] theorem State.modEntry_planner (i : HomeIdx) (f : Entry → Entry) : (s.modEntry i f).planner = s.planner := rfl
@[simp] theorem State.modEntry_framer (i : HomeIdx) (f : Entry → Entry) : (s.modEntry i f).framer = s.framer := rfl
@[simp] theorem State.modEntry_rx (i : HomeIdx) (f : Entry → Entry) : (s.modEntry i f).rx = s.rx := rfl
@[simp] theorem State.modEntry_light (i : HomeIdx) (f : Entry → Entry) : (s.modEntry i f).light = s.light := rfl
@[simp] theorem State.modEntry_rogue (i : HomeIdx) (f : Entry → Entry) : (s.modEntry i f).rogue = s.rogue := rfl
@[simp] theorem State.modEntry_ring (i : HomeIdx) (f : Entry → Entry) : (s.modEntry i f).ring = s.ring := rfl
@[simp] theorem State.modEntry_banks (i : HomeIdx) (f : Entry → Entry) : (s.modEntry i f).banks = s.banks := rfl
@[simp] theorem State.modEntry_toSwitch (i : HomeIdx) (f : Entry → Entry) : (s.modEntry i f).toSwitch = s.toSwitch := rfl
@[simp] theorem State.modEntry_bus (i : HomeIdx) (f : Entry → Entry) : (s.modEntry i f).bus = s.bus := rfl
@[simp] theorem State.modEntry_setup (i : HomeIdx) (f : Entry → Entry) : (s.modEntry i f).setup = s.setup := rfl
@[simp] theorem State.modEntry_waited (i : HomeIdx) (f : Entry → Entry) : (s.modEntry i f).waited = s.waited := rfl
@[simp] theorem State.modEntry_counters (i : HomeIdx) (f : Entry → Entry) : (s.modEntry i f).counters = s.counters := rfl
@[simp] theorem State.modEntry_restarts (i : HomeIdx) (f : Entry → Entry) : (s.modEntry i f).restarts = s.restarts := rfl
@[simp] theorem State.modEntry_pending (i : HomeIdx) (f : Entry → Entry) : (s.modEntry i f).pending = s.pending := rfl

/-! ### modProgress -/

@[simp] theorem State.modProgress_straps (i : HomeIdx) (f : Progress → Progress) : (s.modProgress i f).straps = s.straps := rfl
@[simp] theorem State.modProgress_clock (i : HomeIdx) (f : Progress → Progress) : (s.modProgress i f).clock = s.clock := rfl
@[simp] theorem State.modProgress_enrol (i : HomeIdx) (f : Progress → Progress) : (s.modProgress i f).enrol = s.enrol := rfl
@[simp] theorem State.modProgress_bars (i : HomeIdx) (f : Progress → Progress) : (s.modProgress i f).bars = s.bars := rfl
@[simp] theorem State.modProgress_planner (i : HomeIdx) (f : Progress → Progress) : (s.modProgress i f).planner = s.planner := rfl
@[simp] theorem State.modProgress_framer (i : HomeIdx) (f : Progress → Progress) : (s.modProgress i f).framer = s.framer := rfl
@[simp] theorem State.modProgress_rx (i : HomeIdx) (f : Progress → Progress) : (s.modProgress i f).rx = s.rx := rfl
@[simp] theorem State.modProgress_light (i : HomeIdx) (f : Progress → Progress) : (s.modProgress i f).light = s.light := rfl
@[simp] theorem State.modProgress_rogue (i : HomeIdx) (f : Progress → Progress) : (s.modProgress i f).rogue = s.rogue := rfl
@[simp] theorem State.modProgress_ring (i : HomeIdx) (f : Progress → Progress) : (s.modProgress i f).ring = s.ring := rfl
@[simp] theorem State.modProgress_banks (i : HomeIdx) (f : Progress → Progress) : (s.modProgress i f).banks = s.banks := rfl
@[simp] theorem State.modProgress_toSwitch (i : HomeIdx) (f : Progress → Progress) : (s.modProgress i f).toSwitch = s.toSwitch := rfl
@[simp] theorem State.modProgress_bus (i : HomeIdx) (f : Progress → Progress) : (s.modProgress i f).bus = s.bus := rfl
@[simp] theorem State.modProgress_setup (i : HomeIdx) (f : Progress → Progress) : (s.modProgress i f).setup = s.setup := rfl
@[simp] theorem State.modProgress_waited (i : HomeIdx) (f : Progress → Progress) : (s.modProgress i f).waited = s.waited := rfl
@[simp] theorem State.modProgress_counters (i : HomeIdx) (f : Progress → Progress) : (s.modProgress i f).counters = s.counters := rfl
@[simp] theorem State.modProgress_restarts (i : HomeIdx) (f : Progress → Progress) : (s.modProgress i f).restarts = s.restarts := rfl
@[simp] theorem State.modProgress_pending (i : HomeIdx) (f : Progress → Progress) : (s.modProgress i f).pending = s.pending := rfl

/-! ### setProbes -/

@[simp] theorem State.setProbes_straps (l : List HomeIdx) : (s.setProbes l).straps = s.straps := rfl
@[simp] theorem State.setProbes_clock (l : List HomeIdx) : (s.setProbes l).clock = s.clock := rfl
@[simp] theorem State.setProbes_enrol (l : List HomeIdx) : (s.setProbes l).enrol = s.enrol := rfl
@[simp] theorem State.setProbes_bars (l : List HomeIdx) : (s.setProbes l).bars = s.bars := rfl
@[simp] theorem State.setProbes_planner (l : List HomeIdx) : (s.setProbes l).planner = s.planner := rfl
@[simp] theorem State.setProbes_framer (l : List HomeIdx) : (s.setProbes l).framer = s.framer := rfl
@[simp] theorem State.setProbes_rx (l : List HomeIdx) : (s.setProbes l).rx = s.rx := rfl
@[simp] theorem State.setProbes_light (l : List HomeIdx) : (s.setProbes l).light = s.light := rfl
@[simp] theorem State.setProbes_rogue (l : List HomeIdx) : (s.setProbes l).rogue = s.rogue := rfl
@[simp] theorem State.setProbes_ring (l : List HomeIdx) : (s.setProbes l).ring = s.ring := rfl
@[simp] theorem State.setProbes_banks (l : List HomeIdx) : (s.setProbes l).banks = s.banks := rfl
@[simp] theorem State.setProbes_toSwitch (l : List HomeIdx) : (s.setProbes l).toSwitch = s.toSwitch := rfl
@[simp] theorem State.setProbes_bus (l : List HomeIdx) : (s.setProbes l).bus = s.bus := rfl
@[simp] theorem State.setProbes_setup (l : List HomeIdx) : (s.setProbes l).setup = s.setup := rfl
@[simp] theorem State.setProbes_waited (l : List HomeIdx) : (s.setProbes l).waited = s.waited := rfl
@[simp] theorem State.setProbes_counters (l : List HomeIdx) : (s.setProbes l).counters = s.counters := rfl
@[simp] theorem State.setProbes_restarts (l : List HomeIdx) : (s.setProbes l).restarts = s.restarts := rfl
@[simp] theorem State.setProbes_pending (l : List HomeIdx) : (s.setProbes l).pending = s.pending := rfl

/-! ### vacateRetired -/

@[simp] theorem State.vacateRetired_straps : s.vacateRetired.straps = s.straps := rfl
@[simp] theorem State.vacateRetired_clock : s.vacateRetired.clock = s.clock := rfl
@[simp] theorem State.vacateRetired_enrol : s.vacateRetired.enrol = s.enrol := rfl
@[simp] theorem State.vacateRetired_bars : s.vacateRetired.bars = s.bars := rfl
@[simp] theorem State.vacateRetired_planner : s.vacateRetired.planner = s.planner := rfl
@[simp] theorem State.vacateRetired_framer : s.vacateRetired.framer = s.framer := rfl
@[simp] theorem State.vacateRetired_rx : s.vacateRetired.rx = s.rx := rfl
@[simp] theorem State.vacateRetired_light : s.vacateRetired.light = s.light := rfl
@[simp] theorem State.vacateRetired_rogue : s.vacateRetired.rogue = s.rogue := rfl
@[simp] theorem State.vacateRetired_ring : s.vacateRetired.ring = s.ring := rfl
@[simp] theorem State.vacateRetired_banks : s.vacateRetired.banks = s.banks := rfl
@[simp] theorem State.vacateRetired_toSwitch : s.vacateRetired.toSwitch = s.toSwitch := rfl
@[simp] theorem State.vacateRetired_bus : s.vacateRetired.bus = s.bus := rfl
@[simp] theorem State.vacateRetired_setup : s.vacateRetired.setup = s.setup := rfl
@[simp] theorem State.vacateRetired_waited : s.vacateRetired.waited = s.waited := rfl
@[simp] theorem State.vacateRetired_counters : s.vacateRetired.counters = s.counters := rfl
@[simp] theorem State.vacateRetired_restarts : s.vacateRetired.restarts = s.restarts := rfl
@[simp] theorem State.vacateRetired_pending : s.vacateRetired.pending = s.pending := rfl

/-! ### clearMarkers -/

@[simp] theorem State.clearMarkers_straps (r : Round) : (s.clearMarkers r).straps = s.straps := rfl
@[simp] theorem State.clearMarkers_clock (r : Round) : (s.clearMarkers r).clock = s.clock := rfl
@[simp] theorem State.clearMarkers_enrol (r : Round) : (s.clearMarkers r).enrol = s.enrol := rfl
@[simp] theorem State.clearMarkers_bars (r : Round) : (s.clearMarkers r).bars = s.bars := rfl
@[simp] theorem State.clearMarkers_planner (r : Round) : (s.clearMarkers r).planner = s.planner := rfl
@[simp] theorem State.clearMarkers_framer (r : Round) : (s.clearMarkers r).framer = s.framer := rfl
@[simp] theorem State.clearMarkers_rx (r : Round) : (s.clearMarkers r).rx = s.rx := rfl
@[simp] theorem State.clearMarkers_light (r : Round) : (s.clearMarkers r).light = s.light := rfl
@[simp] theorem State.clearMarkers_rogue (r : Round) : (s.clearMarkers r).rogue = s.rogue := rfl
@[simp] theorem State.clearMarkers_ring (r : Round) : (s.clearMarkers r).ring = s.ring := rfl
@[simp] theorem State.clearMarkers_banks (r : Round) : (s.clearMarkers r).banks = s.banks := rfl
@[simp] theorem State.clearMarkers_toSwitch (r : Round) : (s.clearMarkers r).toSwitch = s.toSwitch := rfl
@[simp] theorem State.clearMarkers_bus (r : Round) : (s.clearMarkers r).bus = s.bus := rfl
@[simp] theorem State.clearMarkers_setup (r : Round) : (s.clearMarkers r).setup = s.setup := rfl
@[simp] theorem State.clearMarkers_waited (r : Round) : (s.clearMarkers r).waited = s.waited := rfl
@[simp] theorem State.clearMarkers_counters (r : Round) : (s.clearMarkers r).counters = s.counters := rfl
@[simp] theorem State.clearMarkers_restarts (r : Round) : (s.clearMarkers r).restarts = s.restarts := rfl
@[simp] theorem State.clearMarkers_pending (r : Round) : (s.clearMarkers r).pending = s.pending := rfl

/-! ### bump -/

@[simp] theorem State.bump_straps (c : Counter) : (s.bump c).straps = s.straps := rfl
@[simp] theorem State.bump_clock (c : Counter) : (s.bump c).clock = s.clock := rfl
@[simp] theorem State.bump_homes (c : Counter) : (s.bump c).homes = s.homes := rfl
@[simp] theorem State.bump_enrol (c : Counter) : (s.bump c).enrol = s.enrol := rfl
@[simp] theorem State.bump_bars (c : Counter) : (s.bump c).bars = s.bars := rfl
@[simp] theorem State.bump_planner (c : Counter) : (s.bump c).planner = s.planner := rfl
@[simp] theorem State.bump_framer (c : Counter) : (s.bump c).framer = s.framer := rfl
@[simp] theorem State.bump_rx (c : Counter) : (s.bump c).rx = s.rx := rfl
@[simp] theorem State.bump_light (c : Counter) : (s.bump c).light = s.light := rfl
@[simp] theorem State.bump_rogue (c : Counter) : (s.bump c).rogue = s.rogue := rfl
@[simp] theorem State.bump_ring (c : Counter) : (s.bump c).ring = s.ring := rfl
@[simp] theorem State.bump_banks (c : Counter) : (s.bump c).banks = s.banks := rfl
@[simp] theorem State.bump_toSwitch (c : Counter) : (s.bump c).toSwitch = s.toSwitch := rfl
@[simp] theorem State.bump_bus (c : Counter) : (s.bump c).bus = s.bus := rfl
@[simp] theorem State.bump_setup (c : Counter) : (s.bump c).setup = s.setup := rfl
@[simp] theorem State.bump_waited (c : Counter) : (s.bump c).waited = s.waited := rfl
@[simp] theorem State.bump_restarts (c : Counter) : (s.bump c).restarts = s.restarts := rfl
@[simp] theorem State.bump_pending (c : Counter) : (s.bump c).pending = s.pending := rfl

/-! ### clearGroup -/

@[simp] theorem State.clearGroup_straps (a n : Nat) : (s.clearGroup a n).straps = s.straps := rfl
@[simp] theorem State.clearGroup_clock (a n : Nat) : (s.clearGroup a n).clock = s.clock := rfl
@[simp] theorem State.clearGroup_homes (a n : Nat) : (s.clearGroup a n).homes = s.homes := rfl
@[simp] theorem State.clearGroup_enrol (a n : Nat) : (s.clearGroup a n).enrol = s.enrol := rfl
@[simp] theorem State.clearGroup_bars (a n : Nat) : (s.clearGroup a n).bars = s.bars := rfl
@[simp] theorem State.clearGroup_planner (a n : Nat) : (s.clearGroup a n).planner = s.planner := rfl
@[simp] theorem State.clearGroup_framer (a n : Nat) : (s.clearGroup a n).framer = s.framer := rfl
@[simp] theorem State.clearGroup_rx (a n : Nat) : (s.clearGroup a n).rx = s.rx := rfl
@[simp] theorem State.clearGroup_light (a n : Nat) : (s.clearGroup a n).light = s.light := rfl
@[simp] theorem State.clearGroup_rogue (a n : Nat) : (s.clearGroup a n).rogue = s.rogue := rfl
@[simp] theorem State.clearGroup_ring (a n : Nat) : (s.clearGroup a n).ring = s.ring := rfl
@[simp] theorem State.clearGroup_banks (a n : Nat) : (s.clearGroup a n).banks = s.banks := rfl
@[simp] theorem State.clearGroup_toSwitch (a n : Nat) : (s.clearGroup a n).toSwitch = s.toSwitch := rfl
@[simp] theorem State.clearGroup_bus (a n : Nat) : (s.clearGroup a n).bus = s.bus := rfl
@[simp] theorem State.clearGroup_setup (a n : Nat) : (s.clearGroup a n).setup = s.setup := rfl
@[simp] theorem State.clearGroup_waited (a n : Nat) : (s.clearGroup a n).waited = s.waited := rfl
@[simp] theorem State.clearGroup_restarts (a n : Nat) : (s.clearGroup a n).restarts = s.restarts := rfl
@[simp] theorem State.clearGroup_pending (a n : Nat) : (s.clearGroup a n).pending = s.pending := rfl

/-! ### post -/

@[simp] theorem State.post_straps (m : OutMsg) : (s.post m).straps = s.straps := rfl
@[simp] theorem State.post_clock (m : OutMsg) : (s.post m).clock = s.clock := rfl
@[simp] theorem State.post_homes (m : OutMsg) : (s.post m).homes = s.homes := rfl
@[simp] theorem State.post_enrol (m : OutMsg) : (s.post m).enrol = s.enrol := rfl
@[simp] theorem State.post_bars (m : OutMsg) : (s.post m).bars = s.bars := rfl
@[simp] theorem State.post_planner (m : OutMsg) : (s.post m).planner = s.planner := rfl
@[simp] theorem State.post_framer (m : OutMsg) : (s.post m).framer = s.framer := rfl
@[simp] theorem State.post_rx (m : OutMsg) : (s.post m).rx = s.rx := rfl
@[simp] theorem State.post_light (m : OutMsg) : (s.post m).light = s.light := rfl
@[simp] theorem State.post_rogue (m : OutMsg) : (s.post m).rogue = s.rogue := rfl
@[simp] theorem State.post_ring (m : OutMsg) : (s.post m).ring = s.ring := rfl
@[simp] theorem State.post_banks (m : OutMsg) : (s.post m).banks = s.banks := rfl
@[simp] theorem State.post_toSwitch (m : OutMsg) : (s.post m).toSwitch = s.toSwitch := rfl
@[simp] theorem State.post_setup (m : OutMsg) : (s.post m).setup = s.setup := rfl
@[simp] theorem State.post_waited (m : OutMsg) : (s.post m).waited = s.waited := rfl
@[simp] theorem State.post_counters (m : OutMsg) : (s.post m).counters = s.counters := rfl
@[simp] theorem State.post_restarts (m : OutMsg) : (s.post m).restarts = s.restarts := rfl
@[simp] theorem State.post_pending (m : OutMsg) : (s.post m).pending = s.pending := rfl

/-! ### resetIdle -/

@[simp] theorem State.resetIdle_straps : s.resetIdle.straps = s.straps := rfl
@[simp] theorem State.resetIdle_clock : s.resetIdle.clock = s.clock := rfl
@[simp] theorem State.resetIdle_homes : s.resetIdle.homes = s.homes := rfl
@[simp] theorem State.resetIdle_enrol : s.resetIdle.enrol = s.enrol := rfl
@[simp] theorem State.resetIdle_bars : s.resetIdle.bars = s.bars := rfl
@[simp] theorem State.resetIdle_planner : s.resetIdle.planner = s.planner := rfl
@[simp] theorem State.resetIdle_framer : s.resetIdle.framer = s.framer := rfl
@[simp] theorem State.resetIdle_rx : s.resetIdle.rx = s.rx := rfl
@[simp] theorem State.resetIdle_light : s.resetIdle.light = s.light := rfl
@[simp] theorem State.resetIdle_rogue : s.resetIdle.rogue = s.rogue := rfl
@[simp] theorem State.resetIdle_ring : s.resetIdle.ring = s.ring := rfl
@[simp] theorem State.resetIdle_banks : s.resetIdle.banks = s.banks := rfl
@[simp] theorem State.resetIdle_toSwitch : s.resetIdle.toSwitch = s.toSwitch := rfl
@[simp] theorem State.resetIdle_setup : s.resetIdle.setup = s.setup := rfl
@[simp] theorem State.resetIdle_waited : s.resetIdle.waited = s.waited := rfl
@[simp] theorem State.resetIdle_counters : s.resetIdle.counters = s.counters := rfl
@[simp] theorem State.resetIdle_restarts : s.resetIdle.restarts = s.restarts := rfl
@[simp] theorem State.resetIdle_pending : s.resetIdle.pending = s.pending := rfl

/-! ### passTimes -/

@[simp] theorem State.passTimes_straps (l : List BitTime) : (s.passTimes l).straps = s.straps := rfl
@[simp] theorem State.passTimes_clock (l : List BitTime) : (s.passTimes l).clock = s.clock := rfl
@[simp] theorem State.passTimes_homes (l : List BitTime) : (s.passTimes l).homes = s.homes := rfl
@[simp] theorem State.passTimes_enrol (l : List BitTime) : (s.passTimes l).enrol = s.enrol := rfl
@[simp] theorem State.passTimes_bars (l : List BitTime) : (s.passTimes l).bars = s.bars := rfl
@[simp] theorem State.passTimes_planner (l : List BitTime) : (s.passTimes l).planner = s.planner := rfl
@[simp] theorem State.passTimes_framer (l : List BitTime) : (s.passTimes l).framer = s.framer := rfl
@[simp] theorem State.passTimes_rx (l : List BitTime) : (s.passTimes l).rx = s.rx := rfl
@[simp] theorem State.passTimes_light (l : List BitTime) : (s.passTimes l).light = s.light := rfl
@[simp] theorem State.passTimes_rogue (l : List BitTime) : (s.passTimes l).rogue = s.rogue := rfl
@[simp] theorem State.passTimes_ring (l : List BitTime) : (s.passTimes l).ring = s.ring := rfl
@[simp] theorem State.passTimes_banks (l : List BitTime) : (s.passTimes l).banks = s.banks := rfl
@[simp] theorem State.passTimes_toSwitch (l : List BitTime) : (s.passTimes l).toSwitch = s.toSwitch := rfl
@[simp] theorem State.passTimes_setup (l : List BitTime) : (s.passTimes l).setup = s.setup := rfl
@[simp] theorem State.passTimes_waited (l : List BitTime) : (s.passTimes l).waited = s.waited := rfl
@[simp] theorem State.passTimes_counters (l : List BitTime) : (s.passTimes l).counters = s.counters := rfl
@[simp] theorem State.passTimes_restarts (l : List BitTime) : (s.passTimes l).restarts = s.restarts := rfl
@[simp] theorem State.passTimes_pending (l : List BitTime) : (s.passTimes l).pending = s.pending := rfl

/-! ### dropOut -/

@[simp] theorem State.dropOut_straps (k : Nat) : (s.dropOut k).straps = s.straps := rfl
@[simp] theorem State.dropOut_clock (k : Nat) : (s.dropOut k).clock = s.clock := rfl
@[simp] theorem State.dropOut_homes (k : Nat) : (s.dropOut k).homes = s.homes := rfl
@[simp] theorem State.dropOut_enrol (k : Nat) : (s.dropOut k).enrol = s.enrol := rfl
@[simp] theorem State.dropOut_bars (k : Nat) : (s.dropOut k).bars = s.bars := rfl
@[simp] theorem State.dropOut_planner (k : Nat) : (s.dropOut k).planner = s.planner := rfl
@[simp] theorem State.dropOut_framer (k : Nat) : (s.dropOut k).framer = s.framer := rfl
@[simp] theorem State.dropOut_rx (k : Nat) : (s.dropOut k).rx = s.rx := rfl
@[simp] theorem State.dropOut_light (k : Nat) : (s.dropOut k).light = s.light := rfl
@[simp] theorem State.dropOut_rogue (k : Nat) : (s.dropOut k).rogue = s.rogue := rfl
@[simp] theorem State.dropOut_ring (k : Nat) : (s.dropOut k).ring = s.ring := rfl
@[simp] theorem State.dropOut_banks (k : Nat) : (s.dropOut k).banks = s.banks := rfl
@[simp] theorem State.dropOut_toSwitch (k : Nat) : (s.dropOut k).toSwitch = s.toSwitch := rfl
@[simp] theorem State.dropOut_setup (k : Nat) : (s.dropOut k).setup = s.setup := rfl
@[simp] theorem State.dropOut_waited (k : Nat) : (s.dropOut k).waited = s.waited := rfl
@[simp] theorem State.dropOut_counters (k : Nat) : (s.dropOut k).counters = s.counters := rfl
@[simp] theorem State.dropOut_restarts (k : Nat) : (s.dropOut k).restarts = s.restarts := rfl
@[simp] theorem State.dropOut_pending (k : Nat) : (s.dropOut k).pending = s.pending := rfl

/-! ### popInbox -/

@[simp] theorem State.popInbox_straps : s.popInbox.straps = s.straps := rfl
@[simp] theorem State.popInbox_clock : s.popInbox.clock = s.clock := rfl
@[simp] theorem State.popInbox_homes : s.popInbox.homes = s.homes := rfl
@[simp] theorem State.popInbox_enrol : s.popInbox.enrol = s.enrol := rfl
@[simp] theorem State.popInbox_bars : s.popInbox.bars = s.bars := rfl
@[simp] theorem State.popInbox_planner : s.popInbox.planner = s.planner := rfl
@[simp] theorem State.popInbox_framer : s.popInbox.framer = s.framer := rfl
@[simp] theorem State.popInbox_rx : s.popInbox.rx = s.rx := rfl
@[simp] theorem State.popInbox_light : s.popInbox.light = s.light := rfl
@[simp] theorem State.popInbox_rogue : s.popInbox.rogue = s.rogue := rfl
@[simp] theorem State.popInbox_ring : s.popInbox.ring = s.ring := rfl
@[simp] theorem State.popInbox_banks : s.popInbox.banks = s.banks := rfl
@[simp] theorem State.popInbox_toSwitch : s.popInbox.toSwitch = s.toSwitch := rfl
@[simp] theorem State.popInbox_setup : s.popInbox.setup = s.setup := rfl
@[simp] theorem State.popInbox_counters : s.popInbox.counters = s.counters := rfl
@[simp] theorem State.popInbox_restarts : s.popInbox.restarts = s.restarts := rfl
@[simp] theorem State.popInbox_pending : s.popInbox.pending = s.pending := rfl

/-! ### clearStreaks -/

@[simp] theorem State.clearStreaks_straps : s.clearStreaks.straps = s.straps := rfl
@[simp] theorem State.clearStreaks_clock : s.clearStreaks.clock = s.clock := rfl
@[simp] theorem State.clearStreaks_homes : s.clearStreaks.homes = s.homes := rfl
@[simp] theorem State.clearStreaks_enrol : s.clearStreaks.enrol = s.enrol := rfl
@[simp] theorem State.clearStreaks_bars : s.clearStreaks.bars = s.bars := rfl
@[simp] theorem State.clearStreaks_planner : s.clearStreaks.planner = s.planner := rfl
@[simp] theorem State.clearStreaks_framer : s.clearStreaks.framer = s.framer := rfl
@[simp] theorem State.clearStreaks_rx : s.clearStreaks.rx = s.rx := rfl
@[simp] theorem State.clearStreaks_light : s.clearStreaks.light = s.light := rfl
@[simp] theorem State.clearStreaks_ring : s.clearStreaks.ring = s.ring := rfl
@[simp] theorem State.clearStreaks_banks : s.clearStreaks.banks = s.banks := rfl
@[simp] theorem State.clearStreaks_toSwitch : s.clearStreaks.toSwitch = s.toSwitch := rfl
@[simp] theorem State.clearStreaks_bus : s.clearStreaks.bus = s.bus := rfl
@[simp] theorem State.clearStreaks_setup : s.clearStreaks.setup = s.setup := rfl
@[simp] theorem State.clearStreaks_waited : s.clearStreaks.waited = s.waited := rfl
@[simp] theorem State.clearStreaks_counters : s.clearStreaks.counters = s.counters := rfl
@[simp] theorem State.clearStreaks_restarts : s.clearStreaks.restarts = s.restarts := rfl
@[simp] theorem State.clearStreaks_pending : s.clearStreaks.pending = s.pending := rfl

/-! ### markSpanGood -/

@[simp] theorem State.markSpanGood_straps : s.markSpanGood.straps = s.straps := rfl
@[simp] theorem State.markSpanGood_clock : s.markSpanGood.clock = s.clock := rfl
@[simp] theorem State.markSpanGood_homes : s.markSpanGood.homes = s.homes := rfl
@[simp] theorem State.markSpanGood_enrol : s.markSpanGood.enrol = s.enrol := rfl
@[simp] theorem State.markSpanGood_bars : s.markSpanGood.bars = s.bars := rfl
@[simp] theorem State.markSpanGood_planner : s.markSpanGood.planner = s.planner := rfl
@[simp] theorem State.markSpanGood_framer : s.markSpanGood.framer = s.framer := rfl
@[simp] theorem State.markSpanGood_light : s.markSpanGood.light = s.light := rfl
@[simp] theorem State.markSpanGood_rogue : s.markSpanGood.rogue = s.rogue := rfl
@[simp] theorem State.markSpanGood_ring : s.markSpanGood.ring = s.ring := rfl
@[simp] theorem State.markSpanGood_banks : s.markSpanGood.banks = s.banks := rfl
@[simp] theorem State.markSpanGood_toSwitch : s.markSpanGood.toSwitch = s.toSwitch := rfl
@[simp] theorem State.markSpanGood_bus : s.markSpanGood.bus = s.bus := rfl
@[simp] theorem State.markSpanGood_setup : s.markSpanGood.setup = s.setup := rfl
@[simp] theorem State.markSpanGood_waited : s.markSpanGood.waited = s.waited := rfl
@[simp] theorem State.markSpanGood_counters : s.markSpanGood.counters = s.counters := rfl
@[simp] theorem State.markSpanGood_restarts : s.markSpanGood.restarts = s.restarts := rfl
@[simp] theorem State.markSpanGood_pending : s.markSpanGood.pending = s.pending := rfl

/-! ### expectUnmapped -/

@[simp] theorem State.expectUnmapped_straps : s.expectUnmapped.straps = s.straps := rfl
@[simp] theorem State.expectUnmapped_clock : s.expectUnmapped.clock = s.clock := rfl
@[simp] theorem State.expectUnmapped_homes : s.expectUnmapped.homes = s.homes := rfl
@[simp] theorem State.expectUnmapped_enrol : s.expectUnmapped.enrol = s.enrol := rfl
@[simp] theorem State.expectUnmapped_bars : s.expectUnmapped.bars = s.bars := rfl
@[simp] theorem State.expectUnmapped_planner : s.expectUnmapped.planner = s.planner := rfl
@[simp] theorem State.expectUnmapped_framer : s.expectUnmapped.framer = s.framer := rfl
@[simp] theorem State.expectUnmapped_light : s.expectUnmapped.light = s.light := rfl
@[simp] theorem State.expectUnmapped_rogue : s.expectUnmapped.rogue = s.rogue := rfl
@[simp] theorem State.expectUnmapped_ring : s.expectUnmapped.ring = s.ring := rfl
@[simp] theorem State.expectUnmapped_banks : s.expectUnmapped.banks = s.banks := rfl
@[simp] theorem State.expectUnmapped_toSwitch : s.expectUnmapped.toSwitch = s.toSwitch := rfl
@[simp] theorem State.expectUnmapped_bus : s.expectUnmapped.bus = s.bus := rfl
@[simp] theorem State.expectUnmapped_setup : s.expectUnmapped.setup = s.setup := rfl
@[simp] theorem State.expectUnmapped_waited : s.expectUnmapped.waited = s.waited := rfl
@[simp] theorem State.expectUnmapped_counters : s.expectUnmapped.counters = s.counters := rfl
@[simp] theorem State.expectUnmapped_restarts : s.expectUnmapped.restarts = s.restarts := rfl
@[simp] theorem State.expectUnmapped_pending : s.expectUnmapped.pending = s.pending := rfl

/-! ### endFrame -/

@[simp] theorem State.endFrame_straps : s.endFrame.straps = s.straps := rfl
@[simp] theorem State.endFrame_clock : s.endFrame.clock = s.clock := rfl
@[simp] theorem State.endFrame_homes : s.endFrame.homes = s.homes := rfl
@[simp] theorem State.endFrame_enrol : s.endFrame.enrol = s.enrol := rfl
@[simp] theorem State.endFrame_bars : s.endFrame.bars = s.bars := rfl
@[simp] theorem State.endFrame_planner : s.endFrame.planner = s.planner := rfl
@[simp] theorem State.endFrame_rx : s.endFrame.rx = s.rx := rfl
@[simp] theorem State.endFrame_light : s.endFrame.light = s.light := rfl
@[simp] theorem State.endFrame_rogue : s.endFrame.rogue = s.rogue := rfl
@[simp] theorem State.endFrame_ring : s.endFrame.ring = s.ring := rfl
@[simp] theorem State.endFrame_banks : s.endFrame.banks = s.banks := rfl
@[simp] theorem State.endFrame_toSwitch : s.endFrame.toSwitch = s.toSwitch := rfl
@[simp] theorem State.endFrame_bus : s.endFrame.bus = s.bus := rfl
@[simp] theorem State.endFrame_setup : s.endFrame.setup = s.setup := rfl
@[simp] theorem State.endFrame_waited : s.endFrame.waited = s.waited := rfl
@[simp] theorem State.endFrame_counters : s.endFrame.counters = s.counters := rfl
@[simp] theorem State.endFrame_restarts : s.endFrame.restarts = s.restarts := rfl
@[simp] theorem State.endFrame_pending : s.endFrame.pending = s.pending := rfl

/-! ### tickAges -/

@[simp] theorem State.tickAges_straps : s.tickAges.straps = s.straps := rfl
@[simp] theorem State.tickAges_clock : s.tickAges.clock = s.clock := rfl
@[simp] theorem State.tickAges_homes : s.tickAges.homes = s.homes := rfl
@[simp] theorem State.tickAges_enrol : s.tickAges.enrol = s.enrol := rfl
@[simp] theorem State.tickAges_bars : s.tickAges.bars = s.bars := rfl
@[simp] theorem State.tickAges_planner : s.tickAges.planner = s.planner := rfl
@[simp] theorem State.tickAges_framer : s.tickAges.framer = s.framer := rfl
@[simp] theorem State.tickAges_rx : s.tickAges.rx = s.rx := rfl
@[simp] theorem State.tickAges_ring : s.tickAges.ring = s.ring := rfl
@[simp] theorem State.tickAges_banks : s.tickAges.banks = s.banks := rfl
@[simp] theorem State.tickAges_toSwitch : s.tickAges.toSwitch = s.toSwitch := rfl
@[simp] theorem State.tickAges_bus : s.tickAges.bus = s.bus := rfl
@[simp] theorem State.tickAges_setup : s.tickAges.setup = s.setup := rfl
@[simp] theorem State.tickAges_waited : s.tickAges.waited = s.waited := rfl
@[simp] theorem State.tickAges_counters : s.tickAges.counters = s.counters := rfl
@[simp] theorem State.tickAges_restarts : s.tickAges.restarts = s.restarts := rfl
@[simp] theorem State.tickAges_pending : s.tickAges.pending = s.pending := rfl

/-! ### What the updates do -/

@[simp] theorem State.home_setHome (i j : HomeIdx) (h : Home) :
    (s.setHome i h).home j = if j = i then h else s.home j := by
  rcases eq_or_ne j i with rfl | e
  · simp [State.home, State.setHome]
  · have : i.val ≠ j.val := fun v => e (Fin.ext v.symm)
    simp [State.home, State.setHome, this, e]

@[simp] theorem State.home_modHome (i j : HomeIdx) (f : Home → Home) :
    (s.modHome i f).home j = if j = i then f (s.home i) else s.home j := State.home_setHome ..

@[simp] theorem State.home_modEntry (i j : HomeIdx) (f : Entry → Entry) :
    (s.modEntry i f).home j = if j = i then { s.home i with entry := f (s.entry i) } else s.home j :=
  State.home_modHome ..

@[simp] theorem State.home_modProgress (i j : HomeIdx) (f : Progress → Progress) :
    (s.modProgress i f).home j =
      if j = i then { s.home i with progress := (s.home i).progress.map f } else s.home j :=
  State.home_modHome ..

@[simp] theorem State.home_setProbes (l : List HomeIdx) (i : HomeIdx) :
    (s.setProbes l).home i =
      { s.home i with entry := { s.entry i with probe := l.contains i } } := by
  simp [State.setProbes, State.home, State.entry]

theorem State.entry_setProbes (l : List HomeIdx) (i : HomeIdx) :
    (s.setProbes l).entry i = { s.entry i with probe := l.contains i } := by
  simp [State.entry]

@[simp] theorem State.home_vacateRetired (i : HomeIdx) :
    s.vacateRetired.home i = if (s.entry i).state = .retired then Home.vacant else s.home i := by
  simp only [State.vacateRetired, State.home, State.entry, Vector.getElem_map]
  rfl

/-- Two states with the same home table hold the same entry at every index. -/
theorem State.home_congr {s t : State} (h : t.homes = s.homes) (i : HomeIdx) : t.home i = s.home i := by
  simp [State.home, h]

theorem State.entry_congr {s t : State} (h : t.homes = s.homes) (i : HomeIdx) : t.entry i = s.entry i := by
  simp [State.entry, State.home_congr h]

/-- A home table is the list of its homes. -/
theorem State.homes_ext {s t : State} (h : ∀ i, t.home i = s.home i) : t.homes = s.homes := by
  apply Vector.ext
  intro i hi
  exact h ⟨i, hi⟩

theorem Counter.pos_injective : Function.Injective Counter.pos := by
  intro a b h
  cases a <;> cases b <;> first | rfl | (exact absurd h (by decide))

/-- A counter gains 1 up to the top of its range, and no other counter moves (R212). -/
@[simp] theorem State.counter_bump (c d : Counter) :
    (s.bump c).counter d = if d = c then min (s.counter c + 1) counterMax else s.counter d := by
  rcases eq_or_ne d c with rfl | e
  · simp [State.counter, State.bump]
  · have h : (Counter.pos c).val ≠ (Counter.pos d).val := fun v =>
      e (Counter.pos_injective (Fin.ext v)).symm
    simp [State.counter, State.bump, h, e]

theorem State.counter_congr {s t : State} (h : t.counters = s.counters) (c : Counter) :
    t.counter c = s.counter c := by
  simp [State.counter, h]

@[simp] theorem State.outbox_post (m : OutMsg) : (s.post m).bus.outbox = s.bus.outbox ++ [m] := rfl

@[simp] theorem State.inbox_post (m : OutMsg) : (s.post m).bus.inbox = s.bus.inbox := rfl

@[simp] theorem State.inbox_popInbox : s.popInbox.bus.inbox = s.bus.inbox.tail := rfl

@[simp] theorem State.outbox_popInbox : s.popInbox.bus.outbox = s.bus.outbox := rfl

@[simp] theorem State.waited_popInbox : s.popInbox.waited = false := rfl

/-! ### The parts of the shelf bus port and of the receiver -/

@[simp] theorem Bus.pass_listenOnly (b : Bus) (t : BitTime) : (b.pass t).listenOnly = b.listenOnly := by cases t <;> rfl
@[simp] theorem Bus.pass_inbox (b : Bus) (t : BitTime) : (b.pass t).inbox = b.inbox := by cases t <;> rfl
@[simp] theorem Bus.pass_outbox (b : Bus) (t : BitTime) : (b.pass t).outbox = b.outbox := by cases t <;> rfl
@[simp] theorem Bus.pass_sending (b : Bus) (t : BitTime) : (b.pass t).sending = b.sending := by cases t <;> rfl

@[simp] theorem Receiver.shift_since (rx : Receiver) : (Receiver.shift rx).since = 0 := rfl
@[simp] theorem Receiver.shift_next (rx : Receiver) : (Receiver.shift rx).next = none := rfl
@[simp] theorem Receiver.shift_arriving (rx : Receiver) : (Receiver.shift rx).arriving = rx.next := rfl
@[simp] theorem Receiver.shift_closing (rx : Receiver) :
    (Receiver.shift rx).closing = rx.closing ++ rx.arriving.toList := rfl

/-! ### settleDecays -/

@[simp] theorem State.settleDecays_straps : s.settleDecays.straps = s.straps := rfl
@[simp] theorem State.settleDecays_clock : s.settleDecays.clock = s.clock := rfl
@[simp] theorem State.settleDecays_enrol : s.settleDecays.enrol = s.enrol := rfl
@[simp] theorem State.settleDecays_bars : s.settleDecays.bars = s.bars := rfl
@[simp] theorem State.settleDecays_planner : s.settleDecays.planner = s.planner := rfl
@[simp] theorem State.settleDecays_framer : s.settleDecays.framer = s.framer := rfl
@[simp] theorem State.settleDecays_rx : s.settleDecays.rx = s.rx := rfl
@[simp] theorem State.settleDecays_light : s.settleDecays.light = s.light := rfl
@[simp] theorem State.settleDecays_ring : s.settleDecays.ring = s.ring := rfl
@[simp] theorem State.settleDecays_banks : s.settleDecays.banks = s.banks := rfl
@[simp] theorem State.settleDecays_toSwitch : s.settleDecays.toSwitch = s.toSwitch := rfl
@[simp] theorem State.settleDecays_bus : s.settleDecays.bus = s.bus := rfl
@[simp] theorem State.settleDecays_setup : s.settleDecays.setup = s.setup := rfl
@[simp] theorem State.settleDecays_waited : s.settleDecays.waited = s.waited := rfl
@[simp] theorem State.settleDecays_counters : s.settleDecays.counters = s.counters := rfl
@[simp] theorem State.settleDecays_restarts : s.settleDecays.restarts = s.restarts := rfl
@[simp] theorem State.settleDecays_pending : s.settleDecays.pending = s.pending := rfl
@[simp] theorem State.settleDecays_rogue : s.settleDecays.rogue = { s.rogue with owed := [] } := rfl

/-! ### loseStep -/

@[simp] theorem State.loseStep_straps : s.loseStep.straps = s.straps := rfl
@[simp] theorem State.loseStep_clock : s.loseStep.clock = s.clock := rfl
@[simp] theorem State.loseStep_homes : s.loseStep.homes = s.homes := rfl
@[simp] theorem State.loseStep_enrol : s.loseStep.enrol = s.enrol := rfl
@[simp] theorem State.loseStep_bars : s.loseStep.bars = s.bars := rfl
@[simp] theorem State.loseStep_planner : s.loseStep.planner = s.planner := rfl
@[simp] theorem State.loseStep_framer : s.loseStep.framer = s.framer := rfl
@[simp] theorem State.loseStep_rx : s.loseStep.rx = s.rx := rfl
@[simp] theorem State.loseStep_light : s.loseStep.light = s.light := rfl
@[simp] theorem State.loseStep_rogue : s.loseStep.rogue = s.rogue := rfl
@[simp] theorem State.loseStep_ring : s.loseStep.ring = s.ring := rfl
@[simp] theorem State.loseStep_banks : s.loseStep.banks = s.banks := rfl
@[simp] theorem State.loseStep_toSwitch : s.loseStep.toSwitch = s.toSwitch := rfl
@[simp] theorem State.loseStep_setup : s.loseStep.setup = s.setup := rfl
@[simp] theorem State.loseStep_waited : s.loseStep.waited = s.waited := rfl
@[simp] theorem State.loseStep_restarts : s.loseStep.restarts = s.restarts := rfl
@[simp] theorem State.loseStep_pending : s.loseStep.pending = s.pending := rfl
@[simp] theorem State.loseStep_bus : s.loseStep.bus = { s.bus with ready := false } := rfl

end Sys2Proof.Machine
end

