-- ==== Sys2Proof/Laws/Ops.lean ====
section
/-! SUPPORT. What each shared operation can do, said once: the fields it leaves alone, and its effect on the others. -/

namespace Sys2Proof.Machine

open Sys2Proof

variable (s : State)

/-! ### The fields each operation leaves alone -/

@[simp] theorem State.raise_straps (n : Notice) : (s.raise n).straps = s.straps := by
  unfold State.raise; split <;> rfl
@[simp] theorem State.raise_clock (n : Notice) : (s.raise n).clock = s.clock := by
  unfold State.raise; split <;> rfl
@[simp] theorem State.raise_homes (n : Notice) : (s.raise n).homes = s.homes := by
  unfold State.raise; split <;> rfl
@[simp] theorem State.raise_enrol (n : Notice) : (s.raise n).enrol = s.enrol := by
  unfold State.raise; split <;> rfl
@[simp] theorem State.raise_bars (n : Notice) : (s.raise n).bars = s.bars := by
  unfold State.raise; split <;> rfl
@[simp] theorem State.raise_planner (n : Notice) : (s.raise n).planner = s.planner := by
  unfold State.raise; split <;> rfl
@[simp] theorem State.raise_framer (n : Notice) : (s.raise n).framer = s.framer := by
  unfold State.raise; split <;> rfl
@[simp] theorem State.raise_rx (n : Notice) : (s.raise n).rx = s.rx := by
  unfold State.raise; split <;> rfl
@[simp] theorem State.raise_light (n : Notice) : (s.raise n).light = s.light := by
  unfold State.raise; split <;> rfl
@[simp] theorem State.raise_rogue (n : Notice) : (s.raise n).rogue = s.rogue := by
  unfold State.raise; split <;> rfl
@[simp] theorem State.raise_ring (n : Notice) : (s.raise n).ring = s.ring := by
  unfold State.raise; split <;> rfl
@[simp] theorem State.raise_banks (n : Notice) : (s.raise n).banks = s.banks := by
  unfold State.raise; split <;> rfl
@[simp] theorem State.raise_toSwitch (n : Notice) : (s.raise n).toSwitch = s.toSwitch := by
  unfold State.raise; split <;> rfl
@[simp] theorem State.raise_setup (n : Notice) : (s.raise n).setup = s.setup := by
  unfold State.raise; split <;> rfl
@[simp] theorem State.raise_waited (n : Notice) : (s.raise n).waited = s.waited := by
  unfold State.raise; split <;> rfl
@[simp] theorem State.raise_restarts (n : Notice) : (s.raise n).restarts = s.restarts := by
  unfold State.raise; split <;> rfl
@[simp] theorem State.raise_pending (n : Notice) : (s.raise n).pending = s.pending := by
  unfold State.raise; split <;> rfl

@[simp] theorem State.sendPeer_straps (m : OutMsg) : (s.sendPeer m).straps = s.straps := by
  unfold State.sendPeer; split <;> rfl
@[simp] theorem State.sendPeer_clock (m : OutMsg) : (s.sendPeer m).clock = s.clock := by
  unfold State.sendPeer; split <;> rfl
@[simp] theorem State.sendPeer_homes (m : OutMsg) : (s.sendPeer m).homes = s.homes := by
  unfold State.sendPeer; split <;> rfl
@[simp] theorem State.sendPeer_enrol (m : OutMsg) : (s.sendPeer m).enrol = s.enrol := by
  unfold State.sendPeer; split <;> rfl
@[simp] theorem State.sendPeer_bars (m : OutMsg) : (s.sendPeer m).bars = s.bars := by
  unfold State.sendPeer; split <;> rfl
@[simp] theorem State.sendPeer_planner (m : OutMsg) : (s.sendPeer m).planner = s.planner := by
  unfold State.sendPeer; split <;> rfl
@[simp] theorem State.sendPeer_framer (m : OutMsg) : (s.sendPeer m).framer = s.framer := by
  unfold State.sendPeer; split <;> rfl
@[simp] theorem State.sendPeer_rx (m : OutMsg) : (s.sendPeer m).rx = s.rx := by
  unfold State.sendPeer; split <;> rfl
@[simp] theorem State.sendPeer_light (m : OutMsg) : (s.sendPeer m).light = s.light := by
  unfold State.sendPeer; split <;> rfl
@[simp] theorem State.sendPeer_rogue (m : OutMsg) : (s.sendPeer m).rogue = s.rogue := by
  unfold State.sendPeer; split <;> rfl
@[simp] theorem State.sendPeer_ring (m : OutMsg) : (s.sendPeer m).ring = s.ring := by
  unfold State.sendPeer; split <;> rfl
@[simp] theorem State.sendPeer_banks (m : OutMsg) : (s.sendPeer m).banks = s.banks := by
  unfold State.sendPeer; split <;> rfl
@[simp] theorem State.sendPeer_toSwitch (m : OutMsg) : (s.sendPeer m).toSwitch = s.toSwitch := by
  unfold State.sendPeer; split <;> rfl
@[simp] theorem State.sendPeer_setup (m : OutMsg) : (s.sendPeer m).setup = s.setup := by
  unfold State.sendPeer; split <;> rfl
@[simp] theorem State.sendPeer_waited (m : OutMsg) : (s.sendPeer m).waited = s.waited := by
  unfold State.sendPeer; split <;> rfl
@[simp] theorem State.sendPeer_restarts (m : OutMsg) : (s.sendPeer m).restarts = s.restarts := by
  unfold State.sendPeer; split <;> rfl
@[simp] theorem State.sendPeer_pending (m : OutMsg) : (s.sendPeer m).pending = s.pending := by
  unfold State.sendPeer; split <;> rfl

@[simp] theorem State.pushDirective_straps (d : Directive) : (s.pushDirective d).straps = s.straps := by
  cases d <;> rfl
@[simp] theorem State.pushDirective_clock (d : Directive) : (s.pushDirective d).clock = s.clock := by
  cases d <;> rfl
@[simp] theorem State.pushDirective_enrol (d : Directive) : (s.pushDirective d).enrol = s.enrol := by
  cases d <;> rfl
@[simp] theorem State.pushDirective_bars (d : Directive) : (s.pushDirective d).bars = s.bars := by
  cases d <;> rfl
@[simp] theorem State.pushDirective_planner (d : Directive) : (s.pushDirective d).planner = s.planner := by
  cases d <;> rfl
@[simp] theorem State.pushDirective_rx (d : Directive) : (s.pushDirective d).rx = s.rx := by
  cases d <;> rfl
@[simp] theorem State.pushDirective_light (d : Directive) : (s.pushDirective d).light = s.light := by
  cases d <;> rfl
@[simp] theorem State.pushDirective_rogue (d : Directive) : (s.pushDirective d).rogue = s.rogue := by
  cases d <;> rfl
@[simp] theorem State.pushDirective_ring (d : Directive) : (s.pushDirective d).ring = s.ring := by
  cases d <;> rfl
@[simp] theorem State.pushDirective_banks (d : Directive) : (s.pushDirective d).banks = s.banks := by
  cases d <;> rfl
@[simp] theorem State.pushDirective_toSwitch (d : Directive) : (s.pushDirective d).toSwitch = s.toSwitch := by
  cases d <;> rfl
@[simp] theorem State.pushDirective_bus (d : Directive) : (s.pushDirective d).bus = s.bus := by
  cases d <;> rfl
@[simp] theorem State.pushDirective_setup (d : Directive) : (s.pushDirective d).setup = s.setup := by
  cases d <;> rfl
@[simp] theorem State.pushDirective_waited (d : Directive) : (s.pushDirective d).waited = s.waited := by
  cases d <;> rfl
@[simp] theorem State.pushDirective_counters (d : Directive) : (s.pushDirective d).counters = s.counters := by
  cases d <;> rfl
@[simp] theorem State.pushDirective_restarts (d : Directive) : (s.pushDirective d).restarts = s.restarts := by
  cases d <;> rfl
@[simp] theorem State.pushDirective_pending (d : Directive) : (s.pushDirective d).pending = s.pending := by
  cases d <;> rfl

@[simp] theorem State.offerLeave_straps (d : Directive) : (s.offerLeave d).straps = s.straps := by
  unfold State.offerLeave; split <;> simp
@[simp] theorem State.offerLeave_clock (d : Directive) : (s.offerLeave d).clock = s.clock := by
  unfold State.offerLeave; split <;> simp
@[simp] theorem State.offerLeave_enrol (d : Directive) : (s.offerLeave d).enrol = s.enrol := by
  unfold State.offerLeave; split <;> simp
@[simp] theorem State.offerLeave_bars (d : Directive) : (s.offerLeave d).bars = s.bars := by
  unfold State.offerLeave; split <;> simp
@[simp] theorem State.offerLeave_planner (d : Directive) : (s.offerLeave d).planner = s.planner := by
  unfold State.offerLeave; split <;> simp
@[simp] theorem State.offerLeave_rx (d : Directive) : (s.offerLeave d).rx = s.rx := by
  unfold State.offerLeave; split <;> simp
@[simp] theorem State.offerLeave_light (d : Directive) : (s.offerLeave d).light = s.light := by
  unfold State.offerLeave; split <;> simp
@[simp] theorem State.offerLeave_rogue (d : Directive) : (s.offerLeave d).rogue = s.rogue := by
  unfold State.offerLeave; split <;> simp
@[simp] theorem State.offerLeave_ring (d : Directive) : (s.offerLeave d).ring = s.ring := by
  unfold State.offerLeave; split <;> simp
@[simp] theorem State.offerLeave_banks (d : Directive) : (s.offerLeave d).banks = s.banks := by
  unfold State.offerLeave; split <;> simp
@[simp] theorem State.offerLeave_toSwitch (d : Directive) : (s.offerLeave d).toSwitch = s.toSwitch := by
  unfold State.offerLeave; split <;> simp
@[simp] theorem State.offerLeave_bus (d : Directive) : (s.offerLeave d).bus = s.bus := by
  unfold State.offerLeave; split <;> simp
@[simp] theorem State.offerLeave_setup (d : Directive) : (s.offerLeave d).setup = s.setup := by
  unfold State.offerLeave; split <;> simp
@[simp] theorem State.offerLeave_waited (d : Directive) : (s.offerLeave d).waited = s.waited := by
  unfold State.offerLeave; split <;> simp
@[simp] theorem State.offerLeave_restarts (d : Directive) : (s.offerLeave d).restarts = s.restarts := by
  unfold State.offerLeave; split <;> simp
@[simp] theorem State.offerLeave_pending (d : Directive) : (s.offerLeave d).pending = s.pending := by
  unfold State.offerLeave; split <;> simp

@[simp] theorem State.offerEnrol_straps (i : HomeIdx) (d : Directive) : (s.offerEnrol i d).straps = s.straps := by
  unfold State.offerEnrol; split <;> simp
@[simp] theorem State.offerEnrol_clock (i : HomeIdx) (d : Directive) : (s.offerEnrol i d).clock = s.clock := by
  unfold State.offerEnrol; split <;> simp
@[simp] theorem State.offerEnrol_enrol (i : HomeIdx) (d : Directive) : (s.offerEnrol i d).enrol = s.enrol := by
  unfold State.offerEnrol; split <;> simp
@[simp] theorem State.offerEnrol_bars (i : HomeIdx) (d : Directive) : (s.offerEnrol i d).bars = s.bars := by
  unfold State.offerEnrol; split <;> simp
@[simp] theorem State.offerEnrol_planner (i : HomeIdx) (d : Directive) : (s.offerEnrol i d).planner = s.planner := by
  unfold State.offerEnrol; split <;> simp
@[simp] theorem State.offerEnrol_rx (i : HomeIdx) (d : Directive) : (s.offerEnrol i d).rx = s.rx := by
  unfold State.offerEnrol; split <;> simp
@[simp] theorem State.offerEnrol_light (i : HomeIdx) (d : Directive) : (s.offerEnrol i d).light = s.light := by
  unfold State.offerEnrol; split <;> simp
@[simp] theorem State.offerEnrol_rogue (i : HomeIdx) (d : Directive) : (s.offerEnrol i d).rogue = s.rogue := by
  unfold State.offerEnrol; split <;> simp
@[simp] theorem State.offerEnrol_ring (i : HomeIdx) (d : Directive) : (s.offerEnrol i d).ring = s.ring := by
  unfold State.offerEnrol; split <;> simp
@[simp] theorem State.offerEnrol_banks (i : HomeIdx) (d : Directive) : (s.offerEnrol i d).banks = s.banks := by
  unfold State.offerEnrol; split <;> simp
@[simp] theorem State.offerEnrol_toSwitch (i : HomeIdx) (d : Directive) : (s.offerEnrol i d).toSwitch = s.toSwitch := by
  unfold State.offerEnrol; split <;> simp
@[simp] theorem State.offerEnrol_bus (i : HomeIdx) (d : Directive) : (s.offerEnrol i d).bus = s.bus := by
  unfold State.offerEnrol; split <;> simp
@[simp] theorem State.offerEnrol_setup (i : HomeIdx) (d : Directive) : (s.offerEnrol i d).setup = s.setup := by
  unfold State.offerEnrol; split <;> simp
@[simp] theorem State.offerEnrol_waited (i : HomeIdx) (d : Directive) : (s.offerEnrol i d).waited = s.waited := by
  unfold State.offerEnrol; split <;> simp
@[simp] theorem State.offerEnrol_restarts (i : HomeIdx) (d : Directive) : (s.offerEnrol i d).restarts = s.restarts := by
  unfold State.offerEnrol; split <;> simp
@[simp] theorem State.offerEnrol_pending (i : HomeIdx) (d : Directive) : (s.offerEnrol i d).pending = s.pending := by
  unfold State.offerEnrol; split <;> simp

@[simp] theorem State.offerWake_straps (i : HomeIdx) : (s.offerWake i).straps = s.straps := by
  unfold State.offerWake; split <;> simp
@[simp] theorem State.offerWake_clock (i : HomeIdx) : (s.offerWake i).clock = s.clock := by
  unfold State.offerWake; split <;> simp
@[simp] theorem State.offerWake_enrol (i : HomeIdx) : (s.offerWake i).enrol = s.enrol := by
  unfold State.offerWake; split <;> simp
@[simp] theorem State.offerWake_bars (i : HomeIdx) : (s.offerWake i).bars = s.bars := by
  unfold State.offerWake; split <;> simp
@[simp] theorem State.offerWake_planner (i : HomeIdx) : (s.offerWake i).planner = s.planner := by
  unfold State.offerWake; split <;> simp
@[simp] theorem State.offerWake_rx (i : HomeIdx) : (s.offerWake i).rx = s.rx := by
  unfold State.offerWake; split <;> simp
@[simp] theorem State.offerWake_light (i : HomeIdx) : (s.offerWake i).light = s.light := by
  unfold State.offerWake; split <;> simp
@[simp] theorem State.offerWake_rogue (i : HomeIdx) : (s.offerWake i).rogue = s.rogue := by
  unfold State.offerWake; split <;> simp
@[simp] theorem State.offerWake_ring (i : HomeIdx) : (s.offerWake i).ring = s.ring := by
  unfold State.offerWake; split <;> simp
@[simp] theorem State.offerWake_banks (i : HomeIdx) : (s.offerWake i).banks = s.banks := by
  unfold State.offerWake; split <;> simp
@[simp] theorem State.offerWake_toSwitch (i : HomeIdx) : (s.offerWake i).toSwitch = s.toSwitch := by
  unfold State.offerWake; split <;> simp
@[simp] theorem State.offerWake_bus (i : HomeIdx) : (s.offerWake i).bus = s.bus := by
  unfold State.offerWake; split <;> simp
@[simp] theorem State.offerWake_setup (i : HomeIdx) : (s.offerWake i).setup = s.setup := by
  unfold State.offerWake; split <;> simp
@[simp] theorem State.offerWake_waited (i : HomeIdx) : (s.offerWake i).waited = s.waited := by
  unfold State.offerWake; split <;> simp
@[simp] theorem State.offerWake_restarts (i : HomeIdx) : (s.offerWake i).restarts = s.restarts := by
  unfold State.offerWake; split <;> simp
@[simp] theorem State.offerWake_pending (i : HomeIdx) : (s.offerWake i).pending = s.pending := by
  unfold State.offerWake; split <;> simp

@[simp] theorem State.offerCorrection_straps (i : HomeIdx) (n : Nat) : (s.offerCorrection i n).straps = s.straps := by
  unfold State.offerCorrection; split <;> simp
@[simp] theorem State.offerCorrection_clock (i : HomeIdx) (n : Nat) : (s.offerCorrection i n).clock = s.clock := by
  unfold State.offerCorrection; split <;> simp
@[simp] theorem State.offerCorrection_enrol (i : HomeIdx) (n : Nat) : (s.offerCorrection i n).enrol = s.enrol := by
  unfold State.offerCorrection; split <;> simp
@[simp] theorem State.offerCorrection_bars (i : HomeIdx) (n : Nat) : (s.offerCorrection i n).bars = s.bars := by
  unfold State.offerCorrection; split <;> simp
@[simp] theorem State.offerCorrection_planner (i : HomeIdx) (n : Nat) : (s.offerCorrection i n).planner = s.planner := by
  unfold State.offerCorrection; split <;> simp
@[simp] theorem State.offerCorrection_rx (i : HomeIdx) (n : Nat) : (s.offerCorrection i n).rx = s.rx := by
  unfold State.offerCorrection; split <;> simp
@[simp] theorem State.offerCorrection_light (i : HomeIdx) (n : Nat) : (s.offerCorrection i n).light = s.light := by
  unfold State.offerCorrection; split <;> simp
@[simp] theorem State.offerCorrection_rogue (i : HomeIdx) (n : Nat) : (s.offerCorrection i n).rogue = s.rogue := by
  unfold State.offerCorrection; split <;> simp
@[simp] theorem State.offerCorrection_ring (i : HomeIdx) (n : Nat) : (s.offerCorrection i n).ring = s.ring := by
  unfold State.offerCorrection; split <;> simp
@[simp] theorem State.offerCorrection_banks (i : HomeIdx) (n : Nat) : (s.offerCorrection i n).banks = s.banks := by
  unfold State.offerCorrection; split <;> simp
@[simp] theorem State.offerCorrection_toSwitch (i : HomeIdx) (n : Nat) : (s.offerCorrection i n).toSwitch = s.toSwitch := by
  unfold State.offerCorrection; split <;> simp
@[simp] theorem State.offerCorrection_bus (i : HomeIdx) (n : Nat) : (s.offerCorrection i n).bus = s.bus := by
  unfold State.offerCorrection; split <;> simp
@[simp] theorem State.offerCorrection_setup (i : HomeIdx) (n : Nat) : (s.offerCorrection i n).setup = s.setup := by
  unfold State.offerCorrection; split <;> simp
@[simp] theorem State.offerCorrection_waited (i : HomeIdx) (n : Nat) : (s.offerCorrection i n).waited = s.waited := by
  unfold State.offerCorrection; split <;> simp
@[simp] theorem State.offerCorrection_restarts (i : HomeIdx) (n : Nat) : (s.offerCorrection i n).restarts = s.restarts := by
  unfold State.offerCorrection; split <;> simp
@[simp] theorem State.offerCorrection_pending (i : HomeIdx) (n : Nat) : (s.offerCorrection i n).pending = s.pending := by
  unfold State.offerCorrection; split <;> simp

@[simp] theorem State.addBar_straps (t : Tag) (r : BarReason) (o : Station) : (s.addBar t r o).straps = s.straps := by
  simp only [State.addBar]; split <;> [rfl; (split <;> rfl)]
@[simp] theorem State.addBar_clock (t : Tag) (r : BarReason) (o : Station) : (s.addBar t r o).clock = s.clock := by
  simp only [State.addBar]; split <;> [rfl; (split <;> rfl)]
@[simp] theorem State.addBar_homes (t : Tag) (r : BarReason) (o : Station) : (s.addBar t r o).homes = s.homes := by
  simp only [State.addBar]; split <;> [rfl; (split <;> rfl)]
@[simp] theorem State.addBar_enrol (t : Tag) (r : BarReason) (o : Station) : (s.addBar t r o).enrol = s.enrol := by
  simp only [State.addBar]; split <;> [rfl; (split <;> rfl)]
@[simp] theorem State.addBar_planner (t : Tag) (r : BarReason) (o : Station) : (s.addBar t r o).planner = s.planner := by
  simp only [State.addBar]; split <;> [rfl; (split <;> rfl)]
@[simp] theorem State.addBar_framer (t : Tag) (r : BarReason) (o : Station) : (s.addBar t r o).framer = s.framer := by
  simp only [State.addBar]; split <;> [rfl; (split <;> rfl)]
@[simp] theorem State.addBar_rx (t : Tag) (r : BarReason) (o : Station) : (s.addBar t r o).rx = s.rx := by
  simp only [State.addBar]; split <;> [rfl; (split <;> rfl)]
@[simp] theorem State.addBar_light (t : Tag) (r : BarReason) (o : Station) : (s.addBar t r o).light = s.light := by
  simp only [State.addBar]; split <;> [rfl; (split <;> rfl)]
@[simp] theorem State.addBar_rogue (t : Tag) (r : BarReason) (o : Station) : (s.addBar t r o).rogue = s.rogue := by
  simp only [State.addBar]; split <;> [rfl; (split <;> rfl)]
@[simp] theorem State.addBar_ring (t : Tag) (r : BarReason) (o : Station) : (s.addBar t r o).ring = s.ring := by
  simp only [State.addBar]; split <;> [rfl; (split <;> rfl)]
@[simp] theorem State.addBar_banks (t : Tag) (r : BarReason) (o : Station) : (s.addBar t r o).banks = s.banks := by
  simp only [State.addBar]; split <;> [rfl; (split <;> rfl)]
@[simp] theorem State.addBar_toSwitch (t : Tag) (r : BarReason) (o : Station) : (s.addBar t r o).toSwitch = s.toSwitch := by
  simp only [State.addBar]; split <;> [rfl; (split <;> rfl)]
@[simp] theorem State.addBar_bus (t : Tag) (r : BarReason) (o : Station) : (s.addBar t r o).bus = s.bus := by
  simp only [State.addBar]; split <;> [rfl; (split <;> rfl)]
@[simp] theorem State.addBar_setup (t : Tag) (r : BarReason) (o : Station) : (s.addBar t r o).setup = s.setup := by
  simp only [State.addBar]; split <;> [rfl; (split <;> rfl)]
@[simp] theorem State.addBar_waited (t : Tag) (r : BarReason) (o : Station) : (s.addBar t r o).waited = s.waited := by
  simp only [State.addBar]; split <;> [rfl; (split <;> rfl)]
@[simp] theorem State.addBar_restarts (t : Tag) (r : BarReason) (o : Station) : (s.addBar t r o).restarts = s.restarts := by
  simp only [State.addBar]; split <;> [rfl; (split <;> rfl)]
@[simp] theorem State.addBar_pending (t : Tag) (r : BarReason) (o : Station) : (s.addBar t r o).pending = s.pending := by
  simp only [State.addBar]; split <;> [rfl; (split <;> rfl)]

@[simp] theorem State.endUnresolved_straps (u : UnresolvedReason) (r : Round) (n : Nat) (l : List HomeIdx) : (s.endUnresolved u r n l).straps = s.straps := by
  simp [State.endUnresolved]
@[simp] theorem State.endUnresolved_clock (u : UnresolvedReason) (r : Round) (n : Nat) (l : List HomeIdx) : (s.endUnresolved u r n l).clock = s.clock := by
  simp [State.endUnresolved]
@[simp] theorem State.endUnresolved_enrol (u : UnresolvedReason) (r : Round) (n : Nat) (l : List HomeIdx) : (s.endUnresolved u r n l).enrol = s.enrol := by
  simp [State.endUnresolved]
@[simp] theorem State.endUnresolved_bars (u : UnresolvedReason) (r : Round) (n : Nat) (l : List HomeIdx) : (s.endUnresolved u r n l).bars = s.bars := by
  simp [State.endUnresolved]
@[simp] theorem State.endUnresolved_planner (u : UnresolvedReason) (r : Round) (n : Nat) (l : List HomeIdx) : (s.endUnresolved u r n l).planner = s.planner := by
  simp [State.endUnresolved]
@[simp] theorem State.endUnresolved_framer (u : UnresolvedReason) (r : Round) (n : Nat) (l : List HomeIdx) : (s.endUnresolved u r n l).framer = s.framer := by
  simp [State.endUnresolved]
@[simp] theorem State.endUnresolved_rx (u : UnresolvedReason) (r : Round) (n : Nat) (l : List HomeIdx) : (s.endUnresolved u r n l).rx = s.rx := by
  simp [State.endUnresolved]
@[simp] theorem State.endUnresolved_light (u : UnresolvedReason) (r : Round) (n : Nat) (l : List HomeIdx) : (s.endUnresolved u r n l).light = s.light := by
  simp [State.endUnresolved]
@[simp] theorem State.endUnresolved_ring (u : UnresolvedReason) (r : Round) (n : Nat) (l : List HomeIdx) : (s.endUnresolved u r n l).ring = s.ring := by
  simp [State.endUnresolved]
@[simp] theorem State.endUnresolved_banks (u : UnresolvedReason) (r : Round) (n : Nat) (l : List HomeIdx) : (s.endUnresolved u r n l).banks = s.banks := by
  simp [State.endUnresolved]
@[simp] theorem State.endUnresolved_toSwitch (u : UnresolvedReason) (r : Round) (n : Nat) (l : List HomeIdx) : (s.endUnresolved u r n l).toSwitch = s.toSwitch := by
  simp [State.endUnresolved]
@[simp] theorem State.endUnresolved_setup (u : UnresolvedReason) (r : Round) (n : Nat) (l : List HomeIdx) : (s.endUnresolved u r n l).setup = s.setup := by
  simp [State.endUnresolved]
@[simp] theorem State.endUnresolved_waited (u : UnresolvedReason) (r : Round) (n : Nat) (l : List HomeIdx) : (s.endUnresolved u r n l).waited = s.waited := by
  simp [State.endUnresolved]
@[simp] theorem State.endUnresolved_restarts (u : UnresolvedReason) (r : Round) (n : Nat) (l : List HomeIdx) : (s.endUnresolved u r n l).restarts = s.restarts := by
  simp [State.endUnresolved]
@[simp] theorem State.endUnresolved_pending (u : UnresolvedReason) (r : Round) (n : Nat) (l : List HomeIdx) : (s.endUnresolved u r n l).pending = s.pending := by
  simp [State.endUnresolved]

@[simp] theorem State.dropCandidate_straps (i : HomeIdx) (r : Round) : (s.dropCandidate i r).straps = s.straps := by
  simp only [State.dropCandidate]; split <;> [skip; rfl]; split <;> [skip; rfl]; split <;> simp
@[simp] theorem State.dropCandidate_clock (i : HomeIdx) (r : Round) : (s.dropCandidate i r).clock = s.clock := by
  simp only [State.dropCandidate]; split <;> [skip; rfl]; split <;> [skip; rfl]; split <;> simp
@[simp] theorem State.dropCandidate_enrol (i : HomeIdx) (r : Round) : (s.dropCandidate i r).enrol = s.enrol := by
  simp only [State.dropCandidate]; split <;> [skip; rfl]; split <;> [skip; rfl]; split <;> simp
@[simp] theorem State.dropCandidate_bars (i : HomeIdx) (r : Round) : (s.dropCandidate i r).bars = s.bars := by
  simp only [State.dropCandidate]; split <;> [skip; rfl]; split <;> [skip; rfl]; split <;> simp
@[simp] theorem State.dropCandidate_planner (i : HomeIdx) (r : Round) : (s.dropCandidate i r).planner = s.planner := by
  simp only [State.dropCandidate]; split <;> [skip; rfl]; split <;> [skip; rfl]; split <;> simp
@[simp] theorem State.dropCandidate_framer (i : HomeIdx) (r : Round) : (s.dropCandidate i r).framer = s.framer := by
  simp only [State.dropCandidate]; split <;> [skip; rfl]; split <;> [skip; rfl]; split <;> simp
@[simp] theorem State.dropCandidate_rx (i : HomeIdx) (r : Round) : (s.dropCandidate i r).rx = s.rx := by
  simp only [State.dropCandidate]; split <;> [skip; rfl]; split <;> [skip; rfl]; split <;> simp
@[simp] theorem State.dropCandidate_light (i : HomeIdx) (r : Round) : (s.dropCandidate i r).light = s.light := by
  simp only [State.dropCandidate]; split <;> [skip; rfl]; split <;> [skip; rfl]; split <;> simp
@[simp] theorem State.dropCandidate_ring (i : HomeIdx) (r : Round) : (s.dropCandidate i r).ring = s.ring := by
  simp only [State.dropCandidate]; split <;> [skip; rfl]; split <;> [skip; rfl]; split <;> simp
@[simp] theorem State.dropCandidate_banks (i : HomeIdx) (r : Round) : (s.dropCandidate i r).banks = s.banks := by
  simp only [State.dropCandidate]; split <;> [skip; rfl]; split <;> [skip; rfl]; split <;> simp
@[simp] theorem State.dropCandidate_toSwitch (i : HomeIdx) (r : Round) : (s.dropCandidate i r).toSwitch = s.toSwitch := by
  simp only [State.dropCandidate]; split <;> [skip; rfl]; split <;> [skip; rfl]; split <;> simp
@[simp] theorem State.dropCandidate_setup (i : HomeIdx) (r : Round) : (s.dropCandidate i r).setup = s.setup := by
  simp only [State.dropCandidate]; split <;> [skip; rfl]; split <;> [skip; rfl]; split <;> simp
@[simp] theorem State.dropCandidate_waited (i : HomeIdx) (r : Round) : (s.dropCandidate i r).waited = s.waited := by
  simp only [State.dropCandidate]; split <;> [skip; rfl]; split <;> [skip; rfl]; split <;> simp
@[simp] theorem State.dropCandidate_restarts (i : HomeIdx) (r : Round) : (s.dropCandidate i r).restarts = s.restarts := by
  simp only [State.dropCandidate]; split <;> [skip; rfl]; split <;> [skip; rfl]; split <;> simp
@[simp] theorem State.dropCandidate_pending (i : HomeIdx) (r : Round) : (s.dropCandidate i r).pending = s.pending := by
  simp only [State.dropCandidate]; split <;> [skip; rfl]; split <;> [skip; rfl]; split <;> simp

@[simp] theorem State.cancelRetest_straps (i : HomeIdx) : (s.cancelRetest i).straps = s.straps := by
  unfold State.cancelRetest; split <;> simp
@[simp] theorem State.cancelRetest_clock (i : HomeIdx) : (s.cancelRetest i).clock = s.clock := by
  unfold State.cancelRetest; split <;> simp
@[simp] theorem State.cancelRetest_enrol (i : HomeIdx) : (s.cancelRetest i).enrol = s.enrol := by
  unfold State.cancelRetest; split <;> simp
@[simp] theorem State.cancelRetest_bars (i : HomeIdx) : (s.cancelRetest i).bars = s.bars := by
  unfold State.cancelRetest; split <;> simp
@[simp] theorem State.cancelRetest_planner (i : HomeIdx) : (s.cancelRetest i).planner = s.planner := by
  unfold State.cancelRetest; split <;> simp
@[simp] theorem State.cancelRetest_framer (i : HomeIdx) : (s.cancelRetest i).framer = s.framer := by
  unfold State.cancelRetest; split <;> simp
@[simp] theorem State.cancelRetest_rx (i : HomeIdx) : (s.cancelRetest i).rx = s.rx := by
  unfold State.cancelRetest; split <;> simp
@[simp] theorem State.cancelRetest_light (i : HomeIdx) : (s.cancelRetest i).light = s.light := by
  unfold State.cancelRetest; split <;> simp
@[simp] theorem State.cancelRetest_rogue (i : HomeIdx) : (s.cancelRetest i).rogue = s.rogue := by
  unfold State.cancelRetest; split <;> simp
@[simp] theorem State.cancelRetest_ring (i : HomeIdx) : (s.cancelRetest i).ring = s.ring := by
  unfold State.cancelRetest; split <;> simp
@[simp] theorem State.cancelRetest_banks (i : HomeIdx) : (s.cancelRetest i).banks = s.banks := by
  unfold State.cancelRetest; split <;> simp
@[simp] theorem State.cancelRetest_toSwitch (i : HomeIdx) : (s.cancelRetest i).toSwitch = s.toSwitch := by
  unfold State.cancelRetest; split <;> simp
@[simp] theorem State.cancelRetest_setup (i : HomeIdx) : (s.cancelRetest i).setup = s.setup := by
  unfold State.cancelRetest; split <;> simp
@[simp] theorem State.cancelRetest_waited (i : HomeIdx) : (s.cancelRetest i).waited = s.waited := by
  unfold State.cancelRetest; split <;> simp
@[simp] theorem State.cancelRetest_restarts (i : HomeIdx) : (s.cancelRetest i).restarts = s.restarts := by
  unfold State.cancelRetest; split <;> simp
@[simp] theorem State.cancelRetest_pending (i : HomeIdx) : (s.cancelRetest i).pending = s.pending := by
  unfold State.cancelRetest; split <;> simp

@[simp] theorem State.flagRecord_straps (i : HomeIdx) (f : RecFlags → RecFlags) : (s.flagRecord i f).straps = s.straps := by
  simp only [State.flagRecord]; split <;> [rfl; (split <;> rfl)]
@[simp] theorem State.flagRecord_clock (i : HomeIdx) (f : RecFlags → RecFlags) : (s.flagRecord i f).clock = s.clock := by
  simp only [State.flagRecord]; split <;> [rfl; (split <;> rfl)]
@[simp] theorem State.flagRecord_homes (i : HomeIdx) (f : RecFlags → RecFlags) : (s.flagRecord i f).homes = s.homes := by
  simp only [State.flagRecord]; split <;> [rfl; (split <;> rfl)]
@[simp] theorem State.flagRecord_enrol (i : HomeIdx) (f : RecFlags → RecFlags) : (s.flagRecord i f).enrol = s.enrol := by
  simp only [State.flagRecord]; split <;> [rfl; (split <;> rfl)]
@[simp] theorem State.flagRecord_bars (i : HomeIdx) (f : RecFlags → RecFlags) : (s.flagRecord i f).bars = s.bars := by
  simp only [State.flagRecord]; split <;> [rfl; (split <;> rfl)]
@[simp] theorem State.flagRecord_planner (i : HomeIdx) (f : RecFlags → RecFlags) : (s.flagRecord i f).planner = s.planner := by
  simp only [State.flagRecord]; split <;> [rfl; (split <;> rfl)]
@[simp] theorem State.flagRecord_framer (i : HomeIdx) (f : RecFlags → RecFlags) : (s.flagRecord i f).framer = s.framer := by
  simp only [State.flagRecord]; split <;> [rfl; (split <;> rfl)]
@[simp] theorem State.flagRecord_rx (i : HomeIdx) (f : RecFlags → RecFlags) : (s.flagRecord i f).rx = s.rx := by
  simp only [State.flagRecord]; split <;> [rfl; (split <;> rfl)]
@[simp] theorem State.flagRecord_light (i : HomeIdx) (f : RecFlags → RecFlags) : (s.flagRecord i f).light = s.light := by
  simp only [State.flagRecord]; split <;> [rfl; (split <;> rfl)]
@[simp] theorem State.flagRecord_rogue (i : HomeIdx) (f : RecFlags → RecFlags) : (s.flagRecord i f).rogue = s.rogue := by
  simp only [State.flagRecord]; split <;> [rfl; (split <;> rfl)]
@[simp] theorem State.flagRecord_ring (i : HomeIdx) (f : RecFlags → RecFlags) : (s.flagRecord i f).ring = s.ring := by
  simp only [State.flagRecord]; split <;> [rfl; (split <;> rfl)]
@[simp] theorem State.flagRecord_toSwitch (i : HomeIdx) (f : RecFlags → RecFlags) : (s.flagRecord i f).toSwitch = s.toSwitch := by
  simp only [State.flagRecord]; split <;> [rfl; (split <;> rfl)]
@[simp] theorem State.flagRecord_bus (i : HomeIdx) (f : RecFlags → RecFlags) : (s.flagRecord i f).bus = s.bus := by
  simp only [State.flagRecord]; split <;> [rfl; (split <;> rfl)]
@[simp] theorem State.flagRecord_setup (i : HomeIdx) (f : RecFlags → RecFlags) : (s.flagRecord i f).setup = s.setup := by
  simp only [State.flagRecord]; split <;> [rfl; (split <;> rfl)]
@[simp] theorem State.flagRecord_waited (i : HomeIdx) (f : RecFlags → RecFlags) : (s.flagRecord i f).waited = s.waited := by
  simp only [State.flagRecord]; split <;> [rfl; (split <;> rfl)]
@[simp] theorem State.flagRecord_counters (i : HomeIdx) (f : RecFlags → RecFlags) : (s.flagRecord i f).counters = s.counters := by
  simp only [State.flagRecord]; split <;> [rfl; (split <;> rfl)]
@[simp] theorem State.flagRecord_restarts (i : HomeIdx) (f : RecFlags → RecFlags) : (s.flagRecord i f).restarts = s.restarts := by
  simp only [State.flagRecord]; split <;> [rfl; (split <;> rfl)]
@[simp] theorem State.flagRecord_pending (i : HomeIdx) (f : RecFlags → RecFlags) : (s.flagRecord i f).pending = s.pending := by
  simp only [State.flagRecord]; split <;> [rfl; (split <;> rfl)]

@[simp] theorem State.vacate_straps (i : HomeIdx) (r : Round) : (s.vacate i r).straps = s.straps := by
  simp [State.vacate]
@[simp] theorem State.vacate_clock (i : HomeIdx) (r : Round) : (s.vacate i r).clock = s.clock := by
  simp [State.vacate]
@[simp] theorem State.vacate_enrol (i : HomeIdx) (r : Round) : (s.vacate i r).enrol = s.enrol := by
  simp [State.vacate]
@[simp] theorem State.vacate_bars (i : HomeIdx) (r : Round) : (s.vacate i r).bars = s.bars := by
  simp [State.vacate]
@[simp] theorem State.vacate_planner (i : HomeIdx) (r : Round) : (s.vacate i r).planner = s.planner := by
  simp [State.vacate]
@[simp] theorem State.vacate_framer (i : HomeIdx) (r : Round) : (s.vacate i r).framer = s.framer := by
  simp [State.vacate]
@[simp] theorem State.vacate_rx (i : HomeIdx) (r : Round) : (s.vacate i r).rx = s.rx := by
  simp [State.vacate]
@[simp] theorem State.vacate_light (i : HomeIdx) (r : Round) : (s.vacate i r).light = s.light := by
  simp [State.vacate]
@[simp] theorem State.vacate_ring (i : HomeIdx) (r : Round) : (s.vacate i r).ring = s.ring := by
  simp [State.vacate]
@[simp] theorem State.vacate_banks (i : HomeIdx) (r : Round) : (s.vacate i r).banks = s.banks := by
  simp [State.vacate]
@[simp] theorem State.vacate_toSwitch (i : HomeIdx) (r : Round) : (s.vacate i r).toSwitch = s.toSwitch := by
  simp [State.vacate]
@[simp] theorem State.vacate_setup (i : HomeIdx) (r : Round) : (s.vacate i r).setup = s.setup := by
  simp [State.vacate]
@[simp] theorem State.vacate_waited (i : HomeIdx) (r : Round) : (s.vacate i r).waited = s.waited := by
  simp [State.vacate]
@[simp] theorem State.vacate_restarts (i : HomeIdx) (r : Round) : (s.vacate i r).restarts = s.restarts := by
  simp [State.vacate]
@[simp] theorem State.vacate_pending (i : HomeIdx) (r : Round) : (s.vacate i r).pending = s.pending := by
  simp [State.vacate]

@[simp] theorem State.retire_straps (i : HomeIdx) (q : RetireReason) (r : Round) : (s.retire i q r).straps = s.straps := by
  simp [State.retire]
@[simp] theorem State.retire_clock (i : HomeIdx) (q : RetireReason) (r : Round) : (s.retire i q r).clock = s.clock := by
  simp [State.retire]
@[simp] theorem State.retire_enrol (i : HomeIdx) (q : RetireReason) (r : Round) : (s.retire i q r).enrol = s.enrol := by
  simp [State.retire]
@[simp] theorem State.retire_bars (i : HomeIdx) (q : RetireReason) (r : Round) : (s.retire i q r).bars = s.bars := by
  simp [State.retire]
@[simp] theorem State.retire_planner (i : HomeIdx) (q : RetireReason) (r : Round) : (s.retire i q r).planner = s.planner := by
  simp [State.retire]
@[simp] theorem State.retire_framer (i : HomeIdx) (q : RetireReason) (r : Round) : (s.retire i q r).framer = s.framer := by
  simp [State.retire]
@[simp] theorem State.retire_rx (i : HomeIdx) (q : RetireReason) (r : Round) : (s.retire i q r).rx = s.rx := by
  simp [State.retire]
@[simp] theorem State.retire_light (i : HomeIdx) (q : RetireReason) (r : Round) : (s.retire i q r).light = s.light := by
  simp [State.retire]
@[simp] theorem State.retire_ring (i : HomeIdx) (q : RetireReason) (r : Round) : (s.retire i q r).ring = s.ring := by
  simp [State.retire]
@[simp] theorem State.retire_toSwitch (i : HomeIdx) (q : RetireReason) (r : Round) : (s.retire i q r).toSwitch = s.toSwitch := by
  simp [State.retire]
@[simp] theorem State.retire_setup (i : HomeIdx) (q : RetireReason) (r : Round) : (s.retire i q r).setup = s.setup := by
  simp [State.retire]
@[simp] theorem State.retire_waited (i : HomeIdx) (q : RetireReason) (r : Round) : (s.retire i q r).waited = s.waited := by
  simp [State.retire]
@[simp] theorem State.retire_restarts (i : HomeIdx) (q : RetireReason) (r : Round) : (s.retire i q r).restarts = s.restarts := by
  simp [State.retire]
@[simp] theorem State.retire_pending (i : HomeIdx) (q : RetireReason) (r : Round) : (s.retire i q r).pending = s.pending := by
  simp [State.retire]

@[simp] theorem State.leaveFor_straps (i : HomeIdx) (q : RetireReason) (r : Round) : (s.leaveFor i q r).straps = s.straps := by
  unfold State.leaveFor; split <;> simp
@[simp] theorem State.leaveFor_clock (i : HomeIdx) (q : RetireReason) (r : Round) : (s.leaveFor i q r).clock = s.clock := by
  unfold State.leaveFor; split <;> simp
@[simp] theorem State.leaveFor_enrol (i : HomeIdx) (q : RetireReason) (r : Round) : (s.leaveFor i q r).enrol = s.enrol := by
  unfold State.leaveFor; split <;> simp
@[simp] theorem State.leaveFor_bars (i : HomeIdx) (q : RetireReason) (r : Round) : (s.leaveFor i q r).bars = s.bars := by
  unfold State.leaveFor; split <;> simp
@[simp] theorem State.leaveFor_planner (i : HomeIdx) (q : RetireReason) (r : Round) : (s.leaveFor i q r).planner = s.planner := by
  unfold State.leaveFor; split <;> simp
@[simp] theorem State.leaveFor_framer (i : HomeIdx) (q : RetireReason) (r : Round) : (s.leaveFor i q r).framer = s.framer := by
  unfold State.leaveFor; split <;> simp
@[simp] theorem State.leaveFor_rx (i : HomeIdx) (q : RetireReason) (r : Round) : (s.leaveFor i q r).rx = s.rx := by
  unfold State.leaveFor; split <;> simp
@[simp] theorem State.leaveFor_light (i : HomeIdx) (q : RetireReason) (r : Round) : (s.leaveFor i q r).light = s.light := by
  unfold State.leaveFor; split <;> simp
@[simp] theorem State.leaveFor_ring (i : HomeIdx) (q : RetireReason) (r : Round) : (s.leaveFor i q r).ring = s.ring := by
  unfold State.leaveFor; split <;> simp
@[simp] theorem State.leaveFor_toSwitch (i : HomeIdx) (q : RetireReason) (r : Round) : (s.leaveFor i q r).toSwitch = s.toSwitch := by
  unfold State.leaveFor; split <;> simp
@[simp] theorem State.leaveFor_setup (i : HomeIdx) (q : RetireReason) (r : Round) : (s.leaveFor i q r).setup = s.setup := by
  unfold State.leaveFor; split <;> simp
@[simp] theorem State.leaveFor_waited (i : HomeIdx) (q : RetireReason) (r : Round) : (s.leaveFor i q r).waited = s.waited := by
  unfold State.leaveFor; split <;> simp
@[simp] theorem State.leaveFor_restarts (i : HomeIdx) (q : RetireReason) (r : Round) : (s.leaveFor i q r).restarts = s.restarts := by
  unfold State.leaveFor; split <;> simp
@[simp] theorem State.leaveFor_pending (i : HomeIdx) (q : RetireReason) (r : Round) : (s.leaveFor i q r).pending = s.pending := by
  unfold State.leaveFor; split <;> simp

@[simp] theorem State.endEnrolment_straps (i : HomeIdx) (q : RetireReason) (r : Round) : (s.endEnrolment i q r).straps = s.straps := by
  simp [State.endEnrolment]
@[simp] theorem State.endEnrolment_clock (i : HomeIdx) (q : RetireReason) (r : Round) : (s.endEnrolment i q r).clock = s.clock := by
  simp [State.endEnrolment]
@[simp] theorem State.endEnrolment_enrol (i : HomeIdx) (q : RetireReason) (r : Round) : (s.endEnrolment i q r).enrol = s.enrol := by
  simp [State.endEnrolment]
@[simp] theorem State.endEnrolment_bars (i : HomeIdx) (q : RetireReason) (r : Round) : (s.endEnrolment i q r).bars = s.bars := by
  simp [State.endEnrolment]
@[simp] theorem State.endEnrolment_planner (i : HomeIdx) (q : RetireReason) (r : Round) : (s.endEnrolment i q r).planner = s.planner := by
  simp [State.endEnrolment]
@[simp] theorem State.endEnrolment_rx (i : HomeIdx) (q : RetireReason) (r : Round) : (s.endEnrolment i q r).rx = s.rx := by
  simp [State.endEnrolment]
@[simp] theorem State.endEnrolment_light (i : HomeIdx) (q : RetireReason) (r : Round) : (s.endEnrolment i q r).light = s.light := by
  simp [State.endEnrolment]
@[simp] theorem State.endEnrolment_ring (i : HomeIdx) (q : RetireReason) (r : Round) : (s.endEnrolment i q r).ring = s.ring := by
  simp [State.endEnrolment]
@[simp] theorem State.endEnrolment_toSwitch (i : HomeIdx) (q : RetireReason) (r : Round) : (s.endEnrolment i q r).toSwitch = s.toSwitch := by
  simp [State.endEnrolment]
@[simp] theorem State.endEnrolment_setup (i : HomeIdx) (q : RetireReason) (r : Round) : (s.endEnrolment i q r).setup = s.setup := by
  simp [State.endEnrolment]
@[simp] theorem State.endEnrolment_waited (i : HomeIdx) (q : RetireReason) (r : Round) : (s.endEnrolment i q r).waited = s.waited := by
  simp [State.endEnrolment]
@[simp] theorem State.endEnrolment_restarts (i : HomeIdx) (q : RetireReason) (r : Round) : (s.endEnrolment i q r).restarts = s.restarts := by
  simp [State.endEnrolment]
@[simp] theorem State.endEnrolment_pending (i : HomeIdx) (q : RetireReason) (r : Round) : (s.endEnrolment i q r).pending = s.pending := by
  simp [State.endEnrolment]

@[simp] theorem State.failEnrolment_straps (i : HomeIdx) (q : RetireReason) (w : EnrolReason) (r : Round) : (s.failEnrolment i q w r).straps = s.straps := by
  simp [State.failEnrolment]
@[simp] theorem State.failEnrolment_clock (i : HomeIdx) (q : RetireReason) (w : EnrolReason) (r : Round) : (s.failEnrolment i q w r).clock = s.clock := by
  simp [State.failEnrolment]
@[simp] theorem State.failEnrolment_enrol (i : HomeIdx) (q : RetireReason) (w : EnrolReason) (r : Round) : (s.failEnrolment i q w r).enrol = s.enrol := by
  simp [State.failEnrolment]
@[simp] theorem State.failEnrolment_bars (i : HomeIdx) (q : RetireReason) (w : EnrolReason) (r : Round) : (s.failEnrolment i q w r).bars = s.bars := by
  simp [State.failEnrolment]
@[simp] theorem State.failEnrolment_planner (i : HomeIdx) (q : RetireReason) (w : EnrolReason) (r : Round) : (s.failEnrolment i q w r).planner = s.planner := by
  simp [State.failEnrolment]
@[simp] theorem State.failEnrolment_rx (i : HomeIdx) (q : RetireReason) (w : EnrolReason) (r : Round) : (s.failEnrolment i q w r).rx = s.rx := by
  simp [State.failEnrolment]
@[simp] theorem State.failEnrolment_light (i : HomeIdx) (q : RetireReason) (w : EnrolReason) (r : Round) : (s.failEnrolment i q w r).light = s.light := by
  simp [State.failEnrolment]
@[simp] theorem State.failEnrolment_ring (i : HomeIdx) (q : RetireReason) (w : EnrolReason) (r : Round) : (s.failEnrolment i q w r).ring = s.ring := by
  simp [State.failEnrolment]
@[simp] theorem State.failEnrolment_toSwitch (i : HomeIdx) (q : RetireReason) (w : EnrolReason) (r : Round) : (s.failEnrolment i q w r).toSwitch = s.toSwitch := by
  simp [State.failEnrolment]
@[simp] theorem State.failEnrolment_setup (i : HomeIdx) (q : RetireReason) (w : EnrolReason) (r : Round) : (s.failEnrolment i q w r).setup = s.setup := by
  simp [State.failEnrolment]
@[simp] theorem State.failEnrolment_waited (i : HomeIdx) (q : RetireReason) (w : EnrolReason) (r : Round) : (s.failEnrolment i q w r).waited = s.waited := by
  simp [State.failEnrolment]
@[simp] theorem State.failEnrolment_restarts (i : HomeIdx) (q : RetireReason) (w : EnrolReason) (r : Round) : (s.failEnrolment i q w r).restarts = s.restarts := by
  simp [State.failEnrolment]
@[simp] theorem State.failEnrolment_pending (i : HomeIdx) (q : RetireReason) (w : EnrolReason) (r : Round) : (s.failEnrolment i q w r).pending = s.pending := by
  simp [State.failEnrolment]

@[simp] theorem State.muteHome_straps (i : HomeIdx) (q : MuteReason) (r : Round) : (s.muteHome i q r).straps = s.straps := by
  simp [State.muteHome]
@[simp] theorem State.muteHome_clock (i : HomeIdx) (q : MuteReason) (r : Round) : (s.muteHome i q r).clock = s.clock := by
  simp [State.muteHome]
@[simp] theorem State.muteHome_enrol (i : HomeIdx) (q : MuteReason) (r : Round) : (s.muteHome i q r).enrol = s.enrol := by
  simp [State.muteHome]
@[simp] theorem State.muteHome_bars (i : HomeIdx) (q : MuteReason) (r : Round) : (s.muteHome i q r).bars = s.bars := by
  simp [State.muteHome]
@[simp] theorem State.muteHome_planner (i : HomeIdx) (q : MuteReason) (r : Round) : (s.muteHome i q r).planner = s.planner := by
  simp [State.muteHome]
@[simp] theorem State.muteHome_framer (i : HomeIdx) (q : MuteReason) (r : Round) : (s.muteHome i q r).framer = s.framer := by
  simp [State.muteHome]
@[simp] theorem State.muteHome_rx (i : HomeIdx) (q : MuteReason) (r : Round) : (s.muteHome i q r).rx = s.rx := by
  simp [State.muteHome]
@[simp] theorem State.muteHome_light (i : HomeIdx) (q : MuteReason) (r : Round) : (s.muteHome i q r).light = s.light := by
  simp [State.muteHome]
@[simp] theorem State.muteHome_ring (i : HomeIdx) (q : MuteReason) (r : Round) : (s.muteHome i q r).ring = s.ring := by
  simp [State.muteHome]
@[simp] theorem State.muteHome_banks (i : HomeIdx) (q : MuteReason) (r : Round) : (s.muteHome i q r).banks = s.banks := by
  simp [State.muteHome]
@[simp] theorem State.muteHome_toSwitch (i : HomeIdx) (q : MuteReason) (r : Round) : (s.muteHome i q r).toSwitch = s.toSwitch := by
  simp [State.muteHome]
@[simp] theorem State.muteHome_setup (i : HomeIdx) (q : MuteReason) (r : Round) : (s.muteHome i q r).setup = s.setup := by
  simp [State.muteHome]
@[simp] theorem State.muteHome_waited (i : HomeIdx) (q : MuteReason) (r : Round) : (s.muteHome i q r).waited = s.waited := by
  simp [State.muteHome]
@[simp] theorem State.muteHome_restarts (i : HomeIdx) (q : MuteReason) (r : Round) : (s.muteHome i q r).restarts = s.restarts := by
  simp [State.muteHome]
@[simp] theorem State.muteHome_pending (i : HomeIdx) (q : MuteReason) (r : Round) : (s.muteHome i q r).pending = s.pending := by
  simp [State.muteHome]

@[simp] theorem State.dozeHome_straps (i : HomeIdx) (n : Nat) : (s.dozeHome i n).straps = s.straps := by
  simp [State.dozeHome]
@[simp] theorem State.dozeHome_clock (i : HomeIdx) (n : Nat) : (s.dozeHome i n).clock = s.clock := by
  simp [State.dozeHome]
@[simp] theorem State.dozeHome_enrol (i : HomeIdx) (n : Nat) : (s.dozeHome i n).enrol = s.enrol := by
  simp [State.dozeHome]
@[simp] theorem State.dozeHome_bars (i : HomeIdx) (n : Nat) : (s.dozeHome i n).bars = s.bars := by
  simp [State.dozeHome]
@[simp] theorem State.dozeHome_planner (i : HomeIdx) (n : Nat) : (s.dozeHome i n).planner = s.planner := by
  simp [State.dozeHome]
@[simp] theorem State.dozeHome_framer (i : HomeIdx) (n : Nat) : (s.dozeHome i n).framer = s.framer := by
  simp [State.dozeHome]
@[simp] theorem State.dozeHome_rx (i : HomeIdx) (n : Nat) : (s.dozeHome i n).rx = s.rx := by
  simp [State.dozeHome]
@[simp] theorem State.dozeHome_light (i : HomeIdx) (n : Nat) : (s.dozeHome i n).light = s.light := by
  simp [State.dozeHome]
@[simp] theorem State.dozeHome_rogue (i : HomeIdx) (n : Nat) : (s.dozeHome i n).rogue = s.rogue := by
  simp [State.dozeHome]
@[simp] theorem State.dozeHome_ring (i : HomeIdx) (n : Nat) : (s.dozeHome i n).ring = s.ring := by
  simp [State.dozeHome]
@[simp] theorem State.dozeHome_banks (i : HomeIdx) (n : Nat) : (s.dozeHome i n).banks = s.banks := by
  simp [State.dozeHome]
@[simp] theorem State.dozeHome_toSwitch (i : HomeIdx) (n : Nat) : (s.dozeHome i n).toSwitch = s.toSwitch := by
  simp [State.dozeHome]
@[simp] theorem State.dozeHome_setup (i : HomeIdx) (n : Nat) : (s.dozeHome i n).setup = s.setup := by
  simp [State.dozeHome]
@[simp] theorem State.dozeHome_waited (i : HomeIdx) (n : Nat) : (s.dozeHome i n).waited = s.waited := by
  simp [State.dozeHome]
@[simp] theorem State.dozeHome_restarts (i : HomeIdx) (n : Nat) : (s.dozeHome i n).restarts = s.restarts := by
  simp [State.dozeHome]
@[simp] theorem State.dozeHome_pending (i : HomeIdx) (n : Nat) : (s.dozeHome i n).pending = s.pending := by
  simp [State.dozeHome]

@[simp] theorem State.wakeHome_straps (i : HomeIdx) : (s.wakeHome i).straps = s.straps := by
  simp [State.wakeHome]
@[simp] theorem State.wakeHome_clock (i : HomeIdx) : (s.wakeHome i).clock = s.clock := by
  simp [State.wakeHome]
@[simp] theorem State.wakeHome_enrol (i : HomeIdx) : (s.wakeHome i).enrol = s.enrol := by
  simp [State.wakeHome]
@[simp] theorem State.wakeHome_bars (i : HomeIdx) : (s.wakeHome i).bars = s.bars := by
  simp [State.wakeHome]
@[simp] theorem State.wakeHome_planner (i : HomeIdx) : (s.wakeHome i).planner = s.planner := by
  simp [State.wakeHome]
@[simp] theorem State.wakeHome_rx (i : HomeIdx) : (s.wakeHome i).rx = s.rx := by
  simp [State.wakeHome]
@[simp] theorem State.wakeHome_light (i : HomeIdx) : (s.wakeHome i).light = s.light := by
  simp [State.wakeHome]
@[simp] theorem State.wakeHome_rogue (i : HomeIdx) : (s.wakeHome i).rogue = s.rogue := by
  simp [State.wakeHome]
@[simp] theorem State.wakeHome_ring (i : HomeIdx) : (s.wakeHome i).ring = s.ring := by
  simp [State.wakeHome]
@[simp] theorem State.wakeHome_banks (i : HomeIdx) : (s.wakeHome i).banks = s.banks := by
  simp [State.wakeHome]
@[simp] theorem State.wakeHome_toSwitch (i : HomeIdx) : (s.wakeHome i).toSwitch = s.toSwitch := by
  simp [State.wakeHome]
@[simp] theorem State.wakeHome_bus (i : HomeIdx) : (s.wakeHome i).bus = s.bus := by
  simp [State.wakeHome]
@[simp] theorem State.wakeHome_setup (i : HomeIdx) : (s.wakeHome i).setup = s.setup := by
  simp [State.wakeHome]
@[simp] theorem State.wakeHome_waited (i : HomeIdx) : (s.wakeHome i).waited = s.waited := by
  simp [State.wakeHome]
@[simp] theorem State.wakeHome_restarts (i : HomeIdx) : (s.wakeHome i).restarts = s.restarts := by
  simp [State.wakeHome]
@[simp] theorem State.wakeHome_pending (i : HomeIdx) : (s.wakeHome i).pending = s.pending := by
  simp [State.wakeHome]

/-! ### What the operations do -/

/-- The messages a list offers to the outbox one after the other are those that find room. -/
theorem Bus.offered_append (b : Bus) (l m : List OutMsg) : (b.offered l).offered m = b.offered (l ++ m) := by
  have h : 16 - (b.outbox.length + min (16 - b.outbox.length) l.length) = 16 - b.outbox.length - l.length := by
    omega
  simp [Bus.offered, List.take_append, h]

theorem Bus.offered_nil (b : Bus) : b.offered [] = b := by simp [Bus.offered]

/-- A notice is offered to the outbox, and counted as queued or as dropped (R207). -/
theorem State.raise_bus (n : Notice) : (s.raise n).bus = s.bus.offered [n.message s.reportStation] := by
  by_cases h : s.bus.outbox.length < 16
  · have : 16 - s.bus.outbox.length = (15 - s.bus.outbox.length) + 1 := by omega
    simp [State.raise, State.outRoom, h, Bus.offered, this, State.post]
  · have : 16 - s.bus.outbox.length = 0 := by omega
    simp [State.raise, State.outRoom, h, Bus.offered, this]

theorem State.raise_counters (n : Notice) :
    (s.raise n).counters =
      (s.bump (if s.bus.outbox.length < 16 then .noticesQueued else .noticeDropped)).counters := by
  by_cases h : s.bus.outbox.length < 16
  · simp [State.raise, State.outRoom, h]; rfl
  · simp [State.raise, State.outRoom, h]

theorem State.raise_eq (n : Notice) :
    s.raise n = { s with bus := (s.raise n).bus, counters := (s.raise n).counters } := by
  unfold State.raise; split <;> rfl

theorem State.sendPeer_eq (m : OutMsg) :
    s.sendPeer m = { s with bus := (s.sendPeer m).bus, counters := (s.sendPeer m).counters } := by
  unfold State.sendPeer; split <;> rfl

theorem State.addBar_eq (t : Tag) (r : BarReason) (o : Station) :
    s.addBar t r o = { s with bars := (s.addBar t r o).bars, counters := (s.addBar t r o).counters } := by
  simp only [State.addBar]; split <;> [rfl; (split <;> rfl)]

/-- A peer message is offered to the outbox, and counted as unsent where it finds no room (R46). -/
theorem State.sendPeer_bus (m : OutMsg) : (s.sendPeer m).bus = s.bus.offered [m] := by
  by_cases h : s.bus.outbox.length < 16
  · have : 16 - s.bus.outbox.length = (15 - s.bus.outbox.length) + 1 := by omega
    simp [State.sendPeer, State.outRoom, h, Bus.offered, this, State.post]
  · have : 16 - s.bus.outbox.length = 0 := by omega
    simp [State.sendPeer, State.outRoom, h, Bus.offered, this]

/-- A directive other than a Set delay changes only the queue (R79). -/
theorem State.pushDirective_eq (d : Directive) (h : ∀ i n, d ≠ .setDelay i n) :
    s.pushDirective d = { s with framer := { s.framer with queue := s.framer.queue ++ [d] } } := by
  cases d <;> first | rfl | exact absurd rfl (h _ _)

/-- The queue after a directive joins it. -/
@[simp] theorem State.pushDirective_framer (d : Directive) :
    (s.pushDirective d).framer = { s.framer with queue := s.framer.queue ++ [d] } := by
  cases d <;> rfl

/-- A Leave changes the queue or is counted as dropped (R80). -/
theorem State.offerLeave_framer (d : Directive) :
    (s.offerLeave d).framer = { s.framer with queue := joined s.framer.queue d } := by
  by_cases h : s.framer.queue.length < 32 <;> simp [State.offerLeave, State.dirRoom, joined, h]

/-- The Live bank's record for an index after its flags change; other indices keep theirs (R172). -/
theorem State.liveRecord_flagRecord (i j : HomeIdx) (f : RecFlags → RecFlags) :
    (s.flagRecord i f).liveRecord j =
      if j = i then (s.liveRecord i).map fun r => { r with flags := f r.flags } else s.liveRecord j := by
  rcases hl : s.banks.live with _ | l
  · simp [State.flagRecord, State.liveRecord, hl]
  rcases hr : l.records[i.val] with _ | r
  · rcases eq_or_ne j i with rfl | e
    · simp [State.flagRecord, State.liveRecord, hl, hr]
    · simp [State.flagRecord, State.liveRecord, hl, hr, e]
  · rcases eq_or_ne j i with rfl | e
    · simp [State.flagRecord, State.liveRecord, hl, hr]
    · have : i.val ≠ j.val := fun v => e (Fin.ext v.symm)
      simp [State.flagRecord, State.liveRecord, hl, hr, e, this]

/-- The bar list after an addition (R54). -/
theorem State.addBar_bars (t : Tag) (r : BarReason) (o : Station) :
    (s.addBar t r o).bars = barsAfter s.bars { tag := t, reason := r, origin := o } := by
  unfold State.addBar barsAfter State.barred
  split
  · rfl
  · split <;> simp

/-- Bit times that hold no message move the idle count and what R200 keeps of it, and nothing else of the port (R185). -/
theorem Bus.foldl_pass (times : List BitTime) (b : Bus) : times.foldl Bus.pass b = b.after times := by
  induction times generalizing b with
  | nil => simp [Bus.after, idleAfter]
  | cons t rest ih =>
    rw [List.foldl_cons, ih]
    cases t
    · have h : decide (11 ≤ b.idle) = (min 12 (b.idle + 1) == 12) := by
        rw [Bool.eq_iff_iff]; simp
      simp [Bus.after, Bus.pass, idleAfter, List.range_succ_eq_map, List.any_map, Function.comp_def, h, Bool.or_assoc]
    · simp [Bus.after, Bus.pass, idleAfter, List.range_succ_eq_map, List.any_map, Function.comp_def]

/-- The port after bit times that hold no message (R185, R200). -/
theorem State.passTimes_bus (times : List BitTime) : (s.passTimes times).bus = s.bus.after times := Bus.foldl_pass ..

/-- An operand read as `n` bytes has `n` bytes (log 21). -/
@[simp] theorem padTo_length (n : Nat) (bs : List Byte) : (padTo n bs).length = n := by
  simp [padTo]; omega

/-- The window verdicts of two lists are applied one list after the other (R97). -/
theorem State.applyWindows_append (o : RoundObs) (blank : Bool) (r : Round) (l m : List Window) :
    s.applyWindows o blank r (l ++ m) = (s.applyWindows o blank r l).applyWindows o blank r m := List.foldl_append ..

/-! ### Decays held back for a close -/

/-- Each home that still owes its decay of the boundary falls by 1, and no other home changes. -/
theorem State.settleDecays_home (i : HomeIdx) :
    s.settleDecays.home i =
      if i ∈ s.rogue.owed then { s.home i with entry := (s.entry i).decayed } else s.home i := by
  simp [State.settleDecays, State.home, State.entry]

/-- With no decay owed nothing is taken. -/
theorem State.settleDecays_of_none (h : s.rogue.owed = []) : s.settleDecays = s := by
  have homes : s.settleDecays.homes = s.homes := by
    ext i hi
    simp [State.settleDecays, h]
  have rogue : s.settleDecays.rogue = s.rogue := by simp [← h]
  calc s.settleDecays = { s with homes := s.settleDecays.homes, rogue := s.settleDecays.rogue } := rfl
    _ = s := by rw [homes, rogue]

/-- A gain of a home takes one place from what its decay waits for; only that home's score can change beside. -/
theorem State.decayInTurn_eq (i : HomeIdx) :
    s.decayInTurn i =
      { s with
        homes := (s.decayInTurn i).homes
        rogue := { s.rogue with owed := s.rogue.owed.erase i } } := by
  unfold State.decayInTurn
  split
  · dsimp only
    split <;> rfl
  · rw [List.erase_of_not_mem ‹_›]

end Sys2Proof.Machine
end

