-- ==== Sys2Proof/Laws/Requests.lean ====
section
/-! SUPPORT. What taking a request comes to (R202, R203, R205), and how counters gain. -/

namespace Sys2Proof.Machine

open Sys2Proof

variable {s t : State}

/-! ### Counters -/

theorem State.Gained.of_eq (h : t.counters = s.counters) : s.Gained t [] := by
  intro c
  simp [State.counter_congr h]

/-- A further gain adds its counter to the list. -/
theorem State.Gained.bump {l : List Counter} (h : s.Gained t l) (c : Counter) : s.Gained (t.bump c) (c :: l) := by
  intro d
  rw [State.counter_bump]
  have hc := h c
  have hd := h d
  rcases eq_or_ne d c with rfl | e
  · by_cases m : d ∈ l
    · simp only [m, if_true] at hc
      simp [hc]
      omega
    · simp only [m, if_false] at hc
      simp [hc, List.count_eq_zero_of_not_mem m]
  · simp [e, hd, Ne.symm e]

/-- The order of a list of gains does not matter. -/
theorem State.Gained.perm {l m : List Counter} (h : s.Gained t l) (p : l.Perm m) : s.Gained t m := by
  intro c
  simp only [h c, p.count_eq, p.mem_iff]

theorem State.Gained.congr {u : State} {l : List Counter} (h : s.Gained t l) (e : u.counters = t.counters) :
    s.Gained u l := by
  intro c
  rw [State.counter_congr e, h c]

theorem State.Gained.base {u : State} {l : List Counter} (h : s.Gained t l) (e : u.counters = s.counters) :
    u.Gained t l := by
  intro c
  rw [h c, State.counter_congr e]

/-- One gain. -/
theorem State.gained_bump (c : Counter) : s.Gained (s.bump c) [c] := (State.Gained.of_eq rfl).bump c

/-- A notice that is offered is counted. -/
theorem State.gained_raise (n : Notice) :
    s.Gained (s.raise n) [if s.bus.outbox.length < 16 then .noticesQueued else .noticeDropped] :=
  (State.gained_bump _).congr (State.raise_counters ..)

/-! ### Requests -/

/-- A request at the head that its length and the Setup state admit is answered by its own rule, on the state without
it. -/
theorem State.takeRequest_eq {m : InMsg} {kind length : Nat} {good : Nat → Bool} {admits : Bool}
    {own : State → List Byte → Reply} (h : s.Asks m kind length) (hl : good length = true)
    (hu : s.setup.isSome ∨ admits = true) :
    s.takeRequest kind good admits own = s.popInbox.answerTo m (own s.popInbox m.body) := by
  obtain ⟨hh, hk, hb, hr⟩ := h
  obtain ⟨rest, e⟩ : ∃ rest, s.bus.inbox = m :: rest := by
    cases hi : s.bus.inbox with
    | nil => simp [hi] at hh
    | cons a l => simp [hi] at hh; exact ⟨l, by rw [hh]⟩
  have hn : (s.setup.isNone && !admits) = false := by
    rcases hu with hu | hu
    · cases hs : s.setup <;> simp_all
    · simp [hu]
  simp [State.takeRequest, e, hk, State.outRoom, hr, requestReply, hb, hl, hn]

/-- The state after an answer whose effect is `f`: the request is counted after the effect. -/
theorem State.answerTo_done (m : InMsg) (c : OutcomeCode) (data : List Byte) (f : State → State) :
    s.popInbox.answerTo m (.done c data f) =
      (f { s with bus := s.bus.answered m c data, waited := false }).bump .requestsTaken := rfl

/-- An answer without an effect changes the port and the handler's count alone. -/
theorem State.answers_done (m : InMsg) (c : OutcomeCode) (data : List Byte) :
    s.Answers (s.popInbox.answerTo m (.done c data id)) m c data := by
  refine ⟨?_, ?_⟩
  · simp [State.answerTo_done, State.bump]
  · rw [State.answerTo_done]
    exact (State.gained_bump _).base rfl

/-- A refusal changes the port and the handler's count alone (R203, R204). -/
theorem State.answers_refuse (m : InMsg) (c : OutcomeCode) :
    s.Answers (s.popInbox.answerTo m (.refuse c)) m c [] := State.answers_done m c []

end Sys2Proof.Machine
end

