-- ==== Sys2Proof/Laws/Departures.lean ====
section
/-! SUPPORT. What the end of a home's stay comes to (R6, R7, R13, R80, R139): the moves of the home table that leave an
index Vacant or Retired meet `State.Departs`, the operations that may follow keep it, and the messages of a move are
`State.partingMessages`. -/

namespace Sys2Proof.Machine

open Sys2Proof

variable {s t u : State} {i : HomeIdx} {q : RetireReason} {l : Option Directive}

/-! ### The fields no departure touches -/

/-- The two states agree on every field that no departure touches. -/
structure State.SameRest (s t : State) : Prop where
  straps : t.straps = s.straps
  clock : t.clock = s.clock
  enrol : t.enrol = s.enrol
  planner : t.planner = s.planner
  rx : t.rx = s.rx
  light : t.light = s.light
  ring : t.ring = s.ring
  toSwitch : t.toSwitch = s.toSwitch
  setup : t.setup = s.setup
  restarts : t.restarts = s.restarts
  pending : t.pending = s.pending

theorem State.SameRest.update (h : s.SameRest t) :
    t = { s with homes := t.homes, framer := t.framer, rogue := t.rogue, banks := t.banks, bus := t.bus,
                 bars := t.bars, counters := t.counters, waited := t.waited } := by
  obtain ⟨h1, h2, h3, h4, h5, h6, h7, h8, h9, h10, h11⟩ := h
  cases s
  cases t
  simp_all

theorem State.SameRest.of_update
    (h : t = { s with homes := t.homes, framer := t.framer, rogue := t.rogue, banks := t.banks, bus := t.bus,
                      bars := t.bars, counters := t.counters, waited := t.waited }) : s.SameRest t := by
  rw [h]
  constructor <;> rfl

theorem State.SameRest.trans (h : s.SameRest t) (g : t.SameRest u) : s.SameRest u :=
  ⟨g.1.trans h.1, g.2.trans h.2, g.3.trans h.3, g.4.trans h.4, g.5.trans h.5, g.6.trans h.6, g.7.trans h.7,
    g.8.trans h.8, g.9.trans h.9, g.10.trans h.10, g.11.trans h.11⟩

theorem State.liveRecord_congr (h : t.banks = s.banks) (i : HomeIdx) : t.liveRecord i = s.liveRecord i := by
  simp [State.liveRecord, h]

/-! ### Leaving the candidate set (R139) -/

theorem State.dropCandidate_home (s : State) (i : HomeIdx) (r : Round) (j : HomeIdx) :
    (s.dropCandidate i r).home j = s.home j ∨ (s.probing = true ∧
      (s.dropCandidate i r).home j = { s.home j with entry := { s.entry j with probe := false } }) := by
  unfold State.dropCandidate
  split
  · rename_i p hp
    dsimp only
    split
    · split
      · refine .inr ⟨by simp [State.probing, hp], ?_⟩
        have h : (s.endUnresolved .empty r p.steps []).homes = (s.setProbes []).homes := by simp [State.endUnresolved]
        rw [State.home_congr h, State.home_setProbes]
        simp
      · exact .inl rfl
    · exact .inl rfl
  · exact .inl rfl

theorem State.dropCandidate_stays (s : State) (i : HomeIdx) (r : Round)
    (h : ∀ p, s.rogue.iso = .probing p → i ∉ p.cands) : s.dropCandidate i r = s := by
  unfold State.dropCandidate
  split
  · rename_i p hp
    simp [h p hp]
  · rfl

theorem State.dropCandidate_leaves (s : State) (i : HomeIdx) (r : Round) (p : Probe)
    (hp : s.rogue.iso = .probing p) (h : i ∈ p.cands) :
    (s.dropCandidate i r).rogue.iso =
      if p.cands.erase i = [] then .backoff 2000 else .probing { p with cands := p.cands.erase i } := by
  unfold State.dropCandidate
  rw [hp]
  simp only [List.contains_iff_mem, h, if_true]
  by_cases e : p.cands.erase i = []
  · simp [e, State.endUnresolved]
  · simp [e]

/-! ### The parts of a move -/

theorem State.cancelRetest_home (s : State) (i j : HomeIdx) (h : j ≠ i) : (s.cancelRetest i).home j = s.home j := by
  unfold State.cancelRetest
  split
  · rfl
  · rw [State.home_congr (State.raise_homes ..)]
    simp [h]

theorem State.cancelRetest_entry (s : State) (i j : HomeIdx) : (s.cancelRetest i).entry j = s.entry j := by
  unfold State.cancelRetest
  split
  · rfl
  · rw [State.entry_congr (State.raise_homes ..)]
    simp only [State.entry, State.home_modHome]
    split
    · rename_i e
      subst e
      rfl
    · rfl

theorem State.flagRecord_keeps_plan (s : State) (i : HomeIdx) (f : RecFlags → RecFlags) :
    (s.flagRecord i f).banks = { s.banks with live := (s.flagRecord i f).banks.live }
      ∧ (s.flagRecord i f).banks.live.map (fun l => (l.plan, l.start))
        = s.banks.live.map fun l => (l.plan, l.start) := by
  unfold State.flagRecord
  cases s with | mk a b c d e f' g h i' j k banks m n o p q r =>
  cases banks with | mk b1 live b3 b4 b5 =>
  cases live with
  | none => exact ⟨rfl, rfl⟩
  | some l =>
    dsimp only
    split <;> exact ⟨rfl, rfl⟩

theorem Entry.leaveDirective_ne (e : Entry) (i : HomeIdx) : ∀ j n, e.leaveDirective i ≠ .setDelay j n := by
  intro j n
  unfold Entry.leaveDirective
  split <;> simp

/-! ### The moves -/

/-- Retired, from service or with a record in the Live bank (R13). -/
theorem State.departs_retire (s : State) (i : HomeIdx) (q : RetireReason) (round : Round)
    (h : (s.entry i).state.inService = true ∨ (s.liveRecord i).isSome = true) :
    s.Departs (s.retire i q round) i q none := by
  let f (f : RecFlags) : RecFlags :=
    { f with partialEpoch := f.partialEpoch || (s.entry i).state.inService }.withReason q
  let v := (s.cancelRetest i).setHome i { Home.vacant with entry := (s.entry i).retired q }
  let u := v.flagRecord i f
  have hb : v.banks = s.banks := by simp [v]
  have hent : (s.cancelRetest i).entry i = s.entry i := State.cancelRetest_entry s i i
  have hu : s.retire i q round = u.dropCandidate i round := by simp [State.retire, u, v, f, hent]
  have huh : ∀ j, u.home j =
      if j = i then { Home.vacant with entry := (s.entry i).retired q } else s.home j := by
    intro j
    rw [State.home_congr (State.flagRecord_homes ..), State.home_setHome]
    split
    · rfl
    · rename_i e
      exact State.cancelRetest_home s i j e
  have hur : u.rogue = s.rogue := by simp [u, v]
  have hul : ∀ j, u.liveRecord j =
      if j = i then (s.liveRecord i).map fun r => { r with flags := f r.flags } else s.liveRecord j := by
    intro j
    simp only [u]
    rw [State.liveRecord_flagRecord, State.liveRecord_congr hb, State.liveRecord_congr hb]
  have hprob : u.probing = s.probing := by simp [State.probing, hur]
  have hd : ∀ j, (u.dropCandidate i round).liveRecord j = u.liveRecord j :=
    fun j => State.liveRecord_congr (by simp) j
  constructor
  · rw [if_pos h, hu]
    rcases State.dropCandidate_home u i round i with e | ⟨-, e⟩
    · simp [e, huh]
    · simp [e, State.entry, huh, Entry.retired]
  · intro j hj
    rw [hu]
    rcases State.dropCandidate_home u i round j with e | ⟨hp, e⟩
    · exact .inl (by simp [e, huh, hj])
    · exact .inr ⟨by rw [← hprob]; exact hp, by simp [e, State.entry, huh, hj]⟩
  · intro r hr
    rw [hu, hd, hul]
    simp [hr, f]
  · intro hr
    rw [hu, hd, hul]
    simp [hr]
  · intro j hj
    rw [hu, hd, hul]
    simp [hj]
  · rw [hu]
    simp only [State.dropCandidate_banks]
    have := State.flagRecord_keeps_plan v i f
    rw [hb] at this
    exact this
  · simp
  · intro hc
    rw [hu, State.dropCandidate_stays u i round (by rw [hur]; exact hc)]
    exact ⟨hur, fun j hj => by simp [huh, hj]⟩
  · intro p hp hi
    rw [hu, State.dropCandidate_leaves u i round p (by rw [hur]; exact hp) hi]
  · apply State.SameRest.update
    constructor <;> simp

/-- Vacant, outside service and without a record in the Live bank (R6). -/
theorem State.departs_vacate (s : State) (i : HomeIdx) (q : RetireReason) (round : Round)
    (h : (s.entry i).state.inService = false) (h2 : s.liveRecord i = none) :
    s.Departs (s.vacate i round) i q none := by
  let u := (s.cancelRetest i).setHome i Home.vacant
  have hu : s.vacate i round = u.dropCandidate i round := rfl
  have huh : ∀ j, u.home j = if j = i then Home.vacant else s.home j := by
    intro j
    simp only [u]
    rw [State.home_setHome]
    split
    · rfl
    · rename_i e
      exact State.cancelRetest_home s i j e
  have hur : u.rogue = s.rogue := by simp [u]
  have hub : u.banks = s.banks := by simp [u]
  have hprob : u.probing = s.probing := by simp [State.probing, hur]
  have hd : ∀ j, (u.dropCandidate i round).liveRecord j = s.liveRecord j :=
    fun j => State.liveRecord_congr (by simp [hub]) j
  constructor
  · rw [if_neg (by simp [h, h2]), hu]
    rcases State.dropCandidate_home u i round i with e | ⟨-, e⟩
    · simp [e, huh]
    · simp [e, State.entry, huh, Home.vacant, Entry.vacant]
  · intro j hj
    rw [hu]
    rcases State.dropCandidate_home u i round j with e | ⟨hp, e⟩
    · exact .inl (by simp [e, huh, hj])
    · exact .inr ⟨by rw [← hprob]; exact hp, by simp [e, State.entry, huh, hj]⟩
  · intro r hr
    simp [h2] at hr
  · intro hr
    rw [hu, hd, h2]
  · intro j hj
    rw [hu, hd]
  · rw [hu]
    simp [hub]
  · simp
  · intro hc
    rw [hu, State.dropCandidate_stays u i round (by rw [hur]; exact hc)]
    exact ⟨hur, fun j hj => by simp [huh, hj]⟩
  · intro p hp hi
    rw [hu, State.dropCandidate_leaves u i round p (by rw [hur]; exact hp) hi]
  · apply State.SameRest.update
    constructor <;> simp

/-- A move to Vacant, which R7 makes one to Retired where a record stands. -/
theorem State.departs_leaveFor (s : State) (i : HomeIdx) (q : RetireReason) (round : Round)
    (h : (s.entry i).state.inService = false ∨ (s.liveRecord i).isSome) :
    s.Departs (s.leaveFor i q round) i q none := by
  unfold State.leaveFor
  split
  · exact State.departs_retire _ _ _ _ (.inr ‹_›)
  · rename_i e
    have h2 : s.liveRecord i = none := by cases hh : s.liveRecord i <;> simp_all
    exact State.departs_vacate _ _ _ _ (h.resolve_right e) h2

/-! ### What may come before and after a departure -/

/-- Afterwards the port, the bar list and the counters may change. -/
theorem State.Departs.tail (h : s.Departs t i q l) (h1 : u.homes = t.homes) (h2 : u.banks = t.banks)
    (h3 : u.framer = t.framer) (h4 : u.rogue = t.rogue) (g : t.SameRest u) : s.Departs u i q l := by
  have hh := fun j => State.home_congr h1 j
  have hl := fun j => State.liveRecord_congr h2 j
  constructor
  · rw [hh]
    exact h.home
  · intro j hj
    rw [hh]
    exact h.others j hj
  · intro r hr
    rw [hl]
    exact h.record r hr
  · intro hr
    rw [hl]
    exact h.noRecord hr
  · intro j hj
    rw [hl]
    exact h.records j hj
  · rw [h2]
    exact h.banks
  · rw [h3]
    exact h.framer
  · intro hc
    rw [h4]
    exact ⟨(h.stays hc).1, fun j hj => by rw [hh]; exact (h.stays hc).2 j hj⟩
  · rw [h4]
    exact h.leaves
  · exact ((State.SameRest.of_update h.rest).trans g).update

/-- Before it the port, the bar list and the counters may have changed. -/
theorem State.Departs.head {s' : State} (h : s'.Departs t i q l)
    (g : s' = { s with bus := s'.bus, bars := s'.bars, counters := s'.counters, waited := s'.waited }) :
    s.Departs t i q l := by
  have hh : ∀ j, s'.home j = s.home j := fun j => State.home_congr (by rw [g]) j
  have he : ∀ j, s'.entry j = s.entry j := fun j => State.entry_congr (by rw [g]) j
  have hl : ∀ j, s'.liveRecord j = s.liveRecord j := fun j => State.liveRecord_congr (by rw [g]) j
  have hr : s'.rogue = s.rogue := by rw [g]
  have hb : s'.banks = s.banks := by rw [g]
  have hf : s'.framer = s.framer := by rw [g]
  have hp : s'.probing = s.probing := by simp [State.probing, hr]
  obtain ⟨a1, a2, a3, a4, a5, a6, a7, a8, a9, a10⟩ := h
  constructor
  · rw [a1, he, hl]
  · intro j hj
    rw [← hh, ← he, ← hp]
    exact a2 j hj
  · intro r
    rw [← hl, ← he]
    exact a3 r
  · rw [← hl]
    exact a4
  · intro j hj
    rw [← hl]
    exact a5 j hj
  · rw [← hb]
    exact a6
  · rw [← hf]
    exact a7
  · rw [← hr]
    exact fun hc => ⟨(a8 hc).1, fun j hj => by rw [← hh]; exact (a8 hc).2 j hj⟩
  · rw [← hr]
    exact a9
  · have g' : s.SameRest s' := by
      rw [g]
      constructor <;> rfl
    exact (g'.trans (.of_update a10)).update

/-- A Leave is offered after it (R80). -/
theorem State.Departs.leave (h : s.Departs t i q none) (d : Directive) (hd : ∀ j n, d ≠ .setDelay j n) :
    s.Departs (t.offerLeave d) i q (some d) := by
  have hhom : (t.offerLeave d).homes = t.homes := by
    unfold State.offerLeave
    split
    · rw [State.pushDirective_eq _ _ hd]
    · simp
  have hh := fun j => State.home_congr hhom j
  have hl := fun j => State.liveRecord_congr (s := t) (t := t.offerLeave d) (by simp) j
  constructor
  · rw [hh]
    exact h.home
  · intro j hj
    rw [hh]
    exact h.others j hj
  · intro r hr
    rw [hl]
    exact h.record r hr
  · intro hr
    rw [hl]
    exact h.noRecord hr
  · intro j hj
    rw [hl]
    exact h.records j hj
  · simp only [State.offerLeave_banks]
    exact h.banks
  · rw [State.offerLeave_framer]
    simp only [h.framer]
  · intro hc
    simp only [State.offerLeave_rogue]
    exact ⟨(h.stays hc).1, fun j hj => by rw [hh]; exact (h.stays hc).2 j hj⟩
  · simp only [State.offerLeave_rogue]
    exact h.leaves
  · exact ((State.SameRest.of_update h.rest).trans (by constructor <;> simp)).update

/-- The end of an enrolment, with its Leave (R43, R50, R55). -/
theorem State.departs_endEnrolment (s : State) (i : HomeIdx) (q : RetireReason) (round : Round)
    (h : (s.entry i).state.inService = false ∨ (s.liveRecord i).isSome) :
    s.Departs (s.endEnrolment i q round) i q (some ((s.entry i).leaveDirective i)) :=
  (State.departs_leaveFor s i q round h).leave _ (Entry.leaveDirective_ne _ _)

theorem State.Departs.raise (h : s.Departs t i q l) (n : Notice) : s.Departs (t.raise n) i q l :=
  h.tail (by simp) (by simp) (by simp) (by simp) (by constructor <;> simp)

theorem State.Departs.bump (h : s.Departs t i q l) (c : Counter) : s.Departs (t.bump c) i q l :=
  h.tail rfl rfl rfl rfl (by constructor <;> rfl)

theorem State.Departs.addBar (h : s.Departs t i q l) (tag : Tag) (r : BarReason) (origin : Station) :
    s.Departs (t.addBar tag r origin) i q l :=
  h.tail (by simp) (by simp) (by simp) (by simp) (by constructor <;> simp)

/-! ### What a departure tells (R42, R142) -/

theorem State.reportStation_congr (h : t.setup = s.setup) : t.reportStation = s.reportStation := by
  simp [State.reportStation, h]

/-- The cancelled retest's message is all that a cancellation tells (R42). -/
theorem State.cancelRetest_bus (s : State) (i : HomeIdx) :
    (s.cancelRetest i).bus = s.bus.offered (s.cancelMessages i) := by
  unfold State.cancelRetest State.cancelMessages
  split
  · rw [Bus.offered_nil]
  · rw [State.raise_bus]
    rfl

/-- A candidate that leaves tells nothing, unless it was the last (R139, R142). -/
theorem State.dropCandidate_bus (s : State) (i : HomeIdx) (round : Round) :
    (s.dropCandidate i round).bus = s.bus.offered
      (match s.rogue.iso with
      | .probing p =>
        if i ∈ p.cands ∧ p.cands.erase i = [] then
          [(Notice.rogueUnresolved .empty round p.steps []).message s.reportStation]
        else []
      | _ => []) := by
  unfold State.dropCandidate
  cases s.rogue.iso with
  | probing p =>
    by_cases hi : i ∈ p.cands
    · by_cases he : p.cands.erase i = []
      · simp only [List.contains_iff_mem, hi, he, List.isEmpty_nil, if_true, and_self, State.endUnresolved,
          State.raise_bus]
        rfl
      · simp [hi, he, Bus.offered_nil]
    · simp [hi, Bus.offered_nil]
  | idle => exact (Bus.offered_nil _).symm
  | backoff n => exact (Bus.offered_nil _).symm

/-- A move that changes the home after the retest's end, and the candidate set last, tells the two in that order. -/
theorem State.parting_bus (s u : State) (i : HomeIdx) (round : Round) (hb : u.bus = (s.cancelRetest i).bus)
    (hr : u.rogue = s.rogue) (hs : u.setup = s.setup) :
    (u.dropCandidate i round).bus = s.bus.offered (s.partingMessages i round) := by
  rw [State.dropCandidate_bus, hb, hr, State.reportStation_congr hs, State.cancelRetest_bus, Bus.offered_append]
  rfl

theorem State.retire_bus (s : State) (i : HomeIdx) (q : RetireReason) (round : Round) :
    (s.retire i q round).bus = s.bus.offered (s.partingMessages i round) :=
  State.parting_bus s _ i round (by simp) (by simp) (by simp)

theorem State.vacate_bus (s : State) (i : HomeIdx) (round : Round) :
    (s.vacate i round).bus = s.bus.offered (s.partingMessages i round) :=
  State.parting_bus s _ i round (by simp) (by simp) (by simp)

theorem State.leaveFor_bus (s : State) (i : HomeIdx) (q : RetireReason) (round : Round) :
    (s.leaveFor i q round).bus = s.bus.offered (s.partingMessages i round) := by
  unfold State.leaveFor
  split
  · exact State.retire_bus ..
  · exact State.vacate_bus ..

theorem State.muteHome_bus (s : State) (i : HomeIdx) (q : MuteReason) (round : Round) :
    (s.muteHome i q round).bus = s.bus.offered (s.partingMessages i round) :=
  State.parting_bus s _ i round (by simp) (by simp) (by simp)

theorem State.endEnrolment_bus (s : State) (i : HomeIdx) (q : RetireReason) (round : Round) :
    (s.endEnrolment i q round).bus = s.bus.offered (s.partingMessages i round) := by
  rw [State.endEnrolment, State.offerLeave_bus, State.leaveFor_bus]

/-- The end of an enrolment tells its reason after the messages of the move (R43). -/
theorem State.failEnrolment_bus (s : State) (i : HomeIdx) (q : RetireReason) (why : EnrolReason) (round : Round) :
    (s.failEnrolment i q why round).bus = s.bus.offered
      (s.partingMessages i round ++ [(Notice.enrollFailed i (s.entry i).tagVal why).message s.reportStation]) := by
  rw [State.failEnrolment, State.raise_bus, State.endEnrolment_bus, Bus.offered_append,
    State.reportStation_congr (s := s) (by simp)]

end Sys2Proof.Machine
end

