-- ==== Sys2Proof/WellFormed.lean ====
section
/-! DEFINITION. Which commands are well formed: the operands a pin, a line or the bus can carry. The meanings are
total on every command; a command that is not well formed describes nothing that can happen outside. -/

namespace Sys2Proof

/-- The numbers rise strictly. -/
def ascending : List Nat → Bool
  | a :: b :: rest => decide (a < b) && ascending (b :: rest)
  | _ => true

/-- A window's header quantum holds 16 bytes and its payload at most the bytes of a round (R218, R62). -/
def BurstObs.wf (o : BurstObs) : Bool :=
  o.header.length == 16 && decide (o.payload.length ≤ 16 * 4000)

/-- Each ranging burst's delimiter lies in the round, and its body is two quanta (R218). -/
def RangingObs.wf (o : RangingObs) : Bool :=
  o.bursts.all fun b => decide (b.1 < 16 * 4000) && b.2.length == 32

/-- The Lit quanta rise and lie in 0..3,999, and each home is listed once (R63, R107). -/
def RoundObs.wf (o : RoundObs) : Bool :=
  ascending o.lit && o.lit.all (fun q => decide (q < 4000))
    && o.windows.all BurstObs.wf && o.spans.all RangingObs.wf
    && decide ((o.windows.map (·.index) ++ o.spans.map (·.index)).Nodup)

/-- The body holds the bytes the length field announces, where it announces 0..40 (R186, R192). -/
def BusMessage.wf (m : BusMessage) : Bool :=
  if m.length.toNat ≤ 40 then m.body.length == m.length.toNat else m.body.isEmpty

/-- A close brings a home up to 3 gains, so its decay is held back for at most 3 (R120). -/
def BoundaryPart.wf : BoundaryPart → Bool
  | .openingHolding l => l.all fun i => decide (l.count i ≤ 3)
  | .whole | .opening | .map => true

/-- The command's operands are ones the outside can present. -/
def Instr.wf : Instr → Bool
  | .discoveryBurst a b => decide (a < 4000) && b.length == 32
  | .roundClose o => o.wf
  | .downstreamFrame _ b room => decide (b.length < 65536) && decide (room ≤ 102400)
  | .messageReceived m => m.wf
  | .roundBoundary part => part.wf
  | .messageSendStart _ bits => decide (bits.length ≤ 361)
  | .downstreamFrameSent room => decide (room ≤ 102400)
  | .fullReset .. | .ratingComplete | .idleFillEnd | .discoveryDue
  | .approvalTimeout .. | .claimWindowExpiry .. | .dozeExpiry .. | .backoffExpiry | .epochTimerExpiry
  | .ringSegmentAdvance | .transmitSilenceDeclared .. | .transmitSilenceClear | .takeSlot ..
  | .claim | .counterClaim | .bar | .foreignMessage | .unknownKind | .setup | .queryStatus | .readCounters
  | .treeRestart | .readHome | .removeHome | .approve | .deny | .retest | .addBar | .clearBar | .readBarList
  | .setShare | .wakeHome | .startIsolation | .releaseMute | .loadRates | .loadRing | .closeEpoch
  | .readUsageSummary | .readUsageVolumes | .releaseBank | .clockStopsBeforeTakeSlot => true

end Sys2Proof
end

