-- ==== Sys2Proof/Tests/Slice0.lean ====
section
/-! SUPPORT. Tests of the model against the manual's own tables and worked cases, and for every statement with
hypotheses a state and operands that meet them. -/

namespace Sys2Proof.Tests

set_option Elab.async false

open Sys2Proof Sys2Proof.Machine

/-! ### Small states -/

/-- The state a command leaves. -/
def after (c : Instr) (s : State) : State :=
  match exec c s with
  | .next t => t
  | _ => s

/-- A message from station 20 to station 0. -/
def msg (kind : BitVec 6) (body : List Byte) : InMsg := { cls := 2, kind, sender := 20, target := 0, body }

/-- The inbox holds one message. -/
def told (s : State) (m : InMsg) : State := { s with bus := { s.bus with inbox := [m] } }

/-- A class S part right after a Setup with every default. -/
def set : State := State.reset.acceptSetup (setupParams (List.replicate 15 0 ++ [255])).1

/-- A home in a state, with tag 7 and the fields that state holds. -/
def homeAs (st : EState) : Home :=
  { Home.vacant with
    entry :=
      { Entry.vacant with
        state := st
        tag := some 7
        delay := if st.measured || st == .retired then some 17487 else none
        level := if st.measured || st == .retired then some 140 else none
        backlog := if st == .active || st == .dozing then some 30 else none
        claim := if st.inService then some .confirmed else none
        wish := if st == .active then some false else none
        dozeLeft := if st == .dozing then some 5 else none
        mute := if st == .muted then some .convicted else none
        retire := if st == .retired then some .lost else none }
    progress :=
      if st.enrolling then
        some { coarse := 40, tries := 0, tests := 0, stage := .spanDue, waiting := none, clock := none }
      else none }

/-- A Set part with one home, and its record in the Live bank where the home is in service or Retired. -/
def one (i : HomeIdx) (st : EState) : State :=
  let s := set.setHome i (homeAs st)
  if st.inService || st == .retired then s.makeRecord i else s

/-- The part with a full outbox. -/
def crammed (s : State) : State :=
  { s with bus := { s.bus with outbox := List.replicate 16 (claimMessage 7 0 0) } }

/-- The part with a full directive queue. -/
def queued (s : State) : State := { s with framer := { s.framer with queue := List.replicate 32 (.wake 0) } }

/-- Isolation is Probing with one candidate. -/
def probing (s : State) (step : IsoStep) (c : List HomeIdx) : State :=
  { s with rogue := { s.rogue with iso := .probing { cands := c, step, obs := none, settle := 0, steps := 2 } } }

/-- A closed bank with records. -/
def closed (records : Vector (Option UsageRecord) 64) : ClosedBank := { plan := .flat, start := 0, stop := 9, records }

/-- One record at index 3. -/
def oneRecord (r : UsageRecord) : Vector (Option UsageRecord) 64 := (Vector.replicate 64 none).set 3 (some r)

def blank : UsageRecord := .fresh 7 0 .clear

/-- The other bank is in a state. -/
def bank (b : OtherBank) (s : State) : State := { s with banks := { s.banks with other := b } }

/-- The bar list, given by its tags. -/
def barring (s : State) (tags : List Nat) : State :=
  { s with bars := tags.map fun t => { tag := BitVec.ofNat 64 t, reason := .operator, origin := 7 } }

/-- The port has seen twelve idle bit times since the full reset. -/
def ready (s : State) : State := { s with bus := { s.bus with ready := true } }

/-- Nothing is heard in a round. -/
def dark : RoundObs := { lit := [], windows := [], spans := [], lossAfterGains := [], lossAfterHand := [] }

/-- A mapped round that waits for its close. -/
def closing (s : State) (ws : List Window) : State :=
  { s with rx := { s.rx with
      closing := [{ round := 9, map := some { span := none, windows := ws }, spanGood := false, cutOff := false }] } }

/-- A window record of a home with tag 7. -/
def window (i : HomeIdx) (p : Purpose) (start length : Nat) : Window :=
  { index := i, purpose := p, start, length, payload := 0, tag := some 7, preset := 140 }

/-- A mapped round with a discovery span is arriving. -/
def inviting (s : State) (cutOff : Bool) : State :=
  { s with rx := { s.rx with
      arriving :=
        some { round := 9, map := some { span := some (.discovery, 1638), windows := [] }, spanGood := false, cutOff } } }

/-- The body of a discovery or ranging burst. -/
def burst (tag : Nat) (backoff : Nat) : List Byte :=
  let b := bytesOf 8 tag ++ bytesOf 1 backoff
  b ++ bytesOf 2 (crcBytes b).toNat ++ List.replicate 21 0

/-- Twelve idle bit times. -/
def idles : List BitTime := List.replicate 12 .idle

/-- A message on the bus with a good check. -/
def sent (sender target : Station) (length : BitVec 6) (body : List Byte) : BusMessage :=
  { before := [], cls := 2, kind := 21, sender, target, length, body, check := crc16 (frameBits 2 21 sender target length body) }

theorem asks {s : State} {m : InMsg} {k n : Nat}
    (h : s.bus.inbox.head? = some m ∧ m.kind.toNat = k ∧ m.body.length = n ∧ s.bus.outbox.length < 16) :
    s.Asks m k n := ⟨h.1, h.2.1, h.2.2.1, h.2.2.2⟩

theorem asks_told {s : State} {m : InMsg} {k n : Nat} (hk : m.kind.toNat = k) (hn : m.body.length = n)
    (h : s.bus.outbox = []) : (told s m).Asks m k n := ⟨rfl, hk, hn, by simp [told, h]⟩

/-- A lookup finds an entry. -/
theorem finds {s : State} {tag : Tag} {i : HomeIdx}
    (h : (s.entry i).state ≠ .vacant ∧ (s.entry i).tag = some tag
      ∧ ∀ j, j < i → (s.entry j).state = .vacant ∨ (s.entry j).tag ≠ some tag) : s.Finds tag i := ⟨h.1, h.2.1, h.2.2⟩

theorem one_outbox (i : HomeIdx) (st : EState) : (one i st).bus.outbox = [] := by
  unfold one State.makeRecord
  dsimp only
  repeat' split
  all_goals rfl

/-! ### Well-formedness: one ill-formed term for each check -/

def burstObs : BurstObs := { index := 0, delimiter := none, level := 0, header := List.replicate 16 0, payload := [] }

theorem test_wf_header_short : BurstObs.wf { burstObs with header := List.replicate 15 0 } = false := by decide
theorem test_wf_burst_good : burstObs.wf = true := by decide
theorem test_wf_delimiter_outside : RangingObs.wf { index := 0, bursts := [(64000, List.replicate 32 0)] } = false := by
  decide
theorem test_wf_body_short : RangingObs.wf { index := 0, bursts := [(63999, List.replicate 31 0)] } = false := by decide
theorem test_wf_ranging_good : RangingObs.wf { index := 0, bursts := [(63999, List.replicate 32 0)] } = true := by
  decide
theorem test_wf_lit_falling : RoundObs.wf { dark with lit := [5, 5] } = false := by decide
theorem test_wf_lit_outside : RoundObs.wf { dark with lit := [4000] } = false := by decide
theorem test_wf_window_bad : RoundObs.wf { dark with windows := [{ burstObs with header := [] }] } = false := by decide
theorem test_wf_span_bad : RoundObs.wf { dark with spans := [{ index := 0, bursts := [(0, [])] }] } = false := by decide
theorem test_wf_home_twice : RoundObs.wf { dark with windows := [burstObs, burstObs] } = false := by decide
theorem test_wf_round_good : RoundObs.wf { dark with lit := [0, 3999], windows := [burstObs] } = true := by decide
theorem test_wf_message_short : BusMessage.wf { sent 20 0 2 [1] with length := 2 } = false := by decide
theorem test_wf_message_overlong : BusMessage.wf { sent 20 0 0 [] with length := 41, body := [1] } = false := by decide
theorem test_wf_discovery_late : Instr.wf (.discoveryBurst 4000 (List.replicate 32 0)) = false := by decide
theorem test_wf_discovery_short : Instr.wf (.discoveryBurst 3999 (List.replicate 31 0)) = false := by decide
theorem test_wf_close_bad : Instr.wf (.roundClose { dark with lit := [4000] }) = false := by decide
theorem test_wf_frame_room : Instr.wf (.downstreamFrame 0 [] 102401) = false := by decide
theorem test_wf_sent_room : Instr.wf (.downstreamFrameSent 102401) = false := by decide
theorem test_wf_received_bad : Instr.wf (.messageReceived { sent 20 0 2 [1] with length := 2 }) = false := by decide
theorem test_wf_bits_many : Instr.wf (.messageSendStart idles (List.replicate 362 true)) = false := by decide +kernel
theorem test_wf_decay_four_times : Instr.wf (.roundBoundary (.openingHolding [2, 2, 2, 2])) = false := by decide
theorem test_wf_setup_good : Instr.wf .setup = true := by decide

/-! ### The interface -/

theorem test_no_row_spells_a_word : decodeTableWord 16 0 = none := by decide

theorem test_step_takes_first_in_first_out :
    step { State.reset with pending := [.idleFillEnd, .claim] }
      = exec .idleFillEnd { State.reset with pending := [.claim] } := by rfl

/-! ### Formats and formulas, against values from outside the model -/

/-- The check of the family of R187 over the ASCII digits 1 to 9 is published as 29B1. -/
theorem test_check_of_digits : crcBytes [49, 50, 51, 52, 53, 54, 55, 56, 57] = 0x29B1#16 := by decide +kernel

/-- R35: all stages start at 1, and the period is 2,047 bits, followed by the first bit again. -/
theorem test_sequence_starts_with_ones :
    checkSequence.take 12 = List.replicate 11 true ++ [false] ∧ checkSequence.length = 2048 := by decide +kernel

/-- 9.5, the record in full. -/
theorem test_rating_record_in_full :
    ({ blank with
        up := #v[1500000000, 0, 523264, 1023], down := #v[6000000000, 2147483648, 511, 512] }.rated
      { Plan.flat with up := #v[400, 250, 100, 20], down := #v[120, 80, 30, 5], fee := 1500, scale := 4 }).charge
      = some 91056868 := by decide +kernel

/-- 9.5, the limits: the fourth row clamps twice, the second rounds up. -/
theorem test_rating_limits :
    ({ blank with up := Vector.replicate 4 (2 ^ 40 - 1), down := Vector.replicate 4 (2 ^ 40 - 1) }.rated
      { Plan.flat with up := Vector.replicate 4 65535, down := Vector.replicate 4 65535, fee := 65535 }).charge
      = some 1099511627775
    ∧ ({ blank with up := #v[23552, 0, 0, 0] }.rated { Plan.flat with up := #v[1, 0, 0, 0], scale := 1 }).charge
      = some 12 := by decide +kernel

/-- 4.3, the ranging span among data: the payload is cut before the span's guard. -/
theorem test_map_cuts_data_before_span :
    ((planMap
        (((Vector.replicate 64 Home.vacant).set 1 (homeAs .active)
          |>.set 3 (homeAs .ranging))
          |>.set 5 { homeAs .active with entry := { (homeAs .active).entry with backlog := some 0, balance := 1 } })
        0 none).1.grants.map fun g => (g.kind, g.index.val, g.start, g.length))
      = [(.data, 1, 2, 26), (.ranging, 3, 30, 24), (.poll, 5, 56, 3)] := by decide +kernel

/-- 6.5, the level case: 147 and 152 are learned from 140, 127 is weak. -/
theorem test_level_learning :
    ((one 4 .active).learnLevel (window 4 .data 2 4) 147).entry 4 = { (homeAs .active).entry with level := some 142 }
    ∧ ((one 4 .active).learnLevel (window 4 .data 2 4) 152).entry 4
      = { (homeAs .active).entry with level := some 143 }
    ∧ ((one 4 .active).learnLevel (window 4 .data 2 4) 127).counter .weakBurst = 1 := by decide +kernel

/-- 6.6, the stray counts of the last two rows that hold no overlap. -/
theorem test_stray_counts :
    let x : Expectation :=
      { span := none, windows := [window 2 .data 2 503, window 7 .data 507 103, window 9 .poll 612 3] }
    x.stray { dark with lit := 610 :: List.range' 2000 300 } = 301
    ∧ x.stray { dark with lit := [0, 505, 506, 615] } = 4
    ∧ x.attributes { dark with lit := [0, 505, 506, 615] } = false := by decide +kernel

/-! ### One step of each command -/

theorem test_full_reset_listens_only_at_31 :
    (after (.fullReset 31 .long) set).bus.listenOnly = true ∧ (after (.fullReset 31 .long) set).setup = none := by
  decide +kernel

/-- A part whose next boundary is mapped: no idle fill is left, and the first map has been built. -/
def mapped (s : State) : State :=
  { s with clock := { s.clock with idleLeft := 0, firstMap := false }, planner := { rotation := 5, phase := 10 } }

/-- 4.3, the worked map: homes 2, 7 and 9. -/
def workedMap : State :=
  let home (backlog g w : Nat) (b : Int) : Home :=
    { homeAs .active with
      entry := { (homeAs .active).entry with backlog := some backlog, share := g, weight := w, balance := b } }
  mapped (((set.setHome 2 (home 500 300 4 0)).setHome 7 (home 100 0 2 (-3))).setHome 9 (home 0 100 1 3))

theorem test_round_boundary_builds_worked_map :
    ((after (.roundBoundary .whole) workedMap).framer.header.bind fun h => h.map.map fun m =>
        m.grants.map fun g => (g.kind, g.index.val, g.start, g.length))
      = some [(.data, 2, 2, 503), (.data, 7, 507, 103), (.poll, 9, 612, 3)]
    ∧ (after (.roundBoundary .whole) workedMap).planner.rotation = 3 := by decide +kernel

theorem test_round_boundary_charges_worked_map :
    let t := after (.roundBoundary .whole) workedMap
    ((t.entry 2).balance, (t.entry 7).balance, (t.entry 9).balance) = (-1, -4, 2)
    ∧ ((t.entry 2).backlog, (t.entry 7).backlog) = (some 0, some 0) := by decide +kernel

theorem test_rating_complete_makes_done :
    (after .ratingComplete (bank (.rating (closed (oneRecord blank)) none true) set)).banks.other
      = .done (closed (oneRecord blank)) := by decide +kernel

theorem test_idle_fill_end_starts_phase_at_zero :
    let t := after .idleFillEnd { set with clock := { set.clock with headerOpen := true, idleLeft := 0 } }
    t.planner.phase = 0 ∧ t.clock.firstMap = false := by decide +kernel

theorem test_discovery_due_advances_by_period :
    (after .discoveryDue { set with clock := { set.clock with round := 8, headerOpen := true } }).enrol
      = { due := 72, offered := true } := by decide +kernel

/-- 2.2, the crowded span: the first burst revives Retired entry 3 with R_c = 131, the second finds a barred tag. -/
theorem test_discovery_burst_revives :
    let t := after (.discoveryBurst 140 (burst 7 9)) (inviting (one 3 .retired) false)
    (t.entry 3).state = .ranging ∧ ((t.home 3).progress.map fun p => p.coarse) = some 131
      ∧ t.framer.queue = [.assign 7 3] := by decide +kernel

theorem test_discovery_burst_barred :
    let t := after (.discoveryBurst 655 (burst 11 30)) (inviting (barring set [11]) false)
    t.counter .barredAttempts = 1 ∧ t.enrollingCount = 0 := by decide +kernel

/-- A home with a score of 15 and three misses, in a dark window with light before it; another window is lit. -/
def doubtful : State :=
  closing ((one 2 .active).modEntry 2 fun e => { e with miss := 3, score := 15 }) [window 2 .data 20 4, window 3 .poll 40 3]

/-- R144: where the fourth miss is applied first, the score of the Retired entry is still raised, and no mute follows;
where the gain is applied first, the home is muted, and the miss no longer counts. -/
theorem test_round_close_orders_loss_and_gain :
    let lossFirst := after (.roundClose { dark with lit := [19, 41] }) doubtful
    let gainFirst := after (.roundClose { dark with lit := [19, 41], lossAfterGains := [2] }) doubtful
    ((lossFirst.entry 2).state = .retired ∧ (lossFirst.entry 2).score = 16 ∧ lossFirst.counter .misbehaviourMute = 0)
      ∧ (gainFirst.entry 2).state = .muted ∧ (gainFirst.entry 2).miss = 3 ∧ gainFirst.counter .earlyLight = 1 := by
  decide +kernel

/-- An Active home with a score in round 63, with light before its window in the round that closes at boundary 64. -/
def decaying (score : Nat) (hold : List HomeIdx) : State :=
  let s := closing ((one 2 .active).modEntry 2 fun e => { e with score }) [window 2 .data 20 4]
  after (.roundClose { dark with lit := [19, 20] })
    (after (.roundBoundary (.openingHolding hold)) { s with clock := { s.clock with round := 63 } })

/-- R120: a gain and a decay of one close in both orders, at 0, at 31 and at M_lim - 1. -/
theorem test_decay_and_gain_in_either_order :
    ((decaying 0 []).entry 2).score = 1 ∧ ((decaying 0 [2]).entry 2).score = 0
      ∧ ((decaying 31 []).entry 2).score = 31 ∧ ((decaying 31 [2]).entry 2).score = 30
      ∧ ((decaying 15 []).entry 2).state = .active ∧ ((decaying 15 [2]).entry 2).state = .muted
      ∧ ((decaying 15 [2]).entry 2).score = 15 := by decide +kernel

/-- R154: an addition of no byte to a counter at the top of its range is an addition too. -/
theorem test_addition_at_top_counts :
    let r := { blank with up := #v[1099511627775, 0, 0, 0], flags := { RecFlags.clear with saturated := true } }
    let s := (one 3 .active)
    let s := { s with banks := { s.banks with live := some { plan := .flat, start := 0, records := oneRecord r } } }
    (s.countBytes 3 true 0).counter .counterSaturated = 1
      ∧ ((s.countBytes 3 true 0).liveRecord 3).map (fun r => r.up[0]) = some 1099511627775 := by decide +kernel

/-- 8.3: a frame of 500 bytes in a payload of 1,000, of which the operand lists 302 bytes. -/
theorem test_payload_is_as_long_as_its_header_says :
    ((one 3 .active).takePayload 3 (bytesOf 2 500 ++ List.replicate 300 1) 1000).toSwitch.map (fun f => f.bytes.length)
        = [500]
      ∧ ((one 3 .active).takePayload 3 (bytesOf 2 500 ++ List.replicate 300 1) 501).counter .upstreamMalformed = 1 := by
  decide +kernel

/-- R108: a discovery span sets the nominal preset at quantum 0 of its round, and a window sets its home's from its
start on. -/
theorem test_preset_switches :
    let x : Expectation := { span := some (.discovery, 1638), windows := [window 2 .poll 1640 3] }
    let e : RoundExp := { round := 9, map := some x, spanGood := false, cutOff := false }
    let rx := ({ set.rx with preset := 77, next := some e } : Receiver).shift
    rx.presetAt 0 = 128 ∧ rx.presetAt 1639 = 128 ∧ rx.presetAt 1640 = 140 ∧ rx.shift.preset = 140 := by decide +kernel

/-- 2.4, the delay arithmetic: 9,137 phase units of round trip give D = 17,487 in class S. -/
theorem test_round_close_takes_ranging :
    let s := (one 2 .ranging).modProgress 2 fun p => { p with stage := .spanOutstanding 9 }
    let o := { dark with lit := [571, 572], spans := [{ index := 2, bursts := [(9153, burst 7 0)] }] }
    let t := after (.roundClose o) (closing s [window 2 .enrolRanging 560 24])
    (t.entry 2).delay = some 17487 ∧ (t.entry 2).state = .testing := by decide +kernel

/-- R30: round 9 closes while the home, enrolled again, waits for the span of round 12; a span in round 9 would be a
failed try. -/
theorem test_earlier_span_is_discarded :
    let s (round : Round) := (one 2 .ranging).modProgress 2 fun p => { p with stage := .spanOutstanding round }
    let t (round : Round) := after (.roundClose dark) (closing (s round) [window 2 .enrolRanging 560 24])
    (t 12).home 2 = (s 12).home 2 ∧ ((t 9).home 2).progress.map (fun p => p.tries) = some 1 := by decide +kernel

theorem test_approval_timeout :
    let s := (one 2 .held).modProgress 2 fun p => { p with stage := .waitingApproval, clock := some 4000 }
    let t := after (.approvalTimeout 2) s
    (t.entry 2).state = .vacant ∧ t.framer.queue = [.leaveIndex 2] := by decide +kernel

/-- A Pending claim with a window. -/
def claiming (s : State) (i : HomeIdx) (left : Nat) : State :=
  s.modHome i fun h => { h with entry := { h.entry with claim := some .pending }, window := some left }

theorem test_claim_window_expiry_confirms :
    let t := after (.claimWindowExpiry 2) (claiming (one 2 .active) 2 0)
    (t.entry 2).claim = some .confirmed ∧ (t.home 2).window = none := by decide +kernel

theorem test_doze_expiry_wakes :
    let t := after (.dozeExpiry 2) ((one 2 .dozing).modEntry 2 fun e => { e with dozeLeft := some 0 })
    (t.entry 2).state = .active ∧ (t.entry 2).balance = 1 ∧ t.framer.queue = [.wake 2] := by decide +kernel

theorem test_backoff_expiry_idles_without_alarm :
    (after .backoffExpiry { set with rogue := { set.rogue with iso := .backoff 0 } }).rogue.iso = .idle := by
  decide +kernel

/-- The epoch timer stands at 0. -/
def expired (s : State) : State := { s with banks := { s.banks with timer := 0 } }

theorem test_epoch_timer_expiry_swaps :
    let t := after .epochTimerExpiry (expired (one 2 .active))
    t.banks.liveId = .bankB ∧ t.banks.timer = 172800000 ∧ t.banks.other.code = 3 := by decide +kernel

theorem test_epoch_timer_expiry_holds :
    let t := after .epochTimerExpiry (expired (bank (.done (closed (oneRecord blank))) set))
    t.banks.held = true ∧ t.banks.liveId = .bankA ∧ t.counter .epochHeld = 1 := by decide +kernel

/-- 8.4, the three-segment ring: after segment 2 the ring wraps to segment 0. -/
def threeSegments : Plan :=
  { Plan.flat with segments := [⟨1, 420⟩, ⟨0, 600⟩, ⟨2, 420⟩], startSeg := 1, startOff := 1800, cont := false }

/-- The Live plan is the three-segment ring, at a position. -/
def ringAt (r : Ring) : State :=
  { set with
    ring := some r
    banks := { set.banks with live := some { plan := threeSegments, start := 0, records := Vector.replicate 64 none } } }

theorem test_ring_segment_advance_wraps :
    (after .ringSegmentAdvance (ringAt { seg := 2, elapsed := 50399999, due := true })).ring
      = some { seg := 0, elapsed := 0, due := false } := by decide +kernel

theorem test_transmit_silence_declared_at_128 :
    let t := after (.transmitSilenceDeclared 128) set
    t.framer.silence = true ∧ t.counter .transmitSilence = 1
      ∧ (after (.transmitSilenceDeclared 127) set).framer.silence = false := by decide +kernel

theorem test_transmit_silence_clear :
    let t := after .transmitSilenceClear { set with framer := { set.framer with run := 128, silence := true } }
    t.framer.silence = false ∧ t.framer.run = 0 := by decide +kernel

/-- 8.3, saturation: 1,500 bytes carry down[0] to the top of its range. -/
theorem test_downstream_frame_saturates :
    let r := { blank with down := #v[1099511627416, 4096, 0, 0] }
    let s := (one 3 .active)
    let s := { s with banks := { s.banks with live := some { plan := .flat, start := 0, records := oneRecord r } } }
    let t := after (.downstreamFrame 3 (List.replicate 1500 0) 5000) s
    (t.liveRecord 3).map (fun r => (r.down[0], r.flags.saturated)) = some (1099511627775, true)
      ∧ t.counter .counterSaturated = 1 := by decide +kernel

theorem test_downstream_frame_discarded :
    (after (.downstreamFrame 3 (List.replicate 64 0) 5000) (one 3 .muted)).counter .undeliverableFrame = 1 := by
  decide +kernel

theorem test_downstream_frame_sent_waits_for_room :
    let f : Frame := { index := 3, bytes := List.replicate 64 0 }
    let s := { set with framer := { set.framer with sending := some f, waiting := some f } }
    (after (.downstreamFrameSent 67) s).framer.waiting = none
      ∧ (after (.downstreamFrameSent 66) s).framer.waiting = some f := by decide +kernel

/-- R150: a frame that a tree restart found waiting is sent after the restart's first idle-fill header. -/
theorem test_restart_frame_waits_for_header :
    let f : Frame := { index := 3, bytes := List.replicate 64 0 }
    let s := { mapped set with framer := { set.framer with sending := some f, waiting := some f } }
    let t := after (.downstreamFrameSent 5000) (after .treeRestart (told s (msg 23 [])))
    t.framer.sending = none ∧ t.framer.waiting = some f
      ∧ (after (.roundBoundary .opening) t).framer.sending = some f := by decide +kernel

theorem test_message_received_joins_inbox :
    (after (.messageReceived (sent 20 31 0 [])) (ready set)).bus.inbox
        = [{ cls := 2, kind := 21, sender := 20, target := 31, body := [] }]
      ∧ (after (.messageReceived { sent 20 31 0 [] with check := 0 }) (ready set)).counter .crcError = 1
      ∧ (after (.messageReceived (sent 0 31 0 [])) (ready set)).bus.listenOnly = true := by decide +kernel

/-- R200: after a full reset nothing is taken before the idle count first reaches 12. -/
theorem test_message_before_first_idle_is_not_taken :
    let r := after (.fullReset 0 .short) (ready set)
    (after (.messageReceived { sent 20 31 0 [] with before := List.replicate 11 .idle }) r).bus.inbox = []
      ∧ (after (.messageReceived { sent 20 31 0 [] with before := idles }) r).bus.inbox.length = 1
      ∧ (after .clockStopsBeforeTakeSlot r).counter .frameError = 0 := by decide +kernel

/-- R192: after a length of 41 the port waits for 12 idle bit times; the end of that message counts no second error. -/
theorem test_overlong_length_waits_for_idle :
    let t := after (.messageReceived (sent 20 0 41 [])) (ready set)
    t.counter .frameError = 1 ∧ (after .clockStopsBeforeTakeSlot t).counter .frameError = 1
      ∧ (after (.messageReceived (sent 20 0 0 [])) t).bus.inbox = []
      ∧ (after (.messageReceived { sent 20 0 0 [] with before := idles }) t).bus.inbox.length = 1 := by decide +kernel

theorem test_clock_stops : (after .clockStopsBeforeTakeSlot (ready set)).counter .frameError = 1 := by decide +kernel

/-- The outbox holds one Claim. -/
def offering (s : State) : State := { s with bus := { s.bus with outbox := [claimMessage 7 0 2] } }

/-- 10.2: a station with class 1 sees a 0 in the second class bit and loses; alone it goes on. -/
theorem test_message_send_start :
    (after (.messageSendStart idles [false, false, false]) (offering set)).counter .arbitrationLost = 1
      ∧ (after (.messageSendStart idles []) (offering set)).bus.sending = true := by decide +kernel

/-- R185: SBDA held low sets the idle count to 0, so 5 idle bit times before it do not count. -/
theorem test_held_low_ends_idle_count :
    let t := after (.messageSendStart (List.replicate 5 .idle ++ [.busy] ++ List.replicate 7 .idle) []) (offering set)
    t.bus.sending = false ∧ t.bus.idle = 7 := by decide +kernel

theorem test_take_slot_untaken :
    let s := { offering set with bus := { (offering set).bus with sending := true } }
    let t := after (.takeSlot false) s
    t.bus.outbox = [] ∧ t.counter .untaken = 1 ∧ t.counter .messagesSent = 1 := by decide +kernel

/-- 3.4, stations 4 and 11: station 11 takes the Claim from 4, lower than its own number. -/
theorem test_claim_drops_higher_station :
    let s := claiming (one 2 .active) 2 200
    let s := { s with straps := { s.straps with station := 11 } }
    let m := { msg 8 (bytesOf 8 7 ++ [4, 9]) with sender := 4 }
    let t := after .claim (told s m)
    (t.entry 2).state = .retired ∧ t.bars = [{ tag := 7, reason := .clone, origin := 4 }]
      ∧ t.framer.queue = [.leaveIndex 2] := by decide +kernel

theorem test_counter_claim_ignored_when_retired :
    (after .counterClaim (told (one 2 .retired) (msg 9 (bytesOf 8 7 ++ [20])))).counter .counterClaimsIgnored = 1 := by
  decide +kernel

/-- 3.6, a full list: a Bar for a tag on it moves it to newest. -/
theorem test_bar_moves_to_newest :
    let t := after .bar (told (barring set (List.range 16)) (msg 10 (bytesOf 8 5 ++ [1, 20])))
    t.bars.length = 16 ∧ t.bars.getLast? = some { tag := 5, reason := .rogue, origin := 20 }
      ∧ t.counter .barEvicted = 0 := by decide +kernel

theorem test_foreign_message : (after .foreignMessage (told set (msg 48 []))).counter .foreignMessage = 1 := by
  decide +kernel

theorem test_unknown_kind :
    ((after .unknownKind (told State.reset (msg 63 []))).bus.outbox.map fun m => m.body) = [[63, 2]] := by decide +kernel

theorem test_setup_clamps_zeros :
    let t := after .setup (told State.reset (msg 20 (List.replicate 16 0)))
    (t.setup.map fun p => (p.upkeep, p.epoch, p.misLim)) = some (4, 2000, 4)
      ∧ (t.bus.outbox.map fun m => m.body.take 4) = [[20, 1, 0, 4]] := by decide +kernel

theorem test_query_status_answers_38_bytes :
    let t := after .queryStatus (told set (msg 21 []))
    (t.bus.outbox.map fun m => (m.cls, m.kind, m.target, m.body.length, m.body.take 3)) = [(2, 16, 20, 40, [21, 0, 128])]
    := by decide +kernel

theorem test_read_counters_clears_after_reading :
    let s := (set.bump .stationClash).bump .untaken
    let t := after .readCounters (told s (msg 22 [8, 1]))
    t.counter .stationClash = 0 ∧ t.counter .untaken = 0 ∧ t.counter .requestsTaken = 1 := by decide +kernel

theorem test_tree_restart_retires_then_swaps :
    let t := after .treeRestart (told (one 2 .active) (msg 23 []))
    (t.entry 2).state = .vacant ∧ t.banks.liveId = .bankB ∧ t.clock.idleLeft = 8 ∧ t.enrol.due = 9 := by decide +kernel

theorem test_tree_restart_holds_epoch :
    let t := after .treeRestart (told (bank (.done (closed (oneRecord blank))) (one 2 .active)) (msg 23 []))
    (t.entry 2).state = .retired ∧ (t.entry 2).retire = some .restart ∧ t.banks.held = true := by decide +kernel

theorem test_read_home :
    let t := after .readHome (told (one 2 .muted) (msg 24 [2]))
    (t.bus.outbox.map fun m => (m.body.length, m.body.take 4)) = [(33, [24, 0, 2, 6])] := by decide +kernel

theorem test_remove_home_from_ranging_leaves_by_tag :
    let t := after .removeHome (told (one 2 .ranging) (msg 25 ([2] ++ bytesOf 8 7)))
    t.framer.queue = [.leaveTag 7] := by decide +kernel

theorem test_approve :
    let t := after .approve (told (one 2 .held) (msg 26 ([2] ++ bytesOf 8 7)))
    (t.entry 2).state = .active ∧ (t.home 2).window = some 200
      ∧ (t.bus.outbox.map fun m => m.kind) = [16, 8] := by decide +kernel

theorem test_deny :
    let t := after .deny (told (one 2 .held) (msg 27 ([2] ++ bytesOf 8 7)))
    t.framer.queue = [.leaveIndex 2] ∧ t.bars = [] := by decide +kernel

theorem test_retest : ((after .retest (told (one 2 .active) (msg 28 [2]))).home 2).retest = .asked := by decide +kernel

/-- 3.6: entry 6 holds the tag in Testing; it leaves, and the answer names it. -/
theorem test_add_bar_ends_enrolment :
    let t := after .addBar (told (set.setHome 6 (homeAs .testing)) (msg 29 (bytesOf 8 7)))
    (t.entry 6).state = .vacant ∧ t.framer.queue = [.leaveIndex 6]
      ∧ (t.bus.outbox.map fun m => m.body.take 4) = [[29, 0, 2, 6]] := by decide +kernel

theorem test_clear_bar_absent :
    ((after .clearBar (told (barring set [1, 2]) (msg 30 ([0] ++ bytesOf 8 3)))).bus.outbox.map fun m => m.body)
      = [[30, 10]] := by decide +kernel

theorem test_read_bar_list_page :
    let t := after .readBarList (told (barring set (List.range 5)) (msg 31 [1]))
    (t.bus.outbox.map fun m => (m.body.length, m.body.take 13))
      = [(40, [31, 0, 5, 1, 0, 0, 0, 0, 0, 0, 0, 4, 199])] := by decide +kernel

theorem test_set_share_clamps :
    let t := after .setShare (told (one 2 .active) (msg 32 ([2] ++ bytesOf 2 1001 ++ [0])))
    (t.entry 2).share = 1000 ∧ (t.entry 2).weight = 1
      ∧ (t.bus.outbox.map fun m => m.body) = [[32, 1, 3, 232, 1]] := by decide +kernel

theorem test_wake_home :
    let t := after .wakeHome (told (one 2 .dozing) (msg 33 [2]))
    (t.entry 2).state = .active ∧ (t.entry 2).balance = 1 := by decide +kernel

theorem test_start_isolation_mutes_candidates :
    let s := (one 2 .dozing)
    let t := after .startIsolation (told { s with rogue := { s.rogue with alarm := true } } (msg 34 []))
    t.probing = true ∧ (t.entry 2).probe = true ∧ t.counter .isolationRun = 1 := by decide +kernel

theorem test_release_mute :
    let t := after .releaseMute (told (one 2 .muted) (msg 35 [2]))
    (t.entry 2).state = .active ∧ (t.entry 2).backlog = some 0 := by decide +kernel

theorem test_load_rates_clamps_scale :
    let t := after .loadRates (told set (msg 36 (bytesOf 2 400 ++ List.replicate 16 0 ++ [8])))
    (match t.banks.other with | .ready p => some (p.up[0], p.scale, p.cont) | _ => none) = some (400, 7, true) := by
  decide +kernel

theorem test_load_ring_bad_start :
    let t := after .loadRing (told set (msg 37 ([1, 1, 0, 0, 0, 0] ++ [2, 1, 164])))
    (match t.banks.other with | .ready p => some (p.segments, p.startSeg) | _ => none) = some ([⟨2, 420⟩], 0) := by
  decide +kernel

theorem test_close_epoch_busy :
    ((after .closeEpoch (told (bank (.done (closed (oneRecord blank))) set) (msg 38 []))).bus.outbox.map
      fun m => m.body) = [[38, 8]] := by decide +kernel

theorem test_read_usage_summary :
    let r := { blank with charge := some 91056868, flags := { RecFlags.clear with partialEpoch := true } }
    ((after .readUsageSummary (told (bank (.done (closed (oneRecord r))) set) (msg 39 [3]))).bus.outbox.map
      fun m => (m.body.take 4, m.body.drop 12))
      = [([39, 0, 1, 3], [128] ++ bytesOf 5 0 ++ bytesOf 5 0 ++ bytesOf 5 91056868)] := by decide +kernel

theorem test_read_usage_volumes_absent :
    ((after .readUsageVolumes (told (bank (.done (closed (oneRecord blank))) set) (msg 40 [4, 0]))).bus.outbox.map
      fun m => m.body) = [[40, 10]] := by decide +kernel

theorem test_release_bank_empties :
    (after .releaseBank (told (bank (.done (closed (oneRecord blank))) set) (msg 41 []))).banks.other = .empty := by
  decide +kernel

/-! ### A state and operands that meet the hypotheses of each statement, clause by clause -/

theorem witness_SetupStartsThePart :
    (told State.reset (msg 20 (List.replicate 16 0))).Asks (msg 20 (List.replicate 16 0)) 20 16
      ∧ (told State.reset (msg 20 (List.replicate 16 0))).setup = none
      ∧ (told set (msg 20 (List.replicate 16 0))).Asks (msg 20 (List.replicate 16 0)) 20 16
      ∧ (told set (msg 20 (List.replicate 16 0))).setup.isSome :=
  ⟨asks (by decide +kernel), by decide +kernel, asks (by decide +kernel), by decide +kernel⟩

/-- A Setup body with one value of two bytes or one byte in its place, and a mask. -/
def carrying (at_ : Nat) (width value mask : Nat) : List Byte :=
  List.replicate at_ 0 ++ bytesOf width value ++ List.replicate (15 - at_ - width) 0 ++ bytesOf 1 mask

/-- Every mask bit set; and values at and beyond the ends of their ranges, with the mask clear. -/
theorem witness_SetupValuesLieInRange :
    (∀ k, k < 8 → (byteAt (List.replicate 15 0 ++ [255]) 15).testBit k = true)
      ∧ (∀ v ∈ [3, 4, 256, 257], byteAt (carrying 0 2 v 0) 15 = 0 ∧ field (carrying 0 2 v 0) 0 2 = v)
      ∧ (∀ v ∈ [1999, 2000, 4294967295], field (carrying 4 4 v 0) 4 4 = v)
      ∧ (∀ v ∈ [3, 4, 31, 32], byteAt (carrying 12 1 v 0) 12 = v)
      ∧ (∀ v ∈ [0, 1, 2], byteAt (carrying 13 1 v 0) 13 = v)
      ∧ ∀ v ∈ [31, 32], byteAt (carrying 14 1 v 0) 14 = v := by decide +kernel

theorem witness_RequestWaitsForOutboxRoom :
    (.treeRestart, 23, (· == 0), false) ∈ requestCommands
      ∧ (crammed (told set (msg 23 []))).bus.inbox.head? = some (msg 23 []) ∧ (msg 23 []).kind.toNat = 23
      ∧ (crammed (told set (msg 23 []))).bus.outbox.length = 16 :=
  ⟨by simp [requestCommands], by decide +kernel⟩

theorem witness_MisfitRequestsAreRefused :
    ((.queryStatus, 21, (· == 0), true) ∈ requestCommands
        ∧ (told set (msg 21 [0])).bus.inbox.head? = some (msg 21 [0]) ∧ (msg 21 [0]).kind.toNat = 21
        ∧ (told set (msg 21 [0])).bus.outbox.length < 16 ∧ ((msg 21 [0]).body.length == 0) = false)
      ∧ (.treeRestart, 23, (· == 0), false) ∈ requestCommands
      ∧ (told State.reset (msg 23 [])).bus.inbox.head? = some (msg 23 []) ∧ (msg 23 []).kind.toNat = 23
      ∧ (told State.reset (msg 23 [])).bus.outbox.length < 16 ∧ ((msg 23 []).body.length == 0) = true
      ∧ (told State.reset (msg 23 [])).setup = none :=
  ⟨⟨by simp [requestCommands], by decide +kernel⟩, by simp [requestCommands], by decide +kernel⟩

theorem witness_OtherHeadsAreAnsweredOrDiscarded :
    (∀ k ∈ [0, 6, 7, 11, 15, 17, 19, 42, 47, 56, 63], (told set (msg k [])).bus.inbox.head? = some (msg k [])
        ∧ (let n := (msg k []).kind.toNat
          ¬ ((1 ≤ n ∧ n ≤ 5) ∨ (8 ≤ n ∧ n ≤ 10) ∨ n = 16 ∨ (20 ≤ n ∧ n ≤ 41) ∨ (48 ≤ n ∧ n ≤ 55)))
        ∧ (told set (msg k [])).bus.outbox.length < 16)
      ∧ ∀ k ∈ [1, 5, 16, 48, 55], (told set (msg k [])).bus.inbox.head? = some (msg k [])
        ∧ ((1 ≤ (msg k []).kind.toNat ∧ (msg k []).kind.toNat ≤ 5) ∨ (msg k []).kind.toNat = 16
          ∨ (48 ≤ (msg k []).kind.toNat ∧ (msg k []).kind.toNat ≤ 55)) := by decide +kernel

theorem witness_StatusAndHomeReadsGiveLayouts :
    (told set (msg 21 [])).Asks (msg 21 []) 21 0
      ∧ (told set (msg 24 [63])).Asks (msg 24 [63]) 24 1 ∧ (told set (msg 24 [63])).setup.isSome
      ∧ byteAt (msg 24 [63]).body 0 = (63 : HomeIdx).val
      ∧ (told set (msg 24 [64])).Asks (msg 24 [64]) 24 1 ∧ 63 < byteAt (msg 24 [64]).body 0 :=
  ⟨asks (by decide +kernel), asks (by decide +kernel), by decide +kernel, by decide +kernel, asks (by decide +kernel),
    by decide +kernel⟩

theorem witness_ReadCountersReadsAndClears :
    (told set (msg 22 [10, 1])).Asks (msg 22 [10, 1]) 22 2 ∧ 9 < byteAt (msg 22 [10, 1]).body 0
      ∧ (told set (msg 22 [9, 1])).Asks (msg 22 [9, 1]) 22 2
      ∧ (counterTable[byteAt (msg 22 [9, 1]).body 0]?.map fun g => g.length) = some 8 :=
  ⟨asks (by decide +kernel), by decide +kernel, asks (by decide +kernel), by decide +kernel⟩

theorem witness_ReadBarListGivesPage :
    (told (barring set (List.range 16)) (msg 31 [3])).Asks (msg 31 [3]) 31 1 ∧ byteAt (msg 31 [3]).body 0 ≤ 3
      ∧ (told set (msg 31 [4])).Asks (msg 31 [4]) 31 1 ∧ 3 < byteAt (msg 31 [4]).body 0 :=
  ⟨asks (by decide +kernel), by decide +kernel, asks (by decide +kernel), by decide +kernel⟩

/-- The part with a bank state and a request at the head. -/
def reading (b : OtherBank) (kind : BitVec 6) (body : List Byte) : State := told (bank b set) (msg kind body)

theorem witness_UsageReadsComeFromDoneBank :
    (∀ b ∈ [OtherBank.empty, .ready .flat, .rating (closed (oneRecord blank)) (some 3) false,
          .done (closed (oneRecord blank))],
        (reading b 39 [3]).setup.isSome ∧ (reading b 39 [3]).banks.other = b
          ∧ (reading b 39 [3]).Asks (msg 39 [3]) 39 1 ∧ (reading b 40 [63, 1]).Asks (msg 40 [63, 1]) 40 2)
      ∧ byteAt (msg 39 [3]).body 0 = (3 : HomeIdx).val ∧ byteAt (msg 40 [63, 1]).body 0 = (63 : HomeIdx).val
      ∧ (closed (oneRecord blank)).records[(3 : HomeIdx).val] = some blank
      ∧ (closed (oneRecord blank)).records[(63 : HomeIdx).val] = none
      ∧ (reading .empty 39 [64]).Asks (msg 39 [64]) 39 1 ∧ 63 < byteAt (msg 39 [64]).body 0 :=
  ⟨fun _ _ => ⟨rfl, rfl, asks_told rfl rfl rfl, asks_told rfl rfl rfl⟩, by decide +kernel,
    by decide +kernel, by decide +kernel, by decide +kernel, asks (by decide +kernel), by decide +kernel⟩

/-- The body of a request that names index 2 and a tag. -/
def two (tag : Nat) : List Byte := [2] ++ bytesOf 8 tag

/-- Index 64: refused. An index without a home, one with another tag, and each state a RemoveHome takes off. -/
theorem witness_RemoveHomeTakesHomeOff :
    (told set (msg 25 ([64] ++ bytesOf 8 7))).Asks (msg 25 ([64] ++ bytesOf 8 7)) 25 9
      ∧ 63 < byteAt (msg 25 ([64] ++ bytesOf 8 7)).body 0
      ∧ (∀ st t, (told (one 2 st) (msg 25 (two t))).Asks (msg 25 (two t)) 25 9)
      ∧ (told set (msg 25 (two 7))).setup.isSome ∧ byteAt (msg 25 (two 7)).body 0 = (2 : HomeIdx).val
      ∧ (∀ st ∈ [EState.ranging, .testing, .held, .active, .dozing, .muted],
          ((told (one 2 st) (msg 25 (two 7))).entry 2).state = st
          ∧ ((told (one 2 st) (msg 25 (two 7))).entry 2).tag = some (tagAt (msg 25 (two 7)).body 1)
          ∧ ((told (one 2 st) (msg 25 (two 8))).entry 2).tag ≠ some (tagAt (msg 25 (two 8)).body 1))
      ∧ ((told (one 2 .retired) (msg 25 (two 7))).entry 2).state = .retired
      ∧ ((told (one 2 .vacant) (msg 25 (two 7))).entry 2).state = .vacant
      ∧ 32 ≤ (queued (told (one 2 .active) (msg 25 (two 7)))).framer.queue.length :=
  ⟨asks (by decide +kernel), by decide +kernel, fun st _ => asks_told rfl rfl (one_outbox 2 st),
    by decide +kernel, by decide +kernel, by decide +kernel, by decide +kernel, by decide +kernel, by decide +kernel⟩

/-- R17, R42, R142: the Active home is the last candidate and has a Retest pending. The kinds are those of 12.4: Answer,
TestResult, RogueUnresolved. -/
theorem test_remove_home_tells :
    let s := (probing (one 2 .active) .halving [2]).modHome 2 fun h => { h with retest := .asked }
    (after .removeHome (told s (msg 25 (two 7)))).bus.outbox.map (fun m => m.kind) = [16, 51, 3] := by decide +kernel

/-- Approve and Deny: index 64, a home that is not Held, another tag, and the Held home, with and without a record. -/
theorem witness_ApproveBringsHomeIntoService :
    (told set (msg 26 ([64] ++ bytesOf 8 7))).Asks (msg 26 ([64] ++ bytesOf 8 7)) 26 9
      ∧ 63 < byteAt (msg 26 ([64] ++ bytesOf 8 7)).body 0
      ∧ (∀ st t, (told (one 2 st) (msg 26 (two t))).Asks (msg 26 (two t)) 26 9)
      ∧ (told set (msg 26 (two 7))).setup.isSome ∧ byteAt (msg 26 (two 7)).body 0 = (2 : HomeIdx).val
      ∧ ((told (one 2 .active) (msg 26 (two 7))).entry 2).state ≠ .held
      ∧ ((told (one 2 .held) (msg 26 (two 7))).entry 2).state = .held
      ∧ ((told (one 2 .held) (msg 26 (two 8))).entry 2).tag ≠ some (tagAt (msg 26 (two 8)).body 1)
      ∧ ((told (one 2 .held) (msg 26 (two 7))).entry 2).tag = some (tagAt (msg 26 (two 7)).body 1)
      ∧ (told (one 2 .held) (msg 26 (two 7))).banks.live.isSome
      ∧ (told (one 2 .held) (msg 26 (two 7))).liveRecord 2 = none
      ∧ (told ((one 2 .held).makeRecord 2) (msg 26 (two 7))).liveRecord 2
          = some (.fresh 7 0 { RecFlags.clear with partialEpoch := true }) :=
  ⟨asks (by decide +kernel), by decide +kernel, fun st _ => asks_told rfl rfl (one_outbox 2 st),
    by decide +kernel, by decide +kernel, by decide +kernel, by decide +kernel, by decide +kernel, by decide +kernel,
    by decide +kernel, by decide +kernel, by decide +kernel⟩

theorem witness_DenyEndsEnrolment :
    (told set (msg 27 ([64] ++ bytesOf 8 7))).Asks (msg 27 ([64] ++ bytesOf 8 7)) 27 9
      ∧ 63 < byteAt (msg 27 ([64] ++ bytesOf 8 7)).body 0
      ∧ (∀ st t, (told (one 2 st) (msg 27 (two t))).Asks (msg 27 (two t)) 27 9)
      ∧ (told set (msg 27 (two 7))).setup.isSome ∧ byteAt (msg 27 (two 7)).body 0 = (2 : HomeIdx).val
      ∧ ((told (one 2 .testing) (msg 27 (two 7))).entry 2).state ≠ .held
      ∧ ((told (one 2 .held) (msg 27 (two 7))).entry 2).state = .held
      ∧ ((told (one 2 .held) (msg 27 (two 8))).entry 2).tag ≠ some (tagAt (msg 27 (two 8)).body 1)
      ∧ ((told (one 2 .held) (msg 27 (two 7))).entry 2).tag = some (tagAt (msg 27 (two 7)).body 1) :=
  ⟨asks (by decide +kernel), by decide +kernel, fun st _ => asks_told rfl rfl (one_outbox 2 st),
    by decide +kernel, by decide +kernel, by decide +kernel, by decide +kernel, by decide +kernel, by decide +kernel⟩

theorem witness_RetestBecomesPending :
    (∀ n ∈ [2, 64], (told (one 2 .active) (msg 28 [n])).Asks (msg 28 [n]) 28 1)
      ∧ (told (one 2 .active) (msg 28 [2])).setup.isSome ∧ 63 < byteAt (msg 28 [64]).body 0
      ∧ byteAt (msg 28 [2]).body 0 = (2 : HomeIdx).val
      ∧ ((told (one 2 .active) (msg 28 [2])).entry 2).state = .active
      ∧ ((told (one 2 .active) (msg 28 [2])).home 2).retest = .idle
      ∧ ((told (one 2 .held) (msg 28 [2])).entry 2).state ≠ .active
      ∧ ((told ((one 2 .active).modHome 2 fun h => { h with retest := .asked }) (msg 28 [2])).home 2).retest ≠ .idle :=
  ⟨fun _ _ => asks_told rfl rfl rfl, by decide +kernel, by decide +kernel, by decide +kernel,
    by decide +kernel, by decide +kernel, by decide +kernel, by decide +kernel⟩

/-- Two homes: the other holds 1,400 quanta in all but name, so 1,000 are within the limit and 1,001 would not be. -/
def shared (g : Nat) : State :=
  told ((one 2 .active).setHome 3 { homeAs .active with entry := { (homeAs .active).entry with share := g } })
    (msg 32 ([2] ++ bytesOf 2 1000 ++ [16]))

theorem witness_SetShareTakesValuesWithinLimit :
    (told set (msg 32 [64, 0, 0, 0])).Asks (msg 32 [64, 0, 0, 0]) 32 4 ∧ 63 < byteAt (msg 32 [64, 0, 0, 0]).body 0
      ∧ (∀ g ∈ [1400, 1401], (shared g).Asks (msg 32 ([2] ++ bytesOf 2 1000 ++ [16])) 32 4)
      ∧ (shared 1400).setup.isSome ∧ byteAt (msg 32 ([2] ++ bytesOf 2 1000 ++ [16])).body 0 = (2 : HomeIdx).val
      ∧ (told (one 2 .held) (msg 32 [2, 0, 0, 1])).Asks (msg 32 [2, 0, 0, 1]) 32 4
      ∧ ((told (one 2 .held) (msg 32 [2, 0, 0, 1])).entry 2).state.inService = false
      ∧ ((shared 1400).entry 2).state.inService = true
      ∧ (shared 1400).shareSum + 1000 ≤ 2400 + ((shared 1400).entry 2).share
      ∧ 2400 + ((shared 1401).entry 2).share < (shared 1401).shareSum + 1000 :=
  ⟨asks (by decide +kernel), by decide +kernel, fun _ _ => asks_told rfl rfl rfl, by decide +kernel,
    by decide +kernel, asks (by decide +kernel), by decide +kernel, by decide +kernel, by decide +kernel,
    by decide +kernel⟩

/-- A doze that has ended. -/
def rested : State := (one 2 .dozing).modEntry 2 fun e => { e with dozeLeft := some 0 }

theorem witness_DozeEndsByRequestOrExpiry :
    (∀ n st, (told (one 2 st) (msg 33 [n])).Asks (msg 33 [n]) 33 1)
      ∧ (told (one 2 .dozing) (msg 33 [2])).setup.isSome ∧ 63 < byteAt (msg 33 [64]).body 0
      ∧ byteAt (msg 33 [2]).body 0 = (2 : HomeIdx).val
      ∧ ((told (one 2 .dozing) (msg 33 [2])).entry 2).state = .dozing
      ∧ ((told (one 2 .muted) (msg 33 [2])).entry 2).state ≠ .dozing
      ∧ (rested.entry 2).state = .dozing ∧ (rested.entry 2).dozeLeft = some 0
      ∧ ((one 2 .dozing).entry 2).dozeLeft ≠ some 0 ∧ ((one 2 .active).entry 2).state ≠ .dozing :=
  ⟨fun _ st => asks_told rfl rfl (one_outbox 2 st), by decide +kernel, by decide +kernel, by decide +kernel,
    by decide +kernel, by decide +kernel, by decide +kernel, by decide +kernel, by decide +kernel, by decide +kernel⟩

theorem witness_ReleaseMuteReturnsHome :
    (∀ n st, (told (one 2 st) (msg 35 [n])).Asks (msg 35 [n]) 35 1)
      ∧ (told (one 2 .muted) (msg 35 [2])).setup.isSome ∧ 63 < byteAt (msg 35 [64]).body 0
      ∧ byteAt (msg 35 [2]).body 0 = (2 : HomeIdx).val
      ∧ ((told (one 2 .muted) (msg 35 [2])).entry 2).state = .muted
      ∧ ((told (one 2 .active) (msg 35 [2])).entry 2).state ≠ .muted :=
  ⟨fun _ st => asks_told rfl rfl (one_outbox 2 st), by decide +kernel, by decide +kernel, by decide +kernel,
    by decide +kernel, by decide +kernel⟩

/-- A list of 16 tags: one on it, one not on it; it holds no tag twice. -/
theorem witness_BarListAdditionPlacesNewest :
    (barring set (List.range 16)).barred 5 = true ∧ (barring set (List.range 16)).barred 99 = false
      ∧ (barring set (List.range 16)).bars.length = 16 ∧ (barring set (List.range 16)).BarsDistinct := by
  unfold State.BarsDistinct
  decide +kernel

/-- A Testing home with the tag; an Active one; a tag that no home holds. -/
theorem witness_AddBarBarsTagAndEndsEnrolment :
    (∀ st t, (told (one 2 st) (msg 29 (bytesOf 8 t))).Asks (msg 29 (bytesOf 8 t)) 29 8)
      ∧ tagAt (msg 29 (bytesOf 8 7)).body 0 = 7
      ∧ (∀ st ∈ [EState.ranging, .testing, .held],
          (told (one 2 st) (msg 29 (bytesOf 8 7))).Finds 7 2
          ∧ ((told (one 2 st) (msg 29 (bytesOf 8 7))).entry 2).state.enrolling = true)
      ∧ (told (one 2 .active) (msg 29 (bytesOf 8 7))).Finds 7 2
      ∧ ((told (one 2 .active) (msg 29 (bytesOf 8 7))).entry 2).state.enrolling = false
      ∧ (told (one 2 .active) (msg 29 (bytesOf 8 8))).NotHeld 8 :=
  ⟨fun st _ => asks_told rfl rfl (one_outbox 2 st), by decide +kernel,
    fun st h => ⟨finds (by revert st; decide +kernel), by revert st; decide +kernel⟩, finds (by decide +kernel),
    by decide +kernel, by unfold State.NotHeld; decide +kernel⟩

theorem witness_ClearBarRemovesTag :
    (∀ n t, (told (barring set [1, 7]) (msg 30 ([n] ++ bytesOf 8 t))).Asks (msg 30 ([n] ++ bytesOf 8 t)) 30 9)
      ∧ byteAt (msg 30 ([1] ++ bytesOf 8 7)).body 0 ≠ 0 ∧ byteAt (msg 30 ([0] ++ bytesOf 8 7)).body 0 = 0
      ∧ (told (barring set [1, 7]) (msg 30 ([0] ++ bytesOf 8 7))).barred (tagAt (msg 30 ([0] ++ bytesOf 8 7)).body 1)
          = true
      ∧ (told (barring set [1, 7]) (msg 30 ([0] ++ bytesOf 8 8))).barred (tagAt (msg 30 ([0] ++ bytesOf 8 8)).body 1)
          = false :=
  ⟨fun _ _ => asks_told rfl rfl rfl, by decide +kernel, by decide +kernel, by decide +kernel,
    by decide +kernel⟩

/-- A good Bar of each reason; one with a reason of 0 and of 4, one from another sender, one too short. -/
theorem witness_PeerBarIsApplied :
    (told (one 2 .held) (msg 10 (bytesOf 8 7 ++ [1, 20]))).bus.inbox.head? = some (msg 10 (bytesOf 8 7 ++ [1, 20]))
      ∧ (msg 10 (bytesOf 8 7 ++ [1, 20])).kind.toNat = 10
      ∧ (∀ k ∈ [1, 2, 3], (msg 10 (bytesOf 8 7 ++ [k, 20])).body.length = 10
          ∧ byteAt (msg 10 (bytesOf 8 7 ++ [k, 20])).body 9 = (20 : Station).toNat
          ∧ byteAt (msg 10 (bytesOf 8 7 ++ [k, 20])).body 8 = k.toNat
          ∧ tagAt (msg 10 (bytesOf 8 7 ++ [k, 20])).body 0 = 7)
      ∧ (told (one 2 .held) (msg 10 (bytesOf 8 7 ++ [1, 20]))).Finds 7 2
      ∧ (told (one 2 .muted) (msg 10 (bytesOf 8 7 ++ [1, 20]))).Finds 7 2
      ∧ ((told (one 2 .muted) (msg 10 (bytesOf 8 7 ++ [1, 20]))).entry 2).state.enrolling = false
      ∧ (told set (msg 10 (bytesOf 8 7 ++ [1, 20]))).NotHeld 7
      ∧ byteAt (msg 10 (bytesOf 8 7 ++ [0, 20])).body 8 = 0 ∧ byteAt (msg 10 (bytesOf 8 7 ++ [4, 20])).body 8 = 4
      ∧ byteAt (msg 10 (bytesOf 8 7 ++ [3, 21])).body 9 ≠ (20 : Station).toNat
      ∧ (msg 10 (bytesOf 8 7 ++ [3])).body.length = 9 :=
  ⟨by decide +kernel, by decide +kernel, by decide +kernel, finds (by decide +kernel), finds (by decide +kernel),
    by decide +kernel, by unfold State.NotHeld; decide +kernel, by decide +kernel, by decide +kernel, by decide +kernel,
    by decide +kernel⟩

/-- A Claim from station 20 for tag 7, index 9, at a part strapped to a station. -/
def claimed (s : State) (own : Station) : State :=
  told { s with straps := { s.straps with station := own } } (msg 8 (bytesOf 8 7 ++ [20, 9]))

theorem witness_ClaimIsDecidedByLocalHolding :
    (claimed set 0).bus.inbox.head? = some (msg 8 (bytesOf 8 7 ++ [20, 9]))
      ∧ (msg 8 (bytesOf 8 7 ++ [20, 9])).kind.toNat = 8
      ∧ (msg 8 (bytesOf 8 7 ++ [20, 9])).body.length = 10
      ∧ byteAt (msg 8 (bytesOf 8 7 ++ [20, 9])).body 8 = (20 : Station).toNat
      ∧ tagAt (msg 8 (bytesOf 8 7 ++ [20, 9])).body 0 = 7
      ∧ byteAt (msg 8 (bytesOf 8 7 ++ [21, 9])).body 8 ≠ (20 : Station).toNat
      ∧ (msg 8 (bytesOf 8 7 ++ [20])).body.length = 9
      ∧ (claimed set 0).NotHeld 7
      ∧ ((claimed (one 2 .retired) 0).Finds 7 2 ∧ ((claimed (one 2 .retired) 0).entry 2).state = .retired)
      ∧ ((claimed (one 2 .held) 0).Finds 7 2 ∧ ((claimed (one 2 .held) 0).entry 2).state.enrolling = true)
      ∧ ((claimed (claiming (one 2 .active) 2 200) 21).Finds 7 2
          ∧ ((claimed (claiming (one 2 .active) 2 200) 21).entry 2).state.inService = true
          ∧ ((claimed (claiming (one 2 .active) 2 200) 21).entry 2).claim = some .pending
          ∧ (20 : Station) < (claimed (claiming (one 2 .active) 2 200) 21).straps.station)
      ∧ ((claimed (claiming (one 2 .active) 2 200) 20).Finds 7 2
          ∧ ¬ (20 : Station) < (claimed (claiming (one 2 .active) 2 200) 20).straps.station)
      ∧ (claimed (one 2 .muted) 21).Finds 7 2 ∧ ((claimed (one 2 .muted) 21).entry 2).claim ≠ some .pending :=
  ⟨by decide +kernel, by decide +kernel, by decide +kernel, by decide +kernel, by decide +kernel, by decide +kernel,
    by decide +kernel, by unfold State.NotHeld; decide +kernel, ⟨finds (by decide +kernel), by decide +kernel⟩,
    ⟨finds (by decide +kernel), by decide +kernel⟩, ⟨finds (by decide +kernel), by decide +kernel⟩,
    ⟨finds (by decide +kernel), by decide +kernel⟩, finds (by decide +kernel), by decide +kernel⟩

theorem witness_CounterClaimDropsPendingEntry :
    (∀ s, (told s (msg 9 (bytesOf 8 7 ++ [20]))).bus.inbox.head? = some (msg 9 (bytesOf 8 7 ++ [20])))
      ∧ (msg 9 (bytesOf 8 7 ++ [20])).kind.toNat = 9 ∧ (msg 9 (bytesOf 8 7 ++ [20])).body.length = 9
      ∧ byteAt (msg 9 (bytesOf 8 7 ++ [20])).body 8 = (20 : Station).toNat
      ∧ tagAt (msg 9 (bytesOf 8 7 ++ [20])).body 0 = 7
      ∧ byteAt (msg 9 (bytesOf 8 7 ++ [21])).body 8 ≠ (20 : Station).toNat
      ∧ (msg 9 (bytesOf 8 7)).body.length = 8
      ∧ (told (claiming (one 2 .active) 2 200) (msg 9 (bytesOf 8 7 ++ [20]))).Finds 7 2
      ∧ ((told (claiming (one 2 .active) 2 200) (msg 9 (bytesOf 8 7 ++ [20]))).entry 2).claim = some .pending
      ∧ ((told (claiming (one 2 .active) 2 200) (msg 9 (bytesOf 8 7 ++ [20]))).entry 2).state.inService = true
      ∧ (told (one 2 .active) (msg 9 (bytesOf 8 7 ++ [20]))).Finds 7 2
      ∧ ((told (one 2 .active) (msg 9 (bytesOf 8 7 ++ [20]))).entry 2).claim ≠ some .pending
      ∧ (told set (msg 9 (bytesOf 8 7 ++ [20]))).NotHeld 7 :=
  ⟨fun _ => rfl, by decide +kernel, by decide +kernel, by decide +kernel, by decide +kernel, by decide +kernel,
    by decide +kernel, finds (by decide +kernel), by decide +kernel, by decide +kernel, finds (by decide +kernel),
    by decide +kernel, by unfold State.NotHeld; decide +kernel⟩

theorem witness_TreeRestartClearsTreeAndSwaps :
    (∀ b st, (told (bank b (one 2 st)) (msg 23 [])).Asks (msg 23 []) 23 0)
      ∧ (told (bank .empty (one 2 .active)) (msg 23 [])).setup.isSome
      ∧ (told (bank .empty (one 2 .active)) (msg 23 [])).banks.live.isSome
      ∧ (told (bank .empty (one 2 .active)) (msg 23 [])).ring.isSome
      ∧ (told (bank .empty (one 2 .active)) (msg 23 [])).banks.other.free = true
      ∧ (told (bank (.done (closed (oneRecord blank))) (one 2 .active)) (msg 23 [])).banks.other.free = false
      ∧ (told (one 2 .active) (msg 23 [])).clock.headerOpen = false
      ∧ (after (.roundBoundary .opening) (mapped (told (one 2 .active) (msg 23 [])))).clock.headerOpen = true :=
  ⟨fun _ st => asks_told rfl rfl (one_outbox 2 st), by decide +kernel⟩

/-- The alarm is Declared, and isolation stands in a state. -/
def alarmed (s : State) (iso : Isolation) : State := { s with rogue := { s.rogue with alarm := true, iso } }

/-- Auto-isolate is set. -/
def auto (s : State) : State := { s with setup := s.setup.map fun p => { p with autoIsolate := true } }

theorem witness_IsolationStartsByRequestOrBackoffEnd :
    (∀ s : State, s.bus.outbox = [] → (told s (msg 34 [])).Asks (msg 34 []) 34 0)
      ∧ (told set (msg 34 [])).setup.isSome ∧ (told set (msg 34 [])).rogue.alarm = false
      ∧ (told (alarmed set (.backoff 5)) (msg 34 [])).rogue.iso ≠ .idle
      ∧ (told (alarmed set .idle) (msg 34 [])).rogue.alarm = true
      ∧ (told (alarmed set .idle) (msg 34 [])).rogue.iso = .idle
      ∧ (told (alarmed set .idle) (msg 34 [])).isolable = []
      ∧ (told (alarmed (one 2 .held) .idle) (msg 34 [])).isolable = [2]
      ∧ (told (alarmed (one 2 .ranging) .idle) (msg 34 [])).abandonable = [2]
      ∧ (alarmed (auto set) (.backoff 0)).rogue.iso = .backoff 0
      ∧ ((alarmed (auto set) (.backoff 0)).setup.map fun p => p.autoIsolate) = some true
      ∧ ((alarmed set (.backoff 0)).setup.map fun p => p.autoIsolate) = some false
      ∧ (alarmed set (.backoff 1)).rogue.iso ≠ .backoff 0 :=
  ⟨fun _ h => asks_told rfl rfl h, by decide +kernel⟩

/-- Each step kind is met while Probing; a lit part is not dark, a part in transmit silence is; candidates of one, of two
and none; a candidate of each state. -/
theorem witness_StepVerdictNarrowsOrConvicts :
    (∀ k ∈ [IsoStep.whole, .halving, .confirm], (probing (one 2 .active) k [2]).rogue.iso
        = .probing { cands := [2], step := k, obs := none, settle := 0, steps := 2 })
      ∧ (false || (probing (one 2 .active) .whole [2]).light.loss || (probing (one 2 .active) .whole [2]).framer.silence)
          = false
      ∧ (after (.transmitSilenceDeclared 128) (probing (one 2 .active) .whole [2])).framer.silence = true
      ∧ 2 ≤ [(2 : HomeIdx), 3].length
      ∧ ([(2 : HomeIdx)].filter fun i => ((probing (one 2 .active) .halving [2]).entry i).probe != false) = []
      ∧ ∀ st ∈ [EState.held, .active, .dozing], ((probing (one 2 st) .confirm [2]).entry 2).state = st := by
  decide +kernel

/-- The values of a Setup with every default: T_s = 8, N_d = 4, N_c = 16. -/
def defaults : Params := (setupParams (List.replicate 15 0 ++ [255])).1

/-- The streaks stand at given lengths. -/
def streaks (s : State) (dirty clean : Nat) : State := { s with rogue := { s.rogue with dirty, clean } }

/-- A Probing part and another round; a quiet round; the stray counts 7 and 8; each streak one short of its length, and
at it; auto-isolate with a candidate, and without auto-isolate. -/
theorem witness_AlarmFollowsRunsOfRounds :
    ((probing set .whole [2]).setup = some defaults ∧ (probing set .whole [2]).probing = true
        ∧ ∀ q, (probing set .whole [2]).rogue.iso = .probing q → q.obs ≠ some 9)
      ∧ (alarmed set (.probing { cands := [2], step := .whole, obs := some 9, settle := 0, steps := 1 })).probing = true
      ∧ (set.setup = some defaults ∧ set.probing = false ∧ RoundKind.normal ≠ .quiet)
      ∧ (defaults.stray ≤ 8 ∧ (streaks set 2 5).rogue.alarm = false
          ∧ (streaks set 2 5).rogue.dirty + 1 < defaults.dirtyLen)
      ∧ (defaults.dirtyLen ≤ (streaks set 3 0).rogue.dirty + 1 ∧ defaults.autoIsolate = false)
      ∧ ((auto (streaks (one 2 .active) 3 0)).setup = some { defaults with autoIsolate := true }
          ∧ (auto (streaks (one 2 .active) 3 0)).rogue.alarm = false
          ∧ (auto (streaks (one 2 .active) 3 0)).rogue.iso = .idle
          ∧ (auto (streaks (one 2 .active) 3 0)).isolable ≠ [] ∧ (auto (streaks set 3 0)).isolable = [])
      ∧ (7 < defaults.stray ∧ (alarmed (streaks set 0 14) .idle).rogue.alarm = true
          ∧ (alarmed (streaks set 0 14) .idle).rogue.clean + 1 < defaults.cleanLen)
      ∧ defaults.cleanLen ≤ (alarmed (streaks set 0 15) .idle).rogue.clean + 1 :=
  ⟨⟨by decide +kernel, by decide +kernel, fun q h => by cases h; decide⟩, by decide +kernel⟩

/-- The bank that is not Live is Empty, Ready, or not free. -/
theorem witness_LoadRatesFillsOtherBank :
    (∀ b v, (reading b 36 (List.replicate 18 0 ++ [v])).Asks (msg 36 (List.replicate 18 0 ++ [v])) 36 19)
      ∧ (reading .empty 36 (List.replicate 18 0 ++ [7])).setup.isSome
      ∧ (reading .empty 36 (List.replicate 18 0 ++ [7])).banks.live.isSome
      ∧ (reading .empty 36 (List.replicate 18 0 ++ [7])).banks.other = .empty
      ∧ (reading (.ready threeSegments) 36 (List.replicate 18 0 ++ [8])).banks.other = .ready threeSegments
      ∧ (reading (.done (closed (oneRecord blank))) 36 (List.replicate 18 0 ++ [8])).banks.other.free = false :=
  ⟨fun _ _ => asks_told rfl rfl rfl, by decide +kernel⟩

/-- A count of 0, a count of 9, a count that does not match, and matching counts of 1 and 8. -/
theorem witness_LoadRingFillsOtherBank :
    (∀ b body, (reading b 37 body).Asks (msg 37 body) 37 (msg 37 body).body.length)
      ∧ (reading .empty 37 []).setup.isSome ∧ (reading .empty 37 []).banks.live.isSome
      ∧ byteAt (List.replicate 6 0) 0 = 0 ∧ 8 < byteAt ([9] ++ List.replicate 32 0) 0
      ∧ (List.replicate 7 (1 : Byte)).length ≠ 6 + 3 * byteAt (List.replicate 7 1) 0
      ∧ (∀ n ∈ [1, 8],
          let body := bytesOf 1 n ++ List.replicate (5 + 3 * n) 1
          byteAt body 0 = n ∧ body.length = 6 + 3 * n)
      ∧ (reading (.done (closed (oneRecord blank))) 37 []).banks.other.free = false :=
  ⟨fun _ _ => asks_told rfl rfl rfl, by decide +kernel⟩

/-- Given; Continue with the position inside, at the end of, and beyond the new ring. -/
theorem witness_OpeningRingFollowsPlan :
    threeSegments.cont = false ∧ Plan.flat.cont = true
      ∧ 0 < Plan.flat.segments.length ∧ 172799999 < (Plan.flat.segment 0).rounds
      ∧ (Plan.flat.segment 0).rounds ≤ 172800000 ∧ Plan.flat.segments.length ≤ 1 := by decide +kernel

theorem witness_EpochClosesBySwapOrIsHeld :
    (∀ b, (reading b 38 []).Asks (msg 38 []) 38 0)
      ∧ (reading .empty 38 []).setup.isSome ∧ (reading .empty 38 []).banks.live.isSome
      ∧ (reading .empty 38 []).ring.isSome
      ∧ (reading (.done (closed (oneRecord blank))) 38 []).banks.other.free = false
      ∧ (reading .empty 38 []).banks.other.openingPlan .flat = some .flat
      ∧ (reading (.ready threeSegments) 38 []).banks.other.openingPlan .flat = some threeSegments
      ∧ (expired set).banks.timer = 0 ∧ (expired set).banks.held = false
      ∧ (expired set).banks.other.openingPlan .flat = some .flat
      ∧ (expired (bank (.done (closed (oneRecord blank))) set)).banks.other.free = false
      ∧ set.banks.timer ≠ 0 ∧ ({ set with banks := { set.banks with held := true } } : State).banks.held = true :=
  ⟨fun _ => asks_told rfl rfl rfl, by decide +kernel⟩

theorem witness_ReleaseBankEmptiesAndSwapsIfHeld :
    (∀ b, (reading b 41 []).Asks (msg 41 []) 41 0)
      ∧ (reading .empty 41 []).setup.isSome ∧ (reading .empty 41 []).banks.live.isSome
      ∧ (reading .empty 41 []).ring.isSome
      ∧ (∀ b, (reading .empty 41 []).banks.other ≠ .done b)
      ∧ (reading (.done (closed (oneRecord blank))) 41 []).banks.other = .done (closed (oneRecord blank))
      ∧ (reading (.done (closed (oneRecord blank))) 41 []).banks.held = false
      ∧ ({ set with banks := { set.banks with held := true } } : State).banks.held = true :=
  ⟨fun _ => asks_told rfl rfl rfl, by decide +kernel, by decide +kernel, by decide +kernel,
    fun b h => (nomatch h), by decide +kernel, by decide +kernel, by decide +kernel⟩

/-- A record at the rating position; counts and rates at the ends of their ranges. -/
theorem witness_RatedChargeFollowsFormula :
    (bank (.rating (closed (oneRecord blank)) (some 3) false) set).banks.other
        = .rating (closed (oneRecord blank)) (some 3) false
      ∧ (closed (oneRecord blank)).records[(3 : HomeIdx).val] = some blank
      ∧ blank.up = Vector.replicate 4 0 ∧ blank.down = Vector.replicate 4 0
      ∧ (closed (oneRecord blank)).plan.fee ≤ 65535 := by decide +kernel

theorem witness_RatingCompletesAndRingAdvances :
    (bank (.rating (closed (oneRecord blank)) none true) set).banks.other
        = .rating (closed (oneRecord blank)) none true
      ∧ (∀ b position, set.banks.other ≠ .rating b position true)
      ∧ (bank (.rating (closed (Vector.replicate 64 none)) none false) set).banks.other
          = .rating (closed (Vector.replicate 64 none)) none false
      ∧ (∀ b position done, set.banks.other ≠ .rating b position done)
      ∧ (ringAt { seg := 2, elapsed := 50399999, due := true }).ring
          = some { seg := 2, elapsed := 50399999, due := true }
      ∧ (ringAt { seg := 2, elapsed := 50399999, due := true }).banks.live.isSome :=
  ⟨by decide +kernel, fun b position h => (nomatch h), by decide +kernel, fun b position done h => (nomatch h),
    by decide +kernel, by decide +kernel⟩

/-- A port that listens only, one that sends, one that has not seen 12 idle bit times, and one that receives each kind of
message. -/
theorem witness_ReceivedMessageIsDecided :
    (after (.fullReset 31 .short) set).bus.listenOnly = true ∧ (after (.fullReset 31 .short) set).bus.sending = false
      ∧ (after (.messageSendStart idles []) (offering set)).bus.sending = true
      ∧ (set.bus.after (List.replicate 11 .idle)).ready = false ∧ (set.bus.after idles).ready = true
      ∧ (ready set).bus.listenOnly = false ∧ (ready set).bus.sending = false
      ∧ ((ready set).bus.after (sent 20 0 0 []).before).ready = true
      ∧ 40 < (sent 20 0 41 []).length.toNat ∧ (sent 31 0 0 []).sender = 31
      ∧ ¬ 40 < (sent 31 0 40 (List.replicate 40 0)).length.toNat
      ∧ (∀ m ∈ [{ sent 20 0 0 [] with check := 0 }],
          crc16 (frameBits m.cls m.kind m.sender m.target m.length m.body) ≠ m.check ∧ m.length.toNat ≤ 40)
      ∧ (∀ m ∈ [sent 0 31 0 [], sent 20 5 0 [], sent 20 0 0 [], sent 20 31 40 (List.replicate 40 0)],
          crc16 (frameBits m.cls m.kind m.sender m.target m.length m.body) = m.check ∧ m.length.toNat ≤ 40
            ∧ m.sender ≠ 31)
      ∧ (sent 0 31 0 []).sender = set.straps.station
      ∧ ((sent 20 5 0 []).target ≠ set.straps.station ∧ (sent 20 5 0 []).target ≠ 31)
      ∧ ({ set with bus := { set.bus with inbox := List.replicate 8 (msg 21 []) } } : State).bus.inbox.length = 8
      ∧ set.bus.inbox.length < 8 := by decide +kernel

theorem witness_MessageIsSentLostOrAborted :
    set.bus.listenOnly = false ∧ (offering set).bus.sending = false
      ∧ ((offering set).bus.after (List.replicate 11 .idle)).idle < 12 ∧ 12 ≤ ((offering set).bus.after idles).idle
      ∧ ((offering set).bus.after (.busy :: List.replicate 11 .idle)).idle < 12 ∧ set.bus.outbox = []
      ∧ headIndex (offering set).bus.outbox = some 0 ∧ (offering set).bus.outbox[0]? = some (claimMessage 7 0 2)
      ∧ firstDiffer ((claimMessage 7 0 2).bits 0) [] = none
      ∧ firstDiffer ((claimMessage 7 0 2).bits 0) [false, false, false] = some 2
      ∧ ((claimMessage 7 0 2).bits 0)[2]? = some true
      ∧ firstDiffer ((claimMessage 7 0 2).bits 0) [true] = some 0
      ∧ firstDiffer ((claimMessage 7 0 2).bits 0) [false, true] = some 1
      ∧ ((claimMessage 7 0 2).bits 0)[1]? = some false
      ∧ headIndex (after (.messageSendStart idles []) (offering set)).bus.outbox = some 0
      ∧ (after (.messageSendStart idles []) (offering set)).bus.sending = true := by decide +kernel

/-- A message that has begun, and a choice by class and order. -/
theorem witness_OutboxHeadIsBegunOrLowestClass :
    headIndex [claimMessage 7 0 0, { claimMessage 7 0 1 with begun := true }] = some 1
      ∧ headIndex [answerMessage 20 21 .ok [], claimMessage 7 0 0, claimMessage 7 0 1] = some 1 := by decide +kernel

/-- 10.2, three stations: station 2 with a notice of class 0, stations 4 and 11 with a Claim each. -/
theorem witness_LowestArbitrationFieldWins :
    let notice : OutMsg := (Notice.rogueAlarm true 1 8 false 0).message 31
    let l : List (OutMsg × Station) := [(claimMessage 7 4 0, 4), (notice, 2), (claimMessage 7 11 0, 11)]
    let number (x : OutMsg × Station) : Nat := x.1.cls.toNat * 2048 + x.1.kind.toNat * 32 + x.2.toNat
    (notice, 2) ∈ l ∧ ∀ x ∈ l, x ≠ (notice, 2) → number (notice, 2) < number x := by decide +kernel

/-! ### The round boundary -/

theorem set_is_vacant : ∀ i, (set.entry i).state = .vacant := by decide +kernel

/-- A Set part in its idle fill, and one whose next boundary is mapped. -/
theorem set_settled : set.Settled where
  header := by decide +kernel
  approvals := fun i _ h => by rw [set_is_vacant] at h; cases h
  windows := by decide +kernel
  dozes := by decide +kernel
  decays := rfl
  backoff := by decide +kernel
  ring := fun _ h => by cases h; rfl
  epoch := by decide +kernel
  rating := fun _ _ h => (nomatch h)

theorem mapped_settled : (mapped set).Settled where
  header := by decide +kernel
  approvals := fun i _ h => by rw [show (mapped set).entry i = set.entry i from rfl, set_is_vacant] at h; cases h
  windows := by decide +kernel
  dozes := by decide +kernel
  decays := rfl
  backoff := by decide +kernel
  ring := fun _ h => by cases h; rfl
  epoch := by decide +kernel
  rating := fun _ _ h => (nomatch h)

theorem witness_BoundaryOpeningMovesCounts :
    (set.setup = some defaults ∧ set.Settled ∧ set.clock.idleLeft = 6 + 1 ∧ set.ring.isSome ∧ set.banks.live.isSome
        ∧ ∀ n, set.rogue.iso ≠ .backoff n)
      ∧ (mapped set).setup = some defaults ∧ (mapped set).Settled ∧ (mapped set).clock.idleLeft = 0 :=
  ⟨⟨by decide +kernel, set_settled, by decide +kernel, by decide +kernel, by decide +kernel, fun _ h => (nomatch h)⟩,
    by decide +kernel, mapped_settled, by decide +kernel⟩

/-- An Unset part; one at a boundary without a decay, and one before a boundary with a decay. -/
theorem witness_BoundaryOpeningMovesCounts_decay :
    State.reset.setup = none ∧ set.setup.isSome ∧ set.Settled ∧ (set.clock.round + 1).toNat % 64 ≠ 0
      ∧ ((63 : Round) + 1).toNat % 64 = 0
      ∧ (decaysTaken { set with rogue := { set.rogue with owed := [2] } }).rogue.owed = [] :=
  ⟨rfl, by decide +kernel, set_settled, by decide +kernel, by decide +kernel, rfl⟩

/-- A part that owes its epoch's expiry, and one that owes its map. -/
theorem witness_BoundaryOpeningMovesCounts_owed :
    ((expired set).setup = some defaults ∧ 0 < defaults.epoch ∧ (expired set).banks.live.isSome
        ∧ (expired set).epochDue = true)
      ∧ (after (.roundBoundary .opening) workedMap).setup = some defaults
      ∧ (after (.roundBoundary .opening) workedMap).banks.live.isSome
      ∧ (after (.roundBoundary .opening) workedMap).clock.headerOpen = true := by decide +kernel

/-- A backoff of 3 boundaries leaves the part settled. -/
theorem witness_BoundaryOpeningMovesCounts_backoff :
    (alarmed set (.backoff 3)).setup = some defaults ∧ (alarmed set (.backoff 3)).rogue.iso = .backoff 3
      ∧ (alarmed set (.backoff 3)).Settled :=
  ⟨by decide +kernel, by decide +kernel,
    { header := by decide +kernel
      approvals := fun i _ h => by
        rw [show (alarmed set (.backoff 3)).entry i = set.entry i from rfl, set_is_vacant] at h; cases h
      windows := by decide +kernel
      dozes := by decide +kernel
      decays := rfl
      backoff := by decide +kernel
      ring := fun _ h => by cases h; rfl
      epoch := by decide +kernel
      rating := fun _ _ h => (nomatch h) }⟩

theorem witness_MapIsBuiltIntoOpenHeader :
    set.clock.headerOpen = false
      ∧ (after (.roundBoundary .opening) workedMap).setup = some defaults
      ∧ (after (.roundBoundary .opening) workedMap).clock.headerOpen = true
      ∧ (after (.roundBoundary .opening) workedMap).clock.round
          ≠ (after (.roundBoundary .opening) workedMap).enrol.due := by decide +kernel

/-- The three kinds of reserved span, the longest discovery span among them; a home with a balance of 8, and one with a
doze wish. -/
theorem witness_TalkMapKeepsItsLaw :
    (∀ span ∈ [none, some (SpanKind.quiet, 400), some (.discovery, 3238)],
        span = none ∨ span = some (.quiet, 400) ∨ ∃ n, n ≤ 3238 ∧ span = some (.discovery, n))
      ∧ (let e := { (homeAs .held).entry with balance := 8 };
        (e.state = .held ∨ e.state = .active) ∧ e.probe = false ∧ e.balance = 8)
      ∧ (let e := { (homeAs .active).entry with balance := 1, wish := some true };
        e.state = .active ∧ e.probe = false ∧ e.wish = some true ∧ 0 < e.balance) :=
  ⟨by
    intro span h
    simp only [List.mem_cons, List.not_mem_nil, or_false] at h
    rcases h with rfl | rfl | rfl
    · exact .inl rfl
    · exact .inr (.inl rfl)
    · exact .inr (.inr ⟨3238, by decide, rfl⟩), by decide +kernel, by decide +kernel⟩

theorem witness_IdleFillEndsWithFirstMap :
    (let s := { set with clock := { set.clock with idleLeft := 0 } };
      s.setup.isSome ∧ s.clock.firstMap = true ∧ s.clock.headerOpen = false ∧ s.clock.idleLeft = 0)
      ∧ (let s := { set with clock := { set.clock with headerOpen := true } };
        s.setup.isSome ∧ s.clock.firstMap = true ∧ s.clock.headerOpen = true)
      ∧ State.reset.setup = none ∧ (mapped set).clock.firstMap = false
      ∧ (set.clock.headerOpen = false ∧ set.clock.idleLeft ≠ 0) := by decide +kernel

/-- The boundary that decides discovery: its header is open and its round is due. -/
def inviteDue (s : State) : State := { s with clock := { s.clock with round := 8, headerOpen := true } }

/-- The boundary that builds a map and decides discovery first. -/
theorem witness_MapIsBuiltIntoOpenHeader_due :
    exec .discoveryDue (inviteDue set) = .next (after .discoveryDue (inviteDue set))
      ∧ (inviteDue set).clock.headerOpen = true
      ∧ (after .discoveryDue (inviteDue set)).enrol.due ≠ (inviteDue set).clock.round :=
  ⟨rfl, by decide +kernel, by decide +kernel⟩

/-- Every entry in one state. -/
def allAs (st : EState) : State := { set with homes := Vector.replicate 64 (homeAs st) }

/-- Not due; due and offered; due and skipped: under isolation, at 4 enrolling entries, and with every place taken by
Active homes or by Retired homes whose tag is barred. -/
theorem witness_DiscoveryIsOfferedOrSkipped :
    set.setup = some defaults ∧ set.clock.headerOpen = false
      ∧ (∀ s ∈ [set, probing set .whole [2], allAs .held, allAs .active, barring (allAs .retired) [7]],
          (inviteDue s).setup = some defaults ∧ (inviteDue s).clock.headerOpen = true
            ∧ (inviteDue s).clock.round = (inviteDue s).enrol.due)
      ∧ (inviteDue (probing set .whole [2])).probing = true
      ∧ 4 ≤ (inviteDue (allAs .held)).enrollingCount
      ∧ (∀ i, ((inviteDue (allAs .active)).entry i).state ≠ .vacant
          ∧ ((inviteDue (allAs .active)).entry i).state ≠ .retired)
      ∧ (∀ i, ((inviteDue (barring (allAs .retired) [7])).entry i).state ≠ .vacant
          ∧ (inviteDue (barring (allAs .retired) [7])).barred
              ((inviteDue (barring (allAs .retired) [7])).entry i).tagVal = true)
      ∧ (inviteDue set).probing = false ∧ (inviteDue set).enrollingCount < 4
      ∧ ((inviteDue set).entry 0).state = .vacant := by decide +kernel

/-- A Held home at the end of its approval wait. -/
def overdue (clock : Nat) : State :=
  (one 2 .held).modProgress 2 fun p => { p with stage := .waitingApproval, clock := some clock }

theorem witness_WaitsOfHomesEndWhenDue :
    (((overdue 4000).entry 2).state = .held ∧ (((overdue 4000).home 2).progress.map fun p => p.clock) = some (some 4000))
      ∧ ((overdue 3999).home 2).progress.all (fun p => p.clock != some 4000) = true
      ∧ ((one 2 .active).entry 2).state ≠ .held
      ∧ (((claiming (one 2 .active) 2 0).home 2).window = some 0
          ∧ ((claiming (one 2 .active) 2 0).entry 2).claim = some .pending)
      ∧ ((claiming (one 2 .active) 2 1).home 2).window ≠ some 0
      ∧ ((one 2 .active).entry 2).claim ≠ some .pending := by decide +kernel

/-! ### The feeder -/

/-- 127 and 128 periods, in a Clear and in a Declared check. -/
theorem witness_DriveCheckDeclaresAndClears :
    set.framer.run + 127 < 128 ∧ 128 ≤ set.framer.run + 128 ∧ set.framer.silence = false
      ∧ (after (.transmitSilenceDeclared 128) set).framer.silence = true := by decide +kernel

/-- A waiting frame; index 64 and lengths 63 and 2,001; each kind of home; a frame being sent. -/
theorem witness_DownstreamFramesAreDeliveredInTurn :
    (let f : Frame := { index := 3, bytes := List.replicate 64 0 };
      ({ set with framer := { set.framer with sending := some f, waiting := some f } } : State).framer.waiting.isSome
        ∧ ({ set with framer := { set.framer with sending := some f, waiting := some f } } : State).framer.sending.isSome)
      ∧ set.framer.waiting = none ∧ set.framer.sending = none
      ∧ 63 < (64 : Byte).toNat ∧ (List.replicate 63 (0 : Byte)).length < 64
      ∧ 2000 < (List.replicate 2001 (0 : Byte)).length
      ∧ (∀ n ∈ [64, 2000], ¬ (63 < (3 : Byte).toNat ∨ (List.replicate n (0 : Byte)).length < 64
          ∨ 2000 < (List.replicate n (0 : Byte)).length))
      ∧ (3 : Byte).toNat = (3 : HomeIdx).val
      ∧ ((one 3 .muted).entry 3).state ≠ .active ∧ ((one 3 .muted).entry 3).state ≠ .dozing
      ∧ (∀ st ∈ [EState.active, .dozing], ((one 3 st).entry 3).state = st ∧ ((one 3 st).liveRecord 3).isSome
          ∧ (one 3 st).currentBand = some 0 ∧ (one 3 st).framer.waiting = none) := by decide +kernel

/-! ### Upstream -/

/-- The round that arrives holds a discovery span, and the burst is good and ends with it; then each case of its
decision. -/
theorem witness_DiscoveryBurstIsDecided :
    set.rx.arriving = none ∧ 1638 < 1635 + 4
      ∧ (crcBytes ((List.replicate 32 (0 : Byte)).take 9)).toNat ≠ field (List.replicate 32 (0 : Byte)) 9 2
      ∧ (crcBytes ((burst 7 31).take 9)).toNat = field (burst 7 31) 9 2
      ∧ (∀ st, (inviting (one 2 st) false).rx.arriving
        = some { round := 9, map := some { span := some (.discovery, 1638), windows := [] }, spanGood := false
                 cutOff := false })
      ∧ 1634 + 4 = Reach.discoverySpan (inviting set false).straps.reach
      ∧ bodyCheck (burst 7 31) = true ∧ byteAt (burst 7 31) 8 = 31 ∧ tagAt (burst 7 31) 0 = 7
      ∧ 30 < byteAt (burst 7 31) 8 ∧ byteAt (burst 7 31) 8 ≤ 1634
      ∧ ((inviting set true).rx.arriving.map fun e => e.cutOff) = some true
      ∧ (inviting (barring set [7]) false).barred 7 = true ∧ (inviting set false).barred 7 = false
      ∧ ((inviting (one 2 .active) false).holder 7 = some 2
          ∧ ((inviting (one 2 .active) false).entry 2).state ≠ .retired)
      ∧ ((inviting (one 2 .retired) false).holder 7 = some 2
          ∧ ((inviting (one 2 .retired) false).entry 2).state = .retired
          ∧ (inviting (one 2 .retired) false).enrollingCount < 4)
      ∧ ((inviting (one 2 .active) false).holder 8 = none ∧ ((inviting (one 2 .active) false).entry 0).state = .vacant
          ∧ (inviting (one 2 .active) false).enrollingCount < 4)
      ∧ ((inviting (allAs .held) false).holder 8 = none ∧ 4 ≤ (inviting (allAs .held) false).enrollingCount)
      ∧ ((inviting (allAs .active) false).holder 8 = none
          ∧ ∀ i, ((inviting (allAs .active) false).entry i).state ≠ .vacant) :=
  ⟨by decide +kernel, by decide +kernel, by decide +kernel, by decide +kernel, fun _ => rfl, by decide +kernel⟩

/-- The light monitor stands at a streak, with or without feeder loss. -/
def seeing (s : State) (streak : Nat) (loss : Bool) : State := { s with light := { s.light with streak, loss } }

/-- A streak that reaches 8, one that does not, one in transmit silence and one in feeder loss. -/
theorem witness_RoundCloseTakesOldestRound_light :
    (let u := seeing set 7 false; u.framer.silence = false ∧ 7 ≤ u.light.streak ∧ u.light.loss = false)
      ∧ ¬ 7 ≤ (seeing set 6 false).light.streak
      ∧ (after (.transmitSilenceDeclared 128) (seeing set 7 false)).framer.silence = true
      ∧ (seeing set 8 true).light.loss = true := by decide +kernel

/-- No round to close; an unmapped round; a lit, an ungranted and a blank round. -/
theorem witness_RoundCloseTakesOldestRound :
    set.rx.closing = [] ∧ State.reset.setup = none
      ∧ ({ set with rx := { set.rx with
            closing := [{ round := 9, map := none, spanGood := false, cutOff := false }] } } : State).rx.closing
          = [{ round := 9, map := none, spanGood := false, cutOff := false }]
      ∧ (∀ ws ∈ [[], [window 2 .data 2 4]], ((closing set ws).setup = some defaults)
          ∧ ((closing set ws).rx.closing.map fun e => e.map) = [some { span := none, windows := ws }])
      ∧ ([window 2 .data 2 4].any fun w => [5].any fun q => decide (w.start ≤ q ∧ q < w.start + w.length)) = true
      ∧ ([window 2 .data 2 4].any fun w => dark.lit.any fun q => decide (w.start ≤ q ∧ q < w.start + w.length)) = false
      ∧ ([window 2 .data 2 4].any fun w =>
          w.purpose == .data || w.purpose == .poll || w.purpose == .enrolTest || w.purpose == .retest) = true
      ∧ (([] : List Window).any fun w =>
          w.purpose == .data || w.purpose == .poll || w.purpose == .enrolTest || w.purpose == .retest) = false := by
  decide +kernel

/-- A fourth miss that the operand puts after the gains, and one that it puts after the round is handed on. -/
theorem witness_RoundCloseTakesOldestRound_late :
    (doubtful.entry 2).state = .active ∧ (doubtful.entry 2).probe = false ∧ (doubtful.entry 2).miss = 3
      ∧ doubtful.framer.silence = false
      ∧ (doubtful.rx.closing.map fun e => e.map)
          = [some { span := none, windows := [window 2 .data 20 4, window 3 .poll 40 3] }]
      ∧ (after (.roundClose { dark with lit := [41], lossAfterHand := [2] }) doubtful).counter .homeLost = 1 := by
  decide +kernel

/-- A miss count of 2 and of 3 in the states that count, a Dozing home, a lit and a dark window, silence. -/
theorem witness_FourthMissTakesHomeOff :
    (window 2 .poll 2 3).isWindow = true ∧ (window 2 .poll 2 3).index = 2
      ∧ ((one 2 .dozing).entry 2).state = .dozing
      ∧ (∀ st ∈ [EState.testing, .held, .active], ∀ n ∈ [2, 3],
          (((one 2 st).modEntry 2 fun e => { e with miss := n }).entry 2).state = st
          ∧ (((one 2 st).modEntry 2 fun e => { e with miss := n }).entry 2).probe = false
          ∧ (((one 2 st).modEntry 2 fun e => { e with miss := n }).entry 2).miss = n
          ∧ ((one 2 st).modEntry 2 fun e => { e with miss := n }).framer.silence = false)
      ∧ (window 2 .poll 2 3).litIn { dark with lit := [4] } = true ∧ (window 2 .poll 2 3).litIn dark = false
      ∧ (after (.transmitSilenceDeclared 128) (one 2 .active)).framer.silence = true
      ∧ ((after (.transmitSilenceDeclared 128) (one 2 .active)).entry 2).state = .active := by decide +kernel

/-- A home under way: its stage, its tries and its tests. -/
def underWay (st : EState) (stage : Stage) (tries tests : Nat) : State :=
  (one 2 st).modProgress 2 fun p => { p with stage, tries, tests }

/-- A ranging span at 560..583 and what it finds; class S has its target at 26,624, so quantum 1,665 begins 16 phase
units beyond it. -/
def found (n : Nat) : RoundObs := { dark with spans := [{ index := 2, bursts := [(n, burst 7 0)] }] }

theorem witness_EnrolmentFollowsItsOutcomes_ranging :
    (∀ tries ∈ [0, 1, 2],
        ((underWay .ranging (.spanOutstanding 9) tries 0).home 2).progress
            = some { coarse := 40, tries, tests := 0, stage := .spanOutstanding 9, waiting := none, clock := none }
          ∧ ((underWay .ranging (.spanOutstanding 9) tries 0).entry 2).tag = (window 2 .enrolRanging 1650 24).tag
          ∧ ((underWay .ranging (.spanOutstanding 9) tries 0).entry 2).state = .ranging)
      ∧ (window 2 .enrolRanging 1650 24).fineTrip (found 26640) = some 26624
      ∧ 26624 ≤ (underWay .ranging (.spanOutstanding 9) 0 0).target
      ∧ (window 2 .enrolRanging 1650 24).fineTrip (found 26656) = some 26640
      ∧ (underWay .ranging (.spanOutstanding 9) 0 0).target < 26640
      ∧ (window 2 .enrolRanging 1650 24).fineTrip dark = none := by decide +kernel

/-- A home that does not wait for the span of round 9: another tag, state, stage or round, and no progress record. -/
theorem witness_EnrolmentFollowsItsOutcomes_discarded :
    (let waits (s : State) : Prop :=
      (s.entry 2).state = .ranging ∧ (s.entry 2).tag = (window 2 .enrolRanging 560 24).tag
        ∧ ((s.home 2).progress.any fun q => q.stage == .spanOutstanding 9) = true
    let s := underWay .ranging (.spanOutstanding 9) 0 0
    waits s ∧ ¬ waits (s.modEntry 2 fun e => { e with tag := some 8 })
      ∧ ¬ waits (underWay .held (.spanOutstanding 9) 0 0) ∧ ¬ waits (underWay .ranging .spanDue 0 0)
      ∧ ¬ waits (underWay .ranging (.spanOutstanding 12) 0 0)
      ∧ ¬ waits (s.modHome 2 fun h => { h with progress := none }))
    ∧ (let waits (s : State) : Prop :=
      (s.entry 2).state = .testing ∧ (s.entry 2).tag = (window 2 .enrolTest 2 19).tag
        ∧ ((s.home 2).progress.any fun q => q.stage == .testOutstanding 9) = true
    let s := underWay .testing (.testOutstanding 9) 0 0
    waits s ∧ ¬ waits (s.modEntry 2 fun e => { e with tag := some 8 })
      ∧ ¬ waits (underWay .held (.testOutstanding 9) 0 0) ∧ ¬ waits (underWay .testing .testDue 0 0)
      ∧ ¬ waits (underWay .testing (.testOutstanding 12) 0 0)
      ∧ ¬ waits (s.modHome 2 fun h => { h with progress := none })) := by decide +kernel

/-- A test burst with a good header and no payload light, its delimiter at a position. -/
def testBurst (delimiter : Nat) : BurstObs :=
  let h : List Byte := [2, 0, 1, 0, 0, 0]
  { index := 2, delimiter := some delimiter, level := 141, payload := []
    header := h ++ bytesOf 2 (crcBytes h).toNat ++ List.replicate 8 0 }

def tested (delimiter : Nat) : RoundObs := { dark with lit := List.range' 2 19, windows := [testBurst delimiter] }

/-- A span of which the third burst is the first that counts: its place, its check and its tag. -/
theorem witness_EnrolmentFollowsItsOutcomes_span :
    let w := window 2 .enrolRanging 560 24
    let bursts : List (Nat × List Byte) :=
      [(8959, burst 7 0), (8960, burst 8 0), (9343, burst 7 0), (8961, burst 7 0)]
    (({ dark with spans := [{ index := 2, bursts }] } : RoundObs).spans.flatMap fun r =>
        if r.index = w.index then r.bursts else []) = bursts
      ∧ w.fineTrip { dark with spans := [{ index := 2, bursts }] } = some 9327
      ∧ w.fineTrip { dark with spans := [{ index := 3, bursts }] } = none := by decide +kernel

/-- The bit errors of the burst are within an error maximum that is no less. -/
theorem test_burst_passes :
    (window 2 .enrolTest 2 19).testOutcome (tested 50) (bitErrors []) = .pass (bitErrors []) 141 2 := by
  have h : (window 2 .enrolTest 2 19).decoded (tested 50) = some (testBurst 50, 2) := by decide +kernel
  unfold Window.testOutcome
  rw [if_pos (by decide +kernel), h]
  simp [testBurst]

/-- A window at quantum 2 expects its delimiter at 48: at 50 the burst passes, and at 51 it is misaligned. -/
theorem witness_EnrolmentFollowsItsOutcomes_testing :
    (∀ tests ∈ [0, 1], ∀ tries ∈ [1, 2],
        ((underWay .testing (.testOutstanding 9) tries tests).entry 2).tag = (window 2 .enrolTest 2 19).tag
        ∧ ((underWay .testing (.testOutstanding 9) tries tests).entry 2).state = .testing
        ∧ ((underWay .testing (.testOutstanding 9) tries tests).home 2).progress
            = some { coarse := 40, tries, tests, stage := .testOutstanding 9, waiting := none, clock := none })
      ∧ (window 2 .enrolTest 2 19).testOutcome (tested 50) (bitErrors []) = .pass (bitErrors []) 141 2
      ∧ (window 2 .enrolTest 2 19).testOutcome (tested 51) 4 = .misaligned 141 3
      ∧ (window 2 .enrolTest 2 19).testOutcome dark 4 = .dark :=
  ⟨by decide +kernel, test_burst_passes, by decide +kernel, by decide +kernel⟩

/-- A Retest that is pending, ranging in place that is, and neither. -/
theorem witness_EnrolmentFollowsItsOutcomes_inService :
    ((one 2 .active).home 2).retest ≠ .placed 9 ∧ ((one 2 .active).home 2).inPlace ≠ .placed 9
      ∧ (((one 2 .active).modHome 2 fun h => { h with retest := .placed 9 }).home 2).retest = .placed 9
      ∧ (((one 2 .active).modHome 2 fun h => { h with inPlace := .placed 9 }).home 2).inPlace = .placed 9
      ∧ ((one 2 .active).entry 2).tag = (window 2 .inPlaceRanging 1650 24).tag
      ∧ (window 2 .enrolTest 2 19).litIn dark = false ∧ (window 2 .enrolTest 2 19).litIn (tested 50) = true
      ∧ (window 2 .enrolTest 2 19).decoded { tested 50 with windows := [] } = none := by decide +kernel

/-- A window without light; a lit one. Another tag; each state and purpose with a line of its own in the table of section
6.3. A Live record, and the band it is billed in. -/
theorem witness_DecodedBurstReportsForItsHome :
    (window 2 .data 2 4).isWindow = true ∧ (window 2 .data 2 4).litIn dark = false
      ∧ (window 2 .data 2 4).litIn { dark with lit := [5] } = true ∧ (window 2 .enrolRanging 2 24).isWindow = false
      ∧ ((one 2 .active).entry 2).tag ≠ ({ window 2 .data 2 4 with tag := some 8 } : Window).tag
      ∧ (∀ st ∈ [EState.ranging, .testing, .held, .active, .dozing, .muted, .retired],
          ((one 2 st).entry 2).state = st ∧ ((one 2 st).entry 2).tag = (window 2 .data 2 4).tag)
      ∧ headerWish [2, 0, 0, 16] = false
      ∧ (one 2 .active).liveRecord 2 = some (.fresh 7 0 { RecFlags.clear with partialEpoch := true })
      ∧ (one 2 .active).currentBand = some 0
      ∧ ∀ f ∈ [List.replicate 64 (0 : Byte), List.replicate 2000 1], 64 ≤ f.length ∧ f.length ≤ 2000 := by
  decide +kernel

/-- A home whose decay waits for no gain, for one and for two. -/
theorem witness_DecodedBurstReportsForItsHome_decay :
    (2 : HomeIdx) ∉ set.rogue.owed
      ∧ ((2 : HomeIdx) ∈ [(2 : HomeIdx), 3] ∧ (2 : HomeIdx) ∉ [(2 : HomeIdx), 3].erase 2)
      ∧ (2 : HomeIdx) ∈ [(2 : HomeIdx), 3, 2].erase 2 := by decide +kernel

/-- A burst found 31 phase units late and good; a level 12 and 13 above the preset; the lengths at which parsing ends
(R152): too little left, 0, 63, 2,001, and a frame of 64 with 63 bytes left. -/
theorem witness_DecodedBurstReportsForItsHome_found :
    ((window 2 .data 2 4).decoded { dark with lit := [2], windows := [testBurst 79] }
        = none ∧ (window 2 .enrolTest 2 19).decoded (tested 79) = some (testBurst 79, 31)
        ∧ (window 2 .enrolTest 2 19).decoded (tested 80) = none)
      ∧ (window 2 .poll 2 3).overlaps { tested 48 with windows := [{ testBurst 48 with level := 153 }] } = true
      ∧ (window 2 .poll 2 3).overlaps { tested 48 with windows := [{ testBurst 48 with level := 152 }] } = false
      ∧ ([] : List Byte).length < 2 ∧ field ([0, 0] : List Byte) 0 2 = 0
      ∧ (∀ n ∈ [63, 2001], field (bytesOf 2 n) 0 2 = n)
      ∧ (bytesOf 2 64 ++ List.replicate 63 (0 : Byte)).length < field (bytesOf 2 64) 0 2 + 2 := by decide +kernel

/-- Offsets of 2 and 3 with the marker clear and with a correction in flight; D = 17,487 takes a correction up to itself
and asks for ranging in place beyond; a full queue; a score one short of M_lim; a level 12 and 13 from the preset; a doze
wish at balances of 0 and 1. -/
theorem witness_DecodedBurstReportsForItsHome_line :
    ((one 2 .active).entry 2).delay = some 17487 ∧ ((one 2 .active).home 2).marker = .clear
      ∧ (((one 2 .active).modHome 2 fun h => { h with marker := .queued }).home 2).marker ≠ .clear
      ∧ (2 : Int).natAbs < 3 ∧ 3 ≤ (-3 : Int).natAbs ∧ 8 ≤ (8 : Int).natAbs
      ∧ 0 ≤ (17487 : Int) - 31 ∧ (17487 : Int) - -31 ≤ ((one 2 .active).target : Int) ∧ ¬ 0 ≤ (30 : Int) - 31
      ∧ (one 2 .active).framer.queue.length < 32 ∧ 32 ≤ (queued (one 2 .active)).framer.queue.length
      ∧ min (14 + 1) 31 < defaults.misLim ∧ defaults.misLim ≤ min (15 + 1) 31
      ∧ (window 2 .data 2 4).preset + 12 < 153 ∧ 127 + 12 < (window 2 .data 2 4).preset
      ∧ 152 ≤ (window 2 .data 2 4).preset + 12 ∧ (window 2 .data 2 4).preset ≤ 128 + 12
      ∧ ((one 2 .active).entry 2).balance ≤ 0
      ∧ ¬ (((one 2 .active).modEntry 2 fun e => { e with balance := 1 }).entry 2).balance ≤ 0 := by decide +kernel

/-! ### The laws that steps keep: a part with an Active home, and a command in front -/

def running : State := { one 2 .active with pending := [.dozeExpiry 2] }

theorem vacant_legal (n m : Nat) : Home.vacant.Legal n m := by
  constructor
  · constructor <;> simp [Home.vacant, Entry.vacant, EState.measured, EState.inService]
  all_goals simp [Home.vacant, Entry.vacant, EState.enrolling]

theorem active_legal : (homeAs .active).Legal 26624 144 := by
  constructor
  · constructor <;> simp [homeAs, Home.vacant, Entry.vacant, EState.measured, EState.inService, EState.candidate]
  all_goals simp [homeAs, Home.vacant, Entry.vacant, EState.enrolling]

theorem running_home : ∀ i, running.home i = if i = 2 then homeAs .active else Home.vacant := by decide +kernel

theorem running_legal : running.HomesLegal where
  homes i := by
    rw [running_home, show running.target = 26624 by decide +kernel,
      show running.longestDoze = 144 by decide +kernel]
    split
    · exact active_legal
    · exact vacant_legal _ _
  rising := fun _ h => (nomatch h)
  cands := fun _ h => (nomatch h)
  probes i h := by
    have : ∀ i, (running.entry i).probe = false := by decide +kernel
    simp [this] at h
  interval := fun p h => by
    cases h
    decide +kernel

/-- The record at an index is its fresh one, where the home is the one in service. -/
theorem running_record : ∀ i, running.liveRecord i =
    if i = 2 then some (.fresh 7 0 { RecFlags.clear with partialEpoch := true }) else none := by decide +kernel

theorem running_steps : ∃ t, step running = .next t := ⟨_, rfl⟩

theorem witness_StepsKeepQueuesAndCounters :
    running.QueuesBounded ∧ running.BarsDistinct ∧ running.CountersInRange ∧ ∃ t, step running = .next t :=
  ⟨⟨by decide +kernel, by decide +kernel, by decide +kernel, by decide +kernel⟩, by unfold State.BarsDistinct; decide +kernel,
    fun c => by cases c <;> decide +kernel, running_steps⟩

theorem witness_StepsKeepBalancesBelowEight :
    (∀ i, -8 ≤ (running.entry i).balance ∧ (running.entry i).balance ≤ 7) ∧ ∃ t, step running = .next t :=
  ⟨by decide +kernel, running_steps⟩

theorem witness_StepsKeepShareLimit : running.SharesInRange ∧ ∃ t, step running = .next t :=
  ⟨⟨by decide +kernel, by decide +kernel⟩, running_steps⟩

theorem witness_StepsKeepHomeTableLegal : running.HomesLegal ∧ ∃ t, step running = .next t :=
  ⟨running_legal, running_steps⟩

theorem witness_StepsKeepTagsUniqueAndBarred :
    running.HomesLegal ∧ running.TagsUnique ∧ running.NoBarredEnrolling ∧ ∃ t, step running = .next t :=
  ⟨running_legal, fun i j t hi hj _ _ => by
      have : ∀ i, (running.entry i).state ≠ .vacant → i = 2 := by decide +kernel
      rw [this i hi, this j hj],
    fun i t h => by
      have : ∀ i, (running.entry i).state.enrolling = false := by decide +kernel
      simp [this] at h, running_steps⟩

theorem witness_StepsKeepBillingSound : running.HomesLegal ∧ running.BillingSound ∧ ∃ t, step running = .next t :=
  ⟨running_legal,
    { record := fun i r h => by
        rw [running_record] at h
        split at h
        · rename_i e
          subst e
          cases h
          decide +kernel
        · cases h
      served := by decide +kernel
      live := by decide +kernel
      unset := fun h => (nomatch h)
      noRound := fun h => (nomatch h)
      counter := fun h => (nomatch h) },
    running_steps⟩

/-- A full reset taken in a running part. -/
theorem witness_ResetMeetsEveryLaw :
    exec (.fullReset 31 .long) running = .next (after (.fullReset 31 .long) running) := rfl

end Sys2Proof.Tests
end

/-! The pages of the bar list (R60, R220). -/

namespace Sys2Proof.Machine

open Sys2Proof

variable {s : State} {m : InMsg} {body : List Byte}

/-! ### READ_BAR_LIST (R60) -/

/-- An admitted READ_BAR_LIST is answered by its own rule, in the Unset state too (R206). -/
theorem exec_readBarList_of_asks (h : s.Asks m 31 1) :
    exec .readBarList s = .next (s.popInbox.answerTo m (readBarListReply s.popInbox m.body)) :=
  congrArg Host.Outcome.next (State.takeRequest_eq h rfl (.inr rfl))

theorem readBarListReply_of_page_gt (h : 3 < byteAt body 0) : readBarListReply s body = .refuse .badIndex := if_pos h

theorem readBarListReply_of_page_le (h : byteAt body 0 ≤ 3) :
    readBarListReply s body = .done .ok
      (bytesOf 1 s.bars.length ++ bytesOf 1 (byteAt body 0)
        ++ (List.range 4).flatMap fun k => barBytes s.bars[4 * byteAt body 0 + k]?) id :=
  if_neg (Nat.not_lt.mpr h)

/-- The four positions of a page stand in the answer in ascending order. -/
theorem flatMap_range_four (f : Nat → List Byte) : (List.range 4).flatMap f = f 0 ++ f 1 ++ f 2 ++ f 3 := by
  simp [List.range_succ]

/-- Settles O11: the layout of one position (section 12.5) is read off the entry's reason, and the answer of either kind
of page leaves the rest of the part alone. -/
theorem readBarListGivesPage : Obligations.ReadBarListGivesPage := by
  intro s m h position
  have position_eq (k : Nat) : barBytes s.bars[4 * byteAt m.body 0 + k]? = position k := by
    simp only [position]
    cases s.bars[4 * byteAt m.body 0 + k]? with
    | none => rfl
    | some e =>
      obtain ⟨tag, reason, origin⟩ := e
      cases reason <;> rfl
  refine ⟨fun beyond => ⟨_, exec_readBarList_of_asks h, ?_⟩, fun within => ⟨_, exec_readBarList_of_asks h, ?_⟩⟩
  · rw [readBarListReply_of_page_gt beyond]
    exact State.answers_refuse m .badIndex
  · rw [readBarListReply_of_page_le within, flatMap_range_four]
    simp only [State.popInbox_bars, position_eq, ← List.append_assoc]
    exact State.answers_done m .ok _

end Sys2Proof.Machine

/-! The rates of the bank that is not Live (R167, R168) and the rating of a record (R178, R179). -/

namespace Sys2Proof.Machine

open Sys2Proof

variable {s t : State} {m : InMsg} {l : LiveBank} {base p : Plan} {b : ClosedBank} {i : HomeIdx} {done : Bool}
  {r : UsageRecord}

/-! ### Loading the other bank (R167) -/

/-- A Rating or Done bank is busy, whatever part of a plan is loaded. -/
theorem loadReply_of_busy (h : s.banks.other.free = false) (clamped : Bool) (f : Plan → Plan) :
    loadReply s clamped f = .refuse .bankBusy := by
  simp [loadReply, h]

/-- An Empty bank is loaded over a Continue copy of the Live plan, a Ready one over its own plan. -/
theorem State.loadPlan_of_base (hl : s.banks.live = some l)
    (hb : s.banks.other = .empty ∧ base = { l.plan with cont := true } ∨ s.banks.other = .ready base)
    (f : Plan → Plan) : s.loadPlan f = { s with banks := { s.banks with other := .ready (f base) } } := by
  rcases hb with ⟨other, rfl⟩ | other
  · simp [State.loadPlan, other, hl]
  · simp [State.loadPlan, other]

theorem loadReply_of_free (h : s.banks.other.free = true) (clamped : Bool) (f : Plan → Plan) :
    loadReply s clamped f =
      .done (if clamped then .clamped else .ok) (bytesOf 1 s.banks.liveId.flip.code) fun s => s.loadPlan f := by
  simp [loadReply, h]

/-- A load into a free bank changes that bank's plan, the port and the handler's count alone. -/
theorem State.answerTo_load (hl : s.banks.live = some l)
    (hb : s.banks.other = .empty ∧ base = { l.plan with cont := true } ∨ s.banks.other = .ready base)
    (clamped : Bool) (f : Plan → Plan) :
    s.popInbox.answerTo m (loadReply s.popInbox clamped f) =
      { s with
        banks := { s.banks with other := .ready (f base) }
        bus := s.bus.answered m (if clamped then .clamped else .ok) (bytesOf 1 s.banks.liveId.flip.code)
        waited := false : State }.bump .requestsTaken := by
  have free : s.popInbox.banks.other.free = true := by
    rcases hb with ⟨other, -⟩ | other <;> simp [other, OtherBank.free]
  rw [loadReply_of_free free, State.answerTo_done]
  exact congrArg (State.bump · .requestsTaken)
    (State.loadPlan_of_base (s := { s with bus := _, waited := false }) hl hb f)

/-! ### LOAD_RATES (R168) -/

theorem exec_loadRates_of_asks (h : s.Asks m 36 19) (hset : s.setup.isSome) :
    exec .loadRates s = .next (s.popInbox.answerTo m (loadRatesReply s.popInbox m.body)) :=
  congrArg Host.Outcome.next (State.takeRequest_eq h rfl (.inl hset))

theorem loadRatesPlan_up (body : List Byte) (p : Plan) (j : Fin 4) :
    (loadRatesPlan body p).up[j.val] = field body (2 * j.val) 2 := by
  simp [loadRatesPlan]

theorem loadRatesPlan_down (body : List Byte) (p : Plan) (j : Fin 4) :
    (loadRatesPlan body p).down[j.val] = field body (8 + 2 * j.val) 2 := by
  simp [loadRatesPlan]

/-- A scale above 7 is brought to 7. -/
theorem loadRatesPlan_scale (body : List Byte) (p : Plan) :
    (loadRatesPlan body p).scale = if 7 < byteAt body 18 then 7 else byteAt body 18 := by
  simp only [loadRatesPlan]
  split <;> omega

/-- Settles O30: a busy bank refuses, and a free one takes `loadRatesPlan` over its base. -/
theorem loadRatesFillsOtherBank : Obligations.LoadRatesFillsOtherBank := by
  intro s m l h hset hl
  refine ⟨fun busy => ⟨_, exec_loadRates_of_asks h hset, ?_⟩, fun base hb => ?_⟩
  · rw [loadRatesReply, loadReply_of_busy (s := s.popInbox) busy]
    exact State.answers_refuse m .bankBusy
  · refine ⟨_, loadRatesPlan m.body base, exec_loadRates_of_asks h hset,
      fun j => ⟨loadRatesPlan_up .., loadRatesPlan_down ..⟩, rfl, loadRatesPlan_scale .., rfl, ?_, ?_⟩
    all_goals rw [loadRatesReply, State.answerTo_load hl hb]
    · exact (State.gained_bump .requestsTaken).base rfl
    · simp [State.bump]

/-! ### The rating formula (R179) -/

/-- The eight products, band by band. -/
theorem ratingSum_eq (r : UsageRecord) (p : Plan) :
    ratingSum r p =
      kib r.up[0] * p.up[0] + kib r.up[1] * p.up[1] + kib r.up[2] * p.up[2] + kib r.up[3] * p.up[3]
        + kib r.down[0] * p.down[0] + kib r.down[1] * p.down[1] + kib r.down[2] * p.down[2]
        + kib r.down[3] * p.down[3] := by
  simp [ratingSum, List.finRange_succ, add_assoc]

/-- A byte counter in its range gives at most 2^30 KiB. -/
theorem kib_le {n : Nat} (h : n ≤ 2 ^ 40 - 1) : kib n ≤ 2 ^ 30 := by
  unfold kib
  omega

theorem kib_mul_rate_lt {n rate : Nat} (hn : n ≤ 2 ^ 40 - 1) (hr : rate ≤ 65535) : kib n * rate < 2 ^ 46 :=
  calc kib n * rate ≤ 2 ^ 30 * 65535 := Nat.mul_le_mul (kib_le hn) hr
    _ < 2 ^ 46 := by norm_num

/-- The rounding term is below the divisor, so nothing scales to nothing. -/
theorem scaled_zero (scale : Nat) : scaled 0 scale = 0 := by
  unfold scaled
  refine Nat.div_eq_of_lt ?_
  cases scale with
  | zero => simp
  | succ n => simp [Nat.pow_succ]

/-- A record without bytes costs the fee. -/
theorem rawCharge_of_no_bytes (up : r.up = Vector.replicate 4 0) (down : r.down = Vector.replicate 4 0) :
    rawCharge r p = p.fee := by
  have none_counted : ratingSum r p = 0 := by simp [ratingSum_eq, up, down, kib]
  simp [rawCharge, none_counted, scaled_zero]

/-! ### The rating position (R178) -/

/-- The rating position is the lowest index from `start` on that has a record. -/
theorem nextRecord_eq_some_iff {records : Vector (Option UsageRecord) 64} {start : Nat} {n : HomeIdx} :
    nextRecord records start = some n ↔
      (start ≤ n.val ∧ (records[n.val]).isSome) ∧ ∀ j, j < n → ¬ (start ≤ j.val ∧ (records[j.val]).isSome) := by
  rw [nextRecord, allIdx, ← Fin.find?_eq_find?_finRange, Fin.find?_eq_some_iff]
  simp

/-- No record from `start` on is passed over. -/
theorem nextRecord_le {records : Vector (Option UsageRecord) 64} {start : Nat} {j : HomeIdx}
    (from_start : start ≤ j.val) (held : (records[j.val]).isSome) :
    ∃ n, nextRecord records start = some n ∧ n ≤ j := by
  have found : (nextRecord records start).isSome := by
    rw [nextRecord, List.find?_isSome]
    exact ⟨j, List.mem_finRange j, by simp [from_start, held]⟩
  obtain ⟨n, hn⟩ := Option.isSome_iff_exists.mp found
  exact ⟨n, hn, not_lt.mp fun below => (nextRecord_eq_some_iff.mp hn).2 j below ⟨from_start, held⟩⟩

/-! ### The rating engine's share of a boundary (R178, R179) -/

/-- A gain that depends on a condition. -/
theorem State.Gained.bump_if {l : List Counter} (h : s.Gained t l) (q : Prop) [Decidable q] (c : Counter) :
    s.Gained (if q then t.bump c else t) ((if q then [c] else []) ++ l) := by
  split
  · exact h.bump c
  · exact h

/-- The record at the rating position is rated, the position moves on, and then each clamp is counted. -/
theorem State.tickRating_of_record (hb : s.banks.other = .rating b (some i) done)
    (hr : b.records[i.val] = some r) :
    s.tickRating =
      let position := nextRecord b.records (i.val + 1)
      let rated := { b with records := b.records.set i.val (some (r.rated b.plan)) i.isLt }
      let moved := { s with banks := { s.banks with other := .rating rated position position.isNone } }
      let summed := if accumulatorOver r b.plan then moved.bump .accumulatorClamped else moved
      if byteMax < rawCharge r b.plan then summed.bump .chargeClamped else summed := by
  simp [State.tickRating, hb, hr]

theorem State.tickRating_other (hb : s.banks.other = .rating b (some i) done) (hr : b.records[i.val] = some r) :
    s.tickRating.banks.other =
      .rating { b with records := b.records.set i.val (some (r.rated b.plan)) i.isLt }
        (nextRecord b.records (i.val + 1)) (nextRecord b.records (i.val + 1)).isNone := by
  rw [State.tickRating_of_record hb hr]
  dsimp only
  split <;> split <;> rfl

/-- Rating a record changes the bank that is not Live and the counters alone. -/
theorem State.tickRating_frame (hb : s.banks.other = .rating b (some i) done) (hr : b.records[i.val] = some r) :
    s.tickRating = { s with banks := { s.banks with other := s.tickRating.banks.other }
                            counters := s.tickRating.counters } := by
  rw [State.tickRating_of_record hb hr]
  dsimp only
  split <;> split <;> rfl

theorem State.tickRating_gained (hb : s.banks.other = .rating b (some i) done) (hr : b.records[i.val] = some r) :
    s.Gained s.tickRating
      ((if accumulatorOver r b.plan then [Counter.accumulatorClamped] else [])
        ++ if byteMax < rawCharge r b.plan then [Counter.chargeClamped] else []) := by
  rw [State.tickRating_of_record hb hr]
  refine State.Gained.perm ((State.Gained.bump_if (.of_eq rfl) _ _).bump_if _ _) ?_
  rw [List.append_nil]
  exact List.perm_append_comm

/-- Settles O35: the model's sum and charge are those of the manual's formula, so its record is the rated one; the
clamps and the next position are those of `State.tickRating`. -/
theorem ratedChargeFollowsFormula : Obligations.RatedChargeFollowsFormula := by
  intro s b i done r hb hr k sum a h c rated clamps
  have sum_eq : ratingSum r b.plan = sum := ratingSum_eq r b.plan
  have charge_eq : rawCharge r b.plan = c := by
    rw [rawCharge, sum_eq]
    rfl
  have rated_eq : r.rated b.plan = rated := by
    rw [UsageRecord.rated, accumulatorOver, sum_eq, charge_eq]
    rfl
  refine ⟨⟨nextRecord b.records (i.val + 1), ?_, fun j hj => ?_, fun j above held => nextRecord_le above held⟩,
    ?_, State.tickRating_frame hb hr, fun n => kib_le, fun n rate => kib_mul_rate_lt, fun up down fee => ?_⟩
  · rw [State.tickRating_other hb hr, rated_eq]
  · exact (nextRecord_eq_some_iff.mp hj).1
  · have gained := State.tickRating_gained hb hr
    simp only [accumulatorOver, sum_eq, charge_eq, decide_eq_true_eq] at gained
    exact gained
  · have fee_only : c = b.plan.fee := charge_eq.symm.trans (rawCharge_of_no_bytes up down)
    have in_range : c ≤ 2 ^ 40 - 1 := by omega
    show some (min c (2 ^ 40 - 1)) = some b.plan.fee
    rw [min_eq_left in_range, fee_only]

end Sys2Proof.Machine

/-! The moves a step is made of, and what each law of the part keeps under one move. A move is either one that keeps
every home in its kind of state (`State.Keeps`) or one of the few that do not. -/

namespace Sys2Proof.Machine

open Sys2Proof

/-! ### What the laws of the home table read -/

/-- The candidate set that isolation holds while Probing (R129). -/
def Isolation.cands : Isolation → Option (List HomeIdx)
  | .probing p => some p.cands
  | _ => none

/-- The two states agree on what the laws read beside the homes, the bars and the candidate set. -/
structure State.Around (s t : State) : Prop where
  setup : t.setup = s.setup
  straps : t.straps = s.straps
  live : t.banks.live.isSome = s.banks.live.isSome
  tags : ∀ i, (t.liveRecord i).map (·.tag) = (s.liveRecord i).map (·.tag)
  arriving : s.setup = none → s.rx.arriving = none → t.rx.arriving = none
  round : s.setup = none → t.clock.round = s.clock.round

/-- A home keeps its tag and its kind of state: what it holds may change within what R2 allows. -/
structure Home.Keeps (target doze : Nat) (h k : Home) : Prop where
  legal : h.Legal target doze → k.Legal target doze
  tag : k.entry.tag = h.entry.tag
  vacant : k.entry.state = .vacant ↔ h.entry.state = .vacant
  service : k.entry.state.inService = h.entry.state.inService
  enrolling : k.entry.state.enrolling = h.entry.state.enrolling
  candidate : h.entry.state.candidate → k.entry.state.candidate
  probe : k.entry.probe = h.entry.probe

/-- Every home keeps its tag and its kind of state, and no tag is barred anew. -/
structure State.Keeps (s t : State) : Prop where
  homes : ∀ i, (s.home i).Keeps s.target s.longestDoze (t.home i)
  balances : s.BalancesBelowEight → t.BalancesBelowEight
  shares : s.SharesInRange → t.SharesInRange
  bars : ∀ x, t.barred x = true → s.barred x = true
  cands : t.rogue.iso.cands = s.rogue.iso.cands
  around : s.Around t

section
variable {s t u : State} {i : HomeIdx}

theorem State.Around.refl (s : State) : s.Around s := ⟨rfl, rfl, rfl, fun _ => rfl, fun _ => id, fun _ => rfl⟩

theorem State.Around.trans (h : s.Around t) (g : t.Around u) : s.Around u where
  setup := g.setup.trans h.setup
  straps := g.straps.trans h.straps
  live := g.live.trans h.live
  tags i := (g.tags i).trans (h.tags i)
  arriving e := g.arriving (h.setup.trans e) ∘ h.arriving e
  round e := (g.round (h.setup.trans e)).trans (h.round e)

theorem State.Around.target (h : s.Around t) : t.target = s.target := by simp [State.target, h.straps]

theorem State.Around.longestDoze (h : s.Around t) : t.longestDoze = s.longestDoze := by
  simp [State.longestDoze, h.setup]

/-- A change that leaves banks, receiver, Setup, straps and the round counter alone. -/
theorem State.Around.of_eq (hs : t.setup = s.setup) (hp : t.straps = s.straps) (hb : t.banks = s.banks)
    (hr : t.rx = s.rx) (hc : t.clock = s.clock) : s.Around t :=
  ⟨hs, hp, by rw [hb], fun i => by rw [State.liveRecord_congr hb], fun _ => by rw [hr]; exact id, fun _ => by rw [hc]⟩

theorem Home.Keeps.refl (target doze : Nat) (h : Home) : h.Keeps target doze h :=
  ⟨id, rfl, Iff.rfl, rfl, rfl, id, rfl⟩

theorem Home.Keeps.trans {target doze : Nat} {h k l : Home} (a : h.Keeps target doze k) (b : k.Keeps target doze l) :
    h.Keeps target doze l where
  legal := b.legal ∘ a.legal
  tag := b.tag.trans a.tag
  vacant := b.vacant.trans a.vacant
  service := b.service.trans a.service
  enrolling := b.enrolling.trans a.enrolling
  candidate := b.candidate ∘ a.candidate
  probe := b.probe.trans a.probe

/-- A change that leaves the state of the entry alone. -/
theorem Home.Keeps.of_state {target doze : Nat} {h k : Home} (legal : h.Legal target doze → k.Legal target doze)
    (state : k.entry.state = h.entry.state) (tag : k.entry.tag = h.entry.tag)
    (probe : k.entry.probe = h.entry.probe) : h.Keeps target doze k :=
  ⟨legal, tag, by rw [state], by rw [state], by rw [state], by rw [state]; exact id, probe⟩

theorem State.Keeps.refl (s : State) : s.Keeps s :=
  ⟨fun _ => .refl .., id, id, fun _ => id, rfl, .refl s⟩

theorem State.Keeps.trans (h : s.Keeps t) (g : t.Keeps u) : s.Keeps u where
  homes i := (h.homes i).trans (by rw [← h.around.target, ← h.around.longestDoze]; exact g.homes i)
  balances := g.balances ∘ h.balances
  shares := g.shares ∘ h.shares
  bars x := h.bars x ∘ g.bars x
  cands := g.cands.trans h.cands
  around := h.around.trans g.around

/-! ### The share limit and the balances, home by home -/

theorem State.shareSum_le (h : ∀ i, (t.entry i).share ≤ (s.entry i).share) : t.shareSum ≤ s.shareSum := by
  unfold State.shareSum
  exact List.sum_le_sum fun i _ => h i

/-- Each share stays or falls to 0, and one that stays keeps its home in service. -/
theorem State.SharesInRange.of_homes (hs : s.SharesInRange)
    (h : ∀ i, (t.entry i).share = 0 ∨ (t.entry i).share = (s.entry i).share ∧
      ((s.entry i).state.inService = true → (t.entry i).state.inService = true)) : t.SharesInRange where
  outside i ht := by
    rcases h i with e | ⟨e, k⟩
    · exact e
    · refine e.trans (hs.outside i ?_)
      cases hi : (s.entry i).state.inService with
      | false => rfl
      | true => simp [k hi] at ht
  total := (State.shareSum_le fun i => by rcases h i with e | ⟨e, -⟩ <;> omega).trans hs.total

/-- Every change of the homes that leaves shares, balances, bars, candidates and the rest alone is one that keeps. -/
theorem State.Keeps.of_homes (homes : ∀ i, (s.home i).Keeps s.target s.longestDoze (t.home i))
    (balance : ∀ i, (t.entry i).balance = (s.entry i).balance ∨
      (-8 ≤ (t.entry i).balance ∧ (t.entry i).balance ≤ 7))
    (share : ∀ i, (t.entry i).share = (s.entry i).share) (bars : t.bars = s.bars)
    (cands : t.rogue.iso.cands = s.rogue.iso.cands) (around : s.Around t) : s.Keeps t where
  homes := homes
  balances h i := by
    rcases balance i with e | e
    · rw [e]
      exact h i
    · exact e
  shares h := h.of_homes fun i => .inr ⟨share i, fun e => by
    have := (homes i).service
    simp only [State.entry] at e ⊢
    rw [this, e]⟩
  bars x := by simp [State.barred, bars]
  cands := cands
  around := around

/-- A change that touches no home. -/
theorem State.Keeps.of_same_homes (homes : t.homes = s.homes) (bars : ∀ x, t.barred x = true → s.barred x = true)
    (cands : t.rogue.iso.cands = s.rogue.iso.cands) (around : s.Around t) : s.Keeps t where
  homes i := by rw [State.home_congr homes]; exact .refl ..
  balances h i := by rw [State.entry_congr homes]; exact h i
  shares h := h.of_homes fun i => .inr (by rw [State.entry_congr homes]; exact ⟨rfl, id⟩)
  bars := bars
  cands := cands
  around := around

/-- A change of what no law reads. -/
theorem State.Keeps.quiet (homes : t.homes = s.homes) (bars : t.bars = s.bars) (rogue : t.rogue.iso = s.rogue.iso)
    (around : s.Around t) : s.Keeps t :=
  .of_same_homes homes (fun x => by simp [State.barred, bars]) (by rw [rogue]) around

/-- A change of one home that keeps its share. -/
theorem State.Keeps.modHome (s : State) (i : HomeIdx) (f : Home → Home)
    (h : (s.home i).Keeps s.target s.longestDoze (f (s.home i)))
    (balance : (f (s.home i)).entry.balance = (s.entry i).balance ∨
      (-8 ≤ (f (s.home i)).entry.balance ∧ (f (s.home i)).entry.balance ≤ 7))
    (share : (f (s.home i)).entry.share = (s.entry i).share) : s.Keeps (s.modHome i f) := by
  refine .of_homes (fun j => ?_) (fun j => ?_) (fun j => ?_) rfl rfl (.of_eq rfl rfl rfl rfl rfl) <;>
    simp only [State.entry, State.home_modHome] <;> split
  · subst j; exact h
  · exact .refl ..
  · subst j; exact balance
  · exact .inl rfl
  · subst j; exact share
  · rfl

end

/-! ### The moves -/

/-- Isolation ends without an outcome of its own: no probe mute and no candidate is left (R141). -/
def State.stopProbing (s : State) : State :=
  { (s.setProbes []).clearStreaks with rogue := { (s.setProbes []).clearStreaks.rogue with iso := .idle } }

/-- What an accepted Approve makes of a Held home (R40, R46). -/
def Home.approved (h : Home) : Home := { h with entry := h.entry.approved, progress := none, window := some 200 }

/-- The progress record of a fresh enrolment (R28). -/
def Progress.fresh (coarse : Nat) : Progress :=
  { coarse, tries := 0, tests := 0, stage := .awaitingAssign, waiting := none, clock := none }

/-- A home that enters Ranging (R8, R9). -/
def Home.ranged (t : Tag) (coarse : Nat) : Home :=
  { Home.vacant with entry := .ranged t, progress := some (.fresh coarse) }

/-- The moves from which every step is made. -/
inductive State.Move : State → State → Prop
  | keeps {s t : State} : s.Keeps t → Move s t
  | depart {s t : State} {i : HomeIdx} {q : RetireReason} {l : Option Directive} :
      s.Departs t i q l → (s.entry i).state ≠ .vacant → (s.entry i).state ≠ .retired →
      (∀ x, t.barred x = true → s.barred x = true ∨ x = (s.entry i).tagVal) → Move s t
  | mute (s : State) (i : HomeIdx) (q : MuteReason) (r : Round) :
      (s.entry i).state = .active ∨ (s.entry i).state = .dozing → Move s (s.muteHome i q r)
  | convict (s : State) (p : Probe) (i : HomeIdx) (q : MuteReason) (r : Round) :
      s.rogue.iso = .probing p → i ∈ p.cands → (s.entry i).state ≠ .held → Move s (s.stopProbing.muteHome i q r)
  | approve (s : State) (i : HomeIdx) :
      (s.entry i).state = .held → Move s ((s.modHome i Home.approved).makeRecord i)
  | accept (s : State) (i : HomeIdx) (t : Tag) (coarse : Nat) :
      s.rx.arriving.isSome → s.barred t = false →
      (s.holder t = some i ∧ (s.entry i).state = .retired) ∨ (s.holder t = none ∧ (s.entry i).state = .vacant) →
      Move s (s.setHome i (.ranged t coarse))
  | addBar (s : State) (t : Tag) (r : BarReason) (o : Station) :
      s.barTarget t = none ∨ (∃ i, (s.entry i).state.inService ∧ (s.entry i).tagVal = t) → Move s (s.addBar t r o)
  | probes {s t : State} {l : Option (List HomeIdx)} {muted : List HomeIdx} :
      t.homes = (s.setProbes muted).homes → t.bars = s.bars → s.Around t → t.rogue.iso.cands = l →
      (∀ i ∈ muted, ∃ c, l = some c ∧ i ∈ c) →
      (∀ c, l = some c → c ≠ [] ∧
        (s.HomesLegal → c.Pairwise (· < ·) ∧ ∀ i ∈ c, (s.entry i).state.candidate)) → Move s t
  | swap (s : State) : Move s s.swap
  | restart (s : State) : Move s s.restartHomes.restartBlocks
  | setup (s : State) (b : List Byte) : s.setup = none → Move s (s.acceptSetup (setupParams b).1)
  | reset (s : State) (station : Station) (reach : Reach) :
      Move s { State.afterReset station reach with pending := s.pending, restarts := s.restarts }

/-- What a run of moves leads to. -/
abbrev State.Runs : State → State → Prop := Relation.ReflTransGen State.Move

theorem State.Keeps.runs {s t : State} (h : s.Keeps t) : s.Runs t := .single (.keeps h)

end Sys2Proof.Machine

/-! What the swap, the tree restart and a record's making do to the home table and the Live bank (R171, R174, R214). -/

namespace Sys2Proof.Machine

open Sys2Proof

variable {s t : State} {l : LiveBank} {p : Params} {plan : Plan}

/-! ### The swap (R174) -/

/-- The bank that a swap closes. -/
def LiveBank.closedAt (l : LiveBank) (round : Round) : ClosedBank where
  plan := l.plan
  start := l.start
  stop := round
  records := l.records.map fun r => r.map fun r => { r with stop := some round }

/-- The bank that a swap opens. -/
def State.openedBank (s : State) (plan : Plan) : LiveBank where
  plan := plan
  start := s.clock.round
  records := s.homes.map fun h => h.entry.swapRecord s.clock.round

/-- The banks after a swap. -/
def State.swappedBanks (s : State) (l : LiveBank) (p : Params) (plan : Plan) : Banks where
  liveId := s.banks.liveId.flip
  live := some (s.openedBank plan)
  other := .rating (l.closedAt s.clock.round) (nextRecord (l.closedAt s.clock.round).records 0) false
  timer := p.epoch
  held := false

/-- The ring the closing bank leaves to the swap. -/
def State.closingRing (s : State) : Ring := s.ring.getD { seg := 0, elapsed := 0, due := false }

theorem State.swap_eq (hl : s.banks.live = some l) (hp : s.setup = some p)
    (ho : s.banks.other.openingPlan l.plan = some plan) :
    s.swap =
      let ring := openingRing s.banks.other l.plan s.closingRing
      let u := { s with banks := s.swappedBanks l p plan, ring := some ring.1 }
      (if ring.2 then u.bump .ringRefit else u).vacateRetired := by
  simp only [State.swap, hl, hp, ho]
  rfl

/-- A swap is carried out or changes nothing. -/
theorem State.swap_cases (s : State) :
    s.swap = s ∨ ∃ l p plan, s.banks.live = some l ∧ s.setup = some p ∧
      s.banks.other.openingPlan l.plan = some plan := by
  cases hl : s.banks.live with
  | none => exact .inl (by simp [State.swap, hl])
  | some l =>
    cases hp : s.setup with
    | none => exact .inl (by simp [State.swap, hl, hp])
    | some p =>
      cases ho : s.banks.other.openingPlan l.plan with
      | none => exact .inl (by simp [State.swap, hl, hp, ho])
      | some plan => exact .inr ⟨l, p, plan, rfl, rfl, ho⟩

/-- A swap changes the home table, the banks, the ring and a counter alone. -/
theorem State.swap_frame (s : State) :
    s.swap = { s with homes := s.swap.homes, banks := s.swap.banks, ring := s.swap.ring
                      counters := s.swap.counters } := by
  rcases s.swap_cases with e | ⟨l, p, plan, hl, hp, ho⟩
  · rw [e]
  · rw [State.swap_eq hl hp ho]
    dsimp only
    split <;> rfl

theorem State.swap_banks (hl : s.banks.live = some l) (hp : s.setup = some p)
    (ho : s.banks.other.openingPlan l.plan = some plan) : s.swap.banks = s.swappedBanks l p plan := by
  rw [State.swap_eq hl hp ho]
  dsimp only
  split <;> rfl

theorem State.swap_ring (hl : s.banks.live = some l) (hp : s.setup = some p)
    (ho : s.banks.other.openingPlan l.plan = some plan) :
    s.swap.ring = some (openingRing s.banks.other l.plan s.closingRing).1 := by
  rw [State.swap_eq hl hp ho]
  dsimp only
  split <;> rfl

theorem State.swap_home (hl : s.banks.live = some l) (hp : s.setup = some p)
    (ho : s.banks.other.openingPlan l.plan = some plan) (i : HomeIdx) :
    s.swap.home i = if (s.entry i).state = .retired then Home.vacant else s.home i := by
  rw [State.swap_eq hl hp ho]
  dsimp only
  rw [State.home_vacateRetired]
  split <;> rfl

theorem State.swap_gained (hl : s.banks.live = some l) (hp : s.setup = some p)
    (ho : s.banks.other.openingPlan l.plan = some plan) :
    s.Gained s.swap (if (openingRing s.banks.other l.plan s.closingRing).2 then [.ringRefit] else []) := by
  rw [State.swap_eq hl hp ho]
  dsimp only
  split
  · exact State.Gained.base (s := { s with banks := _, ring := _ }) (State.gained_bump .ringRefit) rfl
  · exact State.Gained.of_eq rfl

/-- The record a swap gives an index (R171). -/
theorem State.swap_liveRecord (hl : s.banks.live = some l) (hp : s.setup = some p)
    (ho : s.banks.other.openingPlan l.plan = some plan) (i : HomeIdx) :
    s.swap.liveRecord i = (s.entry i).swapRecord s.clock.round := by
  simp [State.liveRecord, State.swap_banks hl hp ho, State.swappedBanks, State.openedBank, State.entry, State.home]

section
variable (s)
@[simp] theorem State.swap_setup : s.swap.setup = s.setup := by rw [State.swap_frame]
@[simp] theorem State.swap_straps : s.swap.straps = s.straps := by rw [State.swap_frame]
@[simp] theorem State.swap_clock : s.swap.clock = s.clock := by rw [State.swap_frame]
@[simp] theorem State.swap_rx : s.swap.rx = s.rx := by rw [State.swap_frame]
@[simp] theorem State.swap_rogue : s.swap.rogue = s.rogue := by rw [State.swap_frame]
@[simp] theorem State.swap_bars : s.swap.bars = s.bars := by rw [State.swap_frame]
@[simp] theorem State.swap_bus : s.swap.bus = s.bus := by rw [State.swap_frame]
@[simp] theorem State.swap_framer : s.swap.framer = s.framer := by rw [State.swap_frame]
@[simp] theorem State.swap_pending : s.swap.pending = s.pending := by rw [State.swap_frame]
end

/-! ### The record an Approve makes (R171) -/

theorem State.makeRecord_frame (s : State) (i : HomeIdx) :
    s.makeRecord i = { s with banks := { s.banks with live := (s.makeRecord i).banks.live } } := by
  unfold State.makeRecord
  split
  · rfl
  · split <;> rfl

/-- A record that the index has continues; without one a Partial record is made. -/
theorem State.liveRecord_makeRecord (hl : s.banks.live.isSome) (i j : HomeIdx) :
    (s.makeRecord i).liveRecord j =
      if j = i then
        (s.liveRecord i).or
          (some (.fresh (s.entry i).tagVal s.clock.round { RecFlags.clear with partialEpoch := true }))
      else s.liveRecord j := by
  obtain ⟨l, hl⟩ := Option.isSome_iff_exists.mp hl
  cases hr : l.records[i.val] with
  | some r =>
    have e : s.makeRecord i = s := by simp [State.makeRecord, hl, hr]
    rw [e]
    split
    · subst j
      simp [State.liveRecord, hl, hr]
    · rfl
  | none =>
    rcases eq_or_ne j i with rfl | e
    · simp [State.makeRecord, State.liveRecord, hl, hr]
    · have : i.val ≠ j.val := fun v => e (Fin.ext v.symm)
      simp [State.makeRecord, State.liveRecord, hl, hr, this, e]

theorem State.makeRecord_live_isSome (s : State) (i : HomeIdx) :
    (s.makeRecord i).banks.live.isSome = s.banks.live.isSome := by
  unfold State.makeRecord
  cases hl : s.banks.live with
  | none => simp [hl]
  | some l => dsimp only; split <;> simp [hl]

/-! ### The tree restart (R214) -/

theorem State.restartHomes_home (s : State) (i : HomeIdx) :
    s.restartHomes.home i = (s.home i).restarted (s.liveRecord i).isSome := by
  simp [State.restartHomes, State.home]

theorem State.restartHomes_liveRecord (s : State) (i : HomeIdx) :
    s.restartHomes.liveRecord i =
      (s.liveRecord i).map fun r => { r with flags := r.flags.restarted (s.entry i).state } := by
  cases hl : s.banks.live with
  | none => simp [State.restartHomes, State.liveRecord, hl]
  | some l => simp [State.restartHomes, State.liveRecord, hl, LiveBank.restarted, State.entry, State.home]

theorem State.restartHomes_live_isSome (s : State) :
    s.restartHomes.banks.live.isSome = s.banks.live.isSome := by
  simp [State.restartHomes]

end Sys2Proof.Machine

/-! Every move keeps the home table legal (R2, R129). -/

namespace Sys2Proof.Machine

open Sys2Proof

variable {s t u : State} {i : HomeIdx} {target doze : Nat} {h : Home}

/-! ### The law in terms of the candidate set -/

theorem Isolation.cands_eq_some {x : Isolation} {c : List HomeIdx} :
    x.cands = some c ↔ ∃ p, x = .probing p ∧ p.cands = c := by
  cases x <;> simp [Isolation.cands]

theorem State.HomesLegal.of_cands (homes : ∀ i, (s.home i).Legal s.target s.longestDoze)
    (cands : ∀ c, s.rogue.iso.cands = some c →
      c ≠ [] ∧ c.Pairwise (· < ·) ∧ ∀ i ∈ c, (s.entry i).state.candidate)
    (probes : ∀ i : HomeIdx, (s.entry i).probe → ∃ c, s.rogue.iso.cands = some c ∧ i ∈ c)
    (interval : ∀ p, s.setup = some p → 4 ≤ p.upkeep ∧ p.upkeep ≤ 256) : s.HomesLegal where
  homes := homes
  rising p hp := ⟨(cands _ (by rw [hp]; rfl)).1, (cands _ (by rw [hp]; rfl)).2.1⟩
  cands p hp := (cands _ (by rw [hp]; rfl)).2.2
  probes i hi := by
    obtain ⟨c, hc, m⟩ := probes i hi
    obtain ⟨p, hp, rfl⟩ := Isolation.cands_eq_some.mp hc
    exact ⟨p, hp, m⟩
  interval := interval

theorem State.HomesLegal.cands_spec (hs : s.HomesLegal) {c : List HomeIdx} (hc : s.rogue.iso.cands = some c) :
    c ≠ [] ∧ c.Pairwise (· < ·) ∧ ∀ i ∈ c, (s.entry i).state.candidate := by
  obtain ⟨p, hp, rfl⟩ := Isolation.cands_eq_some.mp hc
  exact ⟨(hs.rising p hp).1, (hs.rising p hp).2, hs.cands p hp⟩

theorem State.HomesLegal.probe_spec (hs : s.HomesLegal) (hi : (s.entry i).probe = true) :
    ∃ c, s.rogue.iso.cands = some c ∧ i ∈ c := by
  obtain ⟨p, hp, m⟩ := hs.probes i hi
  exact ⟨p.cands, by rw [hp]; rfl, m⟩

/-! ### Legal homes -/

theorem Entry.legal_vacant (target doze : Nat) : Entry.vacant.Legal target doze := by
  constructor <;> simp [Entry.vacant, EState.measured, EState.inService]

theorem Home.legal_vacant (target doze : Nat) : Home.vacant.Legal target doze := by
  constructor <;> simp [Home.vacant, Entry.vacant, EState.enrolling]
  exact Entry.legal_vacant ..

/-- A home of which nothing but a legal entry outside enrolment and without a Pending claim is kept. -/
theorem Home.legal_bare {e : Entry} (he : e.Legal target doze) (hs : e.state.enrolling = false)
    (hc : e.claim = none) : ({ Home.vacant with entry := e } : Home).Legal target doze := by
  constructor <;> simp [Home.vacant, hs, hc]
  exact he

theorem Entry.Legal.retired {e : Entry} (he : e.Legal target doze) (hs : e.state ≠ .vacant) (q : RetireReason) :
    (e.retired q).Legal target doze := by
  have tag : e.tag.isSome := by simp [he.tag, hs]
  constructor <;> simp [Entry.retired, EState.measured, EState.inService, tag, he.weight, he.balance, he.miss, he.score]
  · exact he.delayRange
  · exact he.levelRange

theorem Home.Legal.retired (hl : h.Legal target doze) (hs : h.entry.state ≠ .vacant) (q : RetireReason) :
    ({ Home.vacant with entry := h.entry.retired q } : Home).Legal target doze :=
  Home.legal_bare (hl.entry.retired hs q) rfl rfl

theorem Home.Legal.withProbe (hl : h.Legal target doze) (b : Bool) (hb : b = true → h.entry.state.candidate) :
    ({ h with entry := { h.entry with probe := b } } : Home).Legal target doze :=
  { hl with entry := { hl.entry with probe := hb } }

theorem Home.Legal.unprobe (hl : h.Legal target doze) :
    ({ h with entry := { h.entry with probe := false } } : Home).Legal target doze := hl.withProbe false (by simp)

theorem Entry.Legal.muted {e : Entry} (he : e.Legal target doze) (hs : e.state = .active ∨ e.state = .dozing)
    (q : MuteReason) : (e.muted q).Legal target doze where
  tag := by rcases hs with hs | hs <;> exact he.tag.trans (by rw [hs]; rfl)
  delay _ := he.delay (by rcases hs with hs | hs <;> rw [hs] <;> rfl)
  noDelay h := by rcases h with h | h <;> cases h
  delayRange := he.delayRange
  level _ := he.level (by rcases hs with hs | hs <;> rw [hs] <;> rfl)
  noLevel h := by rcases h with h | h <;> cases h
  levelRange := he.levelRange
  share := he.share
  weight := he.weight
  balance := he.balance
  backlog := rfl
  backlogRange _ h := by cases h
  miss := he.miss
  score := he.score
  claim := by rcases hs with hs | hs <;> exact he.claim.trans (by rw [hs]; rfl)
  wish := rfl
  dozeLeft := rfl
  dozeRange _ h := by cases h
  probe h := by cases h
  mute := rfl
  retire := by rcases hs with hs | hs <;> exact he.retire.trans (by rw [hs]; rfl)

theorem Home.Legal.muted (hl : h.Legal target doze) (hs : h.entry.state = .active ∨ h.entry.state = .dozing)
    (q : MuteReason) :
    ({ h with entry := h.entry.muted q, retest := .idle, keptWake := false } : Home).Legal target doze where
  entry := hl.entry.muted hs q
  progress := by rcases hs with hs | hs <;> exact hl.progress.trans (by rw [hs]; rfl)
  retest h := absurd rfl h
  inPlace _ := ⟨rfl, by simp [Entry.muted]⟩
  window := hl.window
  keptWake h := by cases h

theorem Entry.Legal.approved {e : Entry} (he : e.Legal target doze) (hs : e.state = .held) :
    e.approved.Legal target doze where
  tag := he.tag.trans (by rw [hs]; rfl)
  delay _ := he.delay (by rw [hs]; rfl)
  noDelay h := by rcases h with h | h <;> cases h
  delayRange := he.delayRange
  level _ := he.level (by rw [hs]; rfl)
  noLevel h := by rcases h with h | h <;> cases h
  levelRange := he.levelRange
  share := Nat.zero_le _
  weight := by simp [Entry.approved]
  balance := by simp [Entry.approved]
  backlog := rfl
  backlogRange n h := by cases h; decide
  miss := he.miss
  score := he.score
  claim := rfl
  wish := rfl
  dozeLeft := he.dozeLeft.trans (by rw [hs]; rfl)
  dozeRange := he.dozeRange
  probe _ := rfl
  mute := he.mute.trans (by rw [hs]; rfl)
  retire := he.retire.trans (by rw [hs]; rfl)

theorem Home.Legal.approved (hl : h.Legal target doze) (hs : h.entry.state = .held) :
    h.approved.Legal target doze where
  entry := hl.entry.approved hs
  progress := rfl
  retest _ := rfl
  inPlace _ := ⟨rfl, by simp [Home.approved, Entry.approved]⟩
  window := rfl
  keptWake _ := rfl

theorem Home.legal_ranged (t : Tag) (coarse target doze : Nat) : (Home.ranged t coarse).Legal target doze := by
  constructor
  · constructor <;>
      simp [Home.ranged, Entry.ranged, Entry.vacant, EState.measured, EState.inService]
  all_goals simp [Home.ranged, Home.vacant, Entry.ranged, Entry.vacant, EState.enrolling]

/-- At a tree restart every home is Vacant or Retired, and legal. -/
theorem Home.Legal.restarted (hl : h.Legal target doze) (record : Bool) :
    (h.restarted record).Legal target doze ∧ (h.restarted record).entry.probe = false := by
  have clear {e : Entry} (he : e.Legal target doze) (hs : e.state = .vacant ∨ e.state = .retired) :
      ({ Home.vacant with entry := { e with balance := 0, miss := 0, score := 0, probe := false } } : Home).Legal
        target doze := by
    have claim : e.claim = none := by
      have := he.claim
      rcases hs with hs | hs <;> simpa [hs, EState.inService] using this
    refine Home.legal_bare { he with
      balance := by simp, miss := by simp, score := by simp, probe := by simp } ?_ claim
    rcases hs with hs | hs <;> simp [hs, EState.enrolling]
  refine ⟨?_, rfl⟩
  unfold Home.restarted
  dsimp only
  have retires (hv : h.entry.state ≠ .vacant) := clear (hl.entry.retired hv .restart) (.inr rfl)
  cases hs : h.entry.state with
  | vacant => exact clear hl.entry (.inl hs)
  | retired => exact clear hl.entry (.inr hs)
  | ranging | testing | held =>
    cases record
    · exact clear (Entry.legal_vacant ..) (.inl rfl)
    · exact retires (by simp [hs])
  | active | dozing | muted => exact retires (by simp [hs])

/-! ### A home that leaves the candidate set -/

/-- One home leaves its state, and the candidate set with it. -/
theorem State.HomesLegal.of_leaves (hs : s.HomesLegal) (setup : t.setup = s.setup) (straps : t.straps = s.straps)
    (home : (t.home i).Legal s.target s.longestDoze) (probe : (t.entry i).probe = false)
    (others : ∀ j, j ≠ i → t.home j = s.home j ∨
      (s.probing = true ∧ t.home j = { s.home j with entry := { s.entry j with probe := false } }))
    (stays : (∀ p, s.rogue.iso = .probing p → i ∉ p.cands) → t.rogue = s.rogue ∧ ∀ j, j ≠ i → t.home j = s.home j)
    (leaves : ∀ p, s.rogue.iso = .probing p → i ∈ p.cands →
      t.rogue.iso = if p.cands.erase i = [] then .backoff 2000 else .probing { p with cands := p.cands.erase i }) :
    t.HomesLegal := by
  have target_eq : t.target = s.target := by simp [State.target, straps]
  have doze_eq : t.longestDoze = s.longestDoze := by simp [State.longestDoze, setup]
  have state_eq (j : HomeIdx) (hj : j ≠ i) : (t.entry j).state = (s.entry j).state := by
    rcases others j hj with e | ⟨-, e⟩ <;> simp [State.entry, e]
  have probe_of (j : HomeIdx) (hj : (t.entry j).probe = true) : j ≠ i ∧ (s.entry j).probe = true := by
    have ne : j ≠ i := by
      rintro rfl
      simp [probe] at hj
    refine ⟨ne, ?_⟩
    rcases others j ne with e | ⟨-, e⟩
    · simpa [State.entry, e] using hj
    · simp [State.entry, e] at hj
  refine .of_cands (fun j => ?_) (fun c hc => ?_) (fun j hj => ?_) (by rw [setup]; exact hs.interval)
  · rw [target_eq, doze_eq]
    rcases eq_or_ne j i with rfl | hj
    · exact home
    · rcases others j hj with e | ⟨-, e⟩ <;> rw [e]
      · exact hs.homes j
      · exact (hs.homes j).unprobe
  all_goals by_cases hp : ∃ p, s.rogue.iso = .probing p ∧ i ∈ p.cands
  · obtain ⟨p, hp, hi⟩ := hp
    rw [leaves p hp hi] at hc
    split at hc
    · simp [Isolation.cands] at hc
    · rename_i ne
      obtain rfl : p.cands.erase i = c := by simpa [Isolation.cands] using hc
      have rising := (hs.rising p hp).2
      refine ⟨ne, rising.erase i, fun j hj => ?_⟩
      have nodup : p.cands.Nodup := rising.imp fun a => ne_of_lt a
      obtain ⟨hji, hjc⟩ := nodup.mem_erase_iff.mp hj
      rw [state_eq j hji]
      exact hs.cands p hp j hjc
  · have := stays fun p hp' hi => hp ⟨p, hp', hi⟩
    rw [this.1] at hc
    obtain ⟨a, b, c'⟩ := hs.cands_spec hc
    refine ⟨a, b, fun j hj => ?_⟩
    have hji : j ≠ i := by
      rintro rfl
      obtain ⟨p, hp', rfl⟩ := Isolation.cands_eq_some.mp hc
      exact hp ⟨p, hp', hj⟩
    rw [state_eq j hji]
    exact c' j hj
  · obtain ⟨p, hp, hi⟩ := hp
    obtain ⟨ne, hj⟩ := probe_of j hj
    obtain ⟨q, hq, hjq⟩ := hs.probes j hj
    obtain rfl : p = q := by simpa [hp] using hq
    have mem : j ∈ p.cands.erase i := (List.mem_erase_of_ne ne).mpr hjq
    rw [leaves p hp hi, if_neg (List.ne_nil_of_mem mem)]
    exact ⟨_, rfl, mem⟩
  · have := stays fun p hp' hi => hp ⟨p, hp', hi⟩
    rw [this.1]
    exact hs.probe_spec (probe_of j hj).2

/-- What a mute makes of its home (R12). -/
theorem State.muteHome_self (s : State) (i : HomeIdx) (q : MuteReason) (r : Round) :
    (s.muteHome i q r).home i =
      { s.home i with entry := (s.entry i).muted q, retest := .idle, keptWake := false } := by
  have retest : (s.cancelRetest i).home i = { s.home i with retest := .idle } := by
    unfold State.cancelRetest
    split
    · rename_i e
      rw [← e]
    · rw [State.home_congr (State.raise_homes ..)]
      simp
  unfold State.muteHome
  dsimp only
  generalize hu : (s.cancelRetest i).modHome i _ = u
  have hui : u.home i = { s.home i with entry := (s.entry i).muted q, retest := .idle, keptWake := false } := by
    rw [← hu, State.home_modHome, if_pos rfl, retest]
    rfl
  rcases State.dropCandidate_home u i r i with e | ⟨-, e⟩
  · rw [e, hui]
  · rw [e, State.entry, hui]
    rfl

/-- A mute, as one that leaves the candidate set. -/
theorem State.muteHome_leaves (s : State) (i : HomeIdx) (q : MuteReason) (r : Round) :
    (∀ j, j ≠ i → (s.muteHome i q r).home j = s.home j ∨ (s.probing = true ∧
      (s.muteHome i q r).home j = { s.home j with entry := { s.entry j with probe := false } }))
    ∧ ((∀ p, s.rogue.iso = .probing p → i ∉ p.cands) →
      (s.muteHome i q r).rogue = s.rogue ∧ ∀ j, j ≠ i → (s.muteHome i q r).home j = s.home j)
    ∧ ∀ p, s.rogue.iso = .probing p → i ∈ p.cands → (s.muteHome i q r).rogue.iso =
        if p.cands.erase i = [] then .backoff 2000 else .probing { p with cands := p.cands.erase i } := by
  unfold State.muteHome
  dsimp only
  generalize hu : (s.cancelRetest i).modHome i _ = u
  have hur : u.rogue = s.rogue := by simp [← hu]
  have huh (j : HomeIdx) (hj : j ≠ i) : u.home j = s.home j := by
    rw [← hu, State.home_modHome, if_neg hj, State.cancelRetest_home s i j hj]
  refine ⟨fun j hj => ?_, fun hc => ?_, fun p hp hi => ?_⟩
  · have := State.dropCandidate_home u i r j
    simpa [State.entry, huh j hj, State.probing, hur] using this
  · rw [State.dropCandidate_stays u i r (by rw [hur]; exact hc)]
    exact ⟨hur, huh⟩
  · exact State.dropCandidate_leaves u i r p (by rw [hur]; exact hp) hi

theorem State.HomesLegal.muteHome (hs : s.HomesLegal) (h : (s.entry i).state = .active ∨ (s.entry i).state = .dozing)
    (q : MuteReason) (r : Round) : (s.muteHome i q r).HomesLegal := by
  obtain ⟨others, stays, leaves⟩ := State.muteHome_leaves s i q r
  refine hs.of_leaves (i := i) (by simp) (by simp) ?_ ?_ others stays leaves
  · rw [State.muteHome_self]
    exact (hs.homes i).muted h q
  · rw [State.entry, State.muteHome_self]
    rfl

theorem State.HomesLegal.departs {q : RetireReason} {l : Option Directive} (hs : s.HomesLegal)
    (hd : s.Departs t i q l) (hv : (s.entry i).state ≠ .vacant) : t.HomesLegal := by
  have rest := State.SameRest.of_update hd.rest
  refine hs.of_leaves (i := i) rest.setup rest.straps ?_ ?_ hd.others hd.stays hd.leaves
  · rw [hd.home]
    split
    · exact (hs.homes i).retired hv q
    · exact Home.legal_vacant ..
  · rw [State.entry, hd.home]
    split <;> rfl

/-! ### The other moves -/

theorem State.HomesLegal.keeps (hs : s.HomesLegal) (hk : s.Keeps t) : t.HomesLegal := by
  refine .of_cands (fun i => ?_) (fun c hc => ?_) (fun i hi => ?_) (by rw [hk.around.setup]; exact hs.interval)
  · rw [hk.around.target, hk.around.longestDoze]
    exact (hk.homes i).legal (hs.homes i)
  · rw [hk.cands] at hc
    obtain ⟨a, b, c⟩ := hs.cands_spec hc
    exact ⟨a, b, fun i hi => (hk.homes i).candidate (c i hi)⟩
  · rw [hk.cands]
    exact hs.probe_spec (by rw [← hi]; exact (hk.homes i).probe.symm)

theorem State.HomesLegal.setProbes {l : Option (List HomeIdx)} {muted : List HomeIdx} (hs : s.HomesLegal)
    (homes : t.homes = (s.setProbes muted).homes) (around : s.Around t) (cands : t.rogue.iso.cands = l)
    (within : ∀ i ∈ muted, ∃ c, l = some c ∧ i ∈ c)
    (good : ∀ c, l = some c → c ≠ [] ∧
      (s.HomesLegal → c.Pairwise (· < ·) ∧ ∀ i ∈ c, (s.entry i).state.candidate)) : t.HomesLegal := by
  have entry_eq (i : HomeIdx) : t.entry i = { s.entry i with probe := muted.contains i } := by
    rw [State.entry_congr homes, State.entry_setProbes]
  refine .of_cands (fun i => ?_) (fun c hc => ?_) (fun i hi => ?_) (by rw [around.setup]; exact hs.interval)
  · rw [around.target, around.longestDoze, State.home_congr homes, State.home_setProbes]
    refine (hs.homes i).withProbe _ fun hm => ?_
    obtain ⟨c, hc, m⟩ := within i (by simpa using hm)
    exact ((good c hc).2 hs).2 i m
  · obtain ⟨a, b⟩ := good c (cands.symm.trans hc)
    obtain ⟨b, c'⟩ := b hs
    exact ⟨a, b, fun i hi => by rw [entry_eq]; exact c' i hi⟩
  · rw [entry_eq] at hi
    rw [cands]
    exact within i (by simpa using hi)

theorem State.HomesLegal.stopProbing (hs : s.HomesLegal) : s.stopProbing.HomesLegal :=
  hs.setProbes (muted := []) rfl (.of_eq rfl rfl rfl rfl rfl) rfl (by simp)
    fun c e => by simp [State.stopProbing, Isolation.cands] at e

theorem State.HomesLegal.same_homes (hs : s.HomesLegal) (homes : t.homes = s.homes) (setup : t.setup = s.setup)
    (straps : t.straps = s.straps) (iso : t.rogue.iso = s.rogue.iso) : t.HomesLegal := by
  have target_eq : t.target = s.target := by simp [State.target, straps]
  have doze_eq : t.longestDoze = s.longestDoze := by simp [State.longestDoze, setup]
  refine .of_cands (fun i => ?_) (fun c hc => ?_) (fun i hi => ?_) (by rw [setup]; exact hs.interval)
  · rw [target_eq, doze_eq, State.home_congr homes]
    exact hs.homes i
  · simp only [State.entry_congr homes]
    exact hs.cands_spec (by rw [← iso]; exact hc)
  · rw [iso]
    exact hs.probe_spec (by rw [← State.entry_congr homes]; exact hi)

theorem State.HomesLegal.approve (hs : s.HomesLegal) (h : (s.entry i).state = .held) :
    (s.modHome i Home.approved).HomesLegal := by
  have entry_eq (j : HomeIdx) : (s.modHome i Home.approved).entry j =
      if j = i then (s.entry i).approved else s.entry j := by
    simp only [State.entry, State.home_modHome]
    split <;> rfl
  refine .of_cands (fun j => ?_) (fun c hc => ?_) (fun j hj => ?_) hs.interval
  · rw [State.home_modHome]
    split
    · exact (hs.homes i).approved h
    · exact hs.homes j
  · obtain ⟨a, b, c'⟩ := hs.cands_spec hc
    refine ⟨a, b, fun j hj => ?_⟩
    rw [entry_eq]
    split
    · rfl
    · exact c' j hj
  · refine hs.probe_spec ?_
    rw [entry_eq] at hj
    split at hj
    · subst j
      exact hj
    · exact hj

theorem State.HomesLegal.accept (hs : s.HomesLegal)
    (h : (s.entry i).state = .retired ∨ (s.entry i).state = .vacant) (t : Tag) (coarse : Nat) :
    (s.setHome i (.ranged t coarse)).HomesLegal := by
  have not_cand : (s.entry i).state.candidate = false := by rcases h with h | h <;> simp [h, EState.candidate]
  refine .of_cands (fun j => ?_) (fun c hc => ?_) (fun j hj => ?_) hs.interval
  · rw [State.home_setHome]
    split
    · exact Home.legal_ranged ..
    · exact hs.homes j
  · obtain ⟨a, b, c'⟩ := hs.cands_spec hc
    refine ⟨a, b, fun j hj => ?_⟩
    have : j ≠ i := by
      rintro rfl
      exact absurd (c' _ hj) (by simp [not_cand])
    rw [State.entry, State.home_setHome, if_neg this]
    exact c' j hj
  · refine hs.probe_spec ?_
    rw [State.entry, State.home_setHome] at hj
    split at hj
    · simp [Home.ranged, Entry.ranged, Entry.vacant] at hj
    · exact hj

theorem State.HomesLegal.swap (hs : s.HomesLegal) : s.swap.HomesLegal := by
  rcases s.swap_cases with e | ⟨l, p, plan, hl, hp, ho⟩
  · rwa [e]
  have home_eq := State.swap_home hl hp ho
  have target_eq : s.swap.target = s.target := by simp [State.target]
  have doze_eq : s.swap.longestDoze = s.longestDoze := by simp [State.longestDoze]
  refine .of_cands (fun i => ?_) (fun c hc => ?_) (fun i hi => ?_) (by simpa using hs.interval)
  · rw [target_eq, doze_eq, home_eq]
    split
    · exact Home.legal_vacant ..
    · exact hs.homes i
  · obtain ⟨a, b, c'⟩ := hs.cands_spec (by simpa using hc)
    refine ⟨a, b, fun i hi => ?_⟩
    have := c' i hi
    rw [State.entry, home_eq, if_neg]
    · exact this
    · intro e
      simp [e, EState.candidate] at this
  · simp only [State.swap_rogue]
    refine hs.probe_spec ?_
    rw [State.entry, home_eq] at hi
    split at hi
    · simp [Home.vacant, Entry.vacant] at hi
    · exact hi

theorem State.HomesLegal.restart (hs : s.HomesLegal) : s.restartHomes.restartBlocks.HomesLegal := by
  have home_eq (i : HomeIdx) :
      s.restartHomes.restartBlocks.home i = (s.home i).restarted (s.liveRecord i).isSome :=
    s.restartHomes_home i
  refine .of_cands (fun i => ?_) (fun c hc => ?_) (fun i hi => ?_) hs.interval
  · rw [home_eq]
    exact ((hs.homes i).restarted _).1
  · simp [State.restartBlocks, Isolation.cands] at hc
  · rw [State.entry, home_eq, ((hs.homes i).restarted _).2] at hi
    simp at hi

theorem clampTo_bounds {lo hi : Nat} (h : lo ≤ hi) (v : Nat) : lo ≤ clampTo lo hi v ∧ clampTo lo hi v ≤ hi := by
  unfold clampTo
  omega

theorem setupValue_bounds {lo hi default : Nat} (h : lo ≤ hi) (hd : lo ≤ default ∧ default ≤ hi) (mask bit v : Nat) :
    lo ≤ (setupValue mask bit default lo hi v).1 ∧ (setupValue mask bit default lo hi v).1 ≤ hi := by
  unfold setupValue
  split
  · exact hd
  · exact clampTo_bounds h v

theorem setupParams_upkeep (b : List Byte) :
    4 ≤ (setupParams b).1.upkeep ∧ (setupParams b).1.upkeep ≤ 256 :=
  setupValue_bounds (by decide) (by decide) ..

theorem Home.Legal.mono {d : Nat} (hl : h.Legal target doze) (hd : doze ≤ d) : h.Legal target d :=
  { hl with entry := { hl.entry with dozeRange := fun n hn => (hl.entry.dozeRange n hn).trans hd } }

theorem State.startWaiting_frame (s : State) :
    s.startWaiting = { s with framer := s.startWaiting.framer } := by
  unfold State.startWaiting
  split <;> rfl

theorem State.acceptSetup_frame (s : State) (p : Params) :
    s.acceptSetup p =
      { s with
        setup := some p
        clock := { round := 0, idleLeft := 7, firstMap := true, headerOpen := false }
        enrol := { due := 8, offered := false }
        ring := some { seg := 0, elapsed := 0, due := false }
        banks :=
          { liveId := .bankA, live := some { plan := .flat, start := 0, records := Vector.replicate 64 none },
            other := .empty, timer := p.epoch, held := false }
        rx := { s.rx with
          arriving := none, closing := []
          next := some { round := 1, map := none, spanGood := false, cutOff := false } }
        framer := (s.acceptSetup p).framer } := by
  unfold State.acceptSetup State.sendIdleHeader State.expectUnmapped State.tickSilence
  dsimp only
  rw [State.startWaiting_frame]
  split <;> rfl

theorem State.HomesLegal.setup (hs : s.HomesLegal) (h : s.setup = none) (b : List Byte) :
    (s.acceptSetup (setupParams b).1).HomesLegal := by
  rw [State.acceptSetup_frame]
  have longest : s.longestDoze ≤ 9 * (setupParams b).1.upkeep := by simp [State.longestDoze, h]
  refine .of_cands (fun i => (hs.homes i).mono longest) (fun c hc => hs.cands_spec hc)
    (fun i hi => hs.probe_spec hi) ?_
  rintro p hp
  obtain rfl : (setupParams b).1 = p := by simpa using hp
  exact setupParams_upkeep b

/-- A part as a reset leaves it. -/
structure State.Blank (s : State) : Prop where
  homes : ∀ i, s.home i = Home.vacant
  setup : s.setup = none
  iso : s.rogue.iso = .idle
  banks : s.banks.live = none
  bars : s.bars = []
  arriving : s.rx.arriving = none
  round : s.clock.round = 0

theorem State.blank_reset (station : Station) (reach : Reach) (pending : List Instr) (restarts : Nat) :
    State.Blank { State.afterReset station reach with pending, restarts } := by
  constructor <;> simp [State.home, State.afterReset, State.reset]

theorem State.Blank.homesLegal (hb : s.Blank) : s.HomesLegal := by
  refine .of_cands (fun i => ?_) (fun c hc => ?_) (fun i hi => ?_) (by simp [hb.setup])
  · rw [hb.homes]
    exact Home.legal_vacant ..
  · simp [hb.iso, Isolation.cands] at hc
  · simp [State.entry, hb.homes, Home.vacant, Entry.vacant] at hi

/-- Every move keeps the home table legal. -/
theorem State.Move.homesLegal (h : s.Move t) (hs : s.HomesLegal) : t.HomesLegal := by
  cases h with
  | keeps hk => exact hs.keeps hk
  | depart hd hv _ _ => exact hs.departs hd hv
  | mute i q r h => exact hs.muteHome h q r
  | convict p i q r hp hi hh =>
    refine hs.stopProbing.muteHome ?_ q r
    have cand := hs.cands p hp i hi
    have state : (s.stopProbing.entry i).state = (s.entry i).state := by
      rw [show s.stopProbing.entry i = (s.setProbes []).entry i from rfl, State.entry_setProbes]
    rw [state]
    revert cand hh
    cases (s.entry i).state <;> simp [EState.candidate]
  | approve i h =>
    rw [State.makeRecord_frame]
    exact (hs.approve h).same_homes rfl rfl rfl rfl
  | accept i t coarse _ _ h => exact hs.accept (h.imp And.right And.right) t coarse
  | addBar t r o _ => exact hs.same_homes (by simp) (by simp) (by simp) (by simp)
  | probes homes bars around cands within good => exact hs.setProbes homes around cands within good
  | swap => exact hs.swap
  | restart => exact hs.restart
  | setup b h => exact hs.setup h b
  | reset station reach => exact (State.blank_reset ..).homesLegal

end Sys2Proof.Machine

/-! Every move keeps the balances, the share limit, the uniqueness of tags, the bar list's rule and the billing. -/

namespace Sys2Proof.Machine

open Sys2Proof

variable {s t : State} {i j : HomeIdx} {x : Tag}

/-! ### What a move makes of one entry -/

/-- What a move that changes the state of homes makes of one entry; `legal` is what the move may rest on. -/
inductive Entry.Turns (legal : Prop) (e : Entry) : Entry → Prop
  | probe (b : Bool) : Turns legal e { e with probe := b }
  | vacate : Turns legal e .vacant
  | mute (q : MuteReason) : (legal → e.state ≠ .vacant) → Turns legal e (e.muted q)
  | approve : e.state = .held → Turns legal e e.approved
  | retire (q : RetireReason) : e.state ≠ .vacant → Turns legal e (e.retired q)
  | clear {f : Entry} : Turns legal e f → Turns legal e { f with balance := 0, miss := 0, score := 0, probe := false }

theorem Entry.Turns.same {legal : Prop} (e : Entry) : Entry.Turns legal e e := .probe e.probe

theorem Home.restarted_turns {legal : Prop} (h : Home) (record : Bool) :
    Entry.Turns legal h.entry (h.restarted record).entry := by
  unfold Home.restarted
  cases hs : h.entry.state
  case vacant | retired => exact .clear (.same _)
  case active | dozing | muted => exact .clear (.retire _ (by simp [hs]))
  all_goals
    cases record
    · exact .clear .vacate
    · exact .clear (.retire _ (by simp [hs]))

theorem State.muteHome_turns {legal : Prop} (s : State) (i : HomeIdx) (q : MuteReason) (r : Round)
    (h : legal → (s.entry i).state ≠ .vacant) (j : HomeIdx) :
    Entry.Turns legal (s.entry j) ((s.muteHome i q r).entry j) := by
  show Entry.Turns _ _ ((s.muteHome i q r).home j).entry
  rcases eq_or_ne j i with rfl | hj
  · rw [State.muteHome_self]
    exact .mute q h
  · rcases (State.muteHome_leaves s i q r).1 j hj with e | ⟨-, e⟩ <;> rw [e]
    · exact .same _
    · exact .probe false

/-- A move keeps the homes, accepts a burst, or turns every entry in one of few ways. -/
theorem State.Move.turns (h : s.Move t) :
    s.Keeps t
    ∨ (∃ i x coarse, t = s.setHome i (.ranged x coarse) ∧ s.barred x = false ∧
        ((s.holder x = some i ∧ (s.entry i).state = .retired) ∨ (s.holder x = none ∧ (s.entry i).state = .vacant)))
    ∨ ∀ j, Entry.Turns s.HomesLegal (s.entry j) (t.entry j) := by
  cases h with
  | keeps hk => exact .inl hk
  | accept i t coarse _ hb h => exact .inr (.inl ⟨i, t, coarse, rfl, hb, h⟩)
  | depart hd hv hr bars =>
    rename_i i q l
    refine .inr (.inr fun j => ?_)
    show Entry.Turns _ _ (t.home j).entry
    rcases eq_or_ne j i with rfl | hj
    · rw [hd.home]
      split
      · exact .retire q hv
      · exact .vacate
    · rcases hd.others j hj with e | ⟨-, e⟩ <;> rw [e]
      · exact .same _
      · exact .probe false
  | mute i q r h => exact .inr (.inr (s.muteHome_turns i q r fun _ => by rcases h with h | h <;> simp [h]))
  | convict p i q r hp hi _ =>
    have entry_eq (j : HomeIdx) : s.stopProbing.entry j = { s.entry j with probe := false } :=
      State.entry_setProbes s [] j
    have state (legal : s.HomesLegal) : (s.stopProbing.entry i).state ≠ .vacant := by
      rw [entry_eq]
      intro vacant
      have := legal.cands p hp i hi
      simp_all [EState.candidate]
    refine .inr (.inr fun j => ?_)
    show Entry.Turns _ _ ((s.stopProbing.muteHome i q r).home j).entry
    rcases eq_or_ne j i with rfl | hj
    · rw [State.muteHome_self, entry_eq]
      exact .mute q fun legal => by simpa [entry_eq] using state legal
    · have same := ((State.muteHome_leaves s.stopProbing i q r).2.1 (by intro _ e; cases e)).2 j hj
      rw [same]
      show Entry.Turns _ _ (s.stopProbing.entry j)
      rw [entry_eq]
      exact .probe false
  | approve i h =>
    refine .inr (.inr fun j => ?_)
    rw [State.makeRecord_frame]
    show Entry.Turns _ _ ((s.modHome i Home.approved).home j).entry
    rw [State.home_modHome]
    split
    · subst j
      exact .approve h
    · exact .same _
  | addBar t r o _ =>
    refine .inr (.inr fun j => ?_)
    rw [State.entry_congr (State.addBar_homes ..)]
    exact .same _
  | probes homes _ _ _ _ _ =>
    refine .inr (.inr fun j => ?_)
    rw [State.entry_congr homes, State.entry_setProbes]
    exact .probe _
  | swap =>
    refine .inr (.inr fun j => ?_)
    rcases s.swap_cases with e | ⟨l, p, plan, hl, hp, ho⟩
    · rw [e]
      exact .same _
    · show Entry.Turns _ _ (s.swap.home j).entry
      rw [State.swap_home hl hp ho]
      split
      · exact .vacate
      · exact .same _
  | restart =>
    refine .inr (.inr fun j => ?_)
    show Entry.Turns _ _ (s.restartHomes.home j).entry
    rw [State.restartHomes_home]
    exact Home.restarted_turns ..
  | setup b _ =>
    refine .inr (.inr fun j => ?_)
    rw [State.acceptSetup_frame]
    exact .same _
  | reset station reach =>
    refine .inr (.inr fun j => ?_)
    have := (State.blank_reset station reach s.pending s.restarts).homes j
    rw [State.entry, State.entry, this]
    exact .vacate

/-! ### Balances and shares (R87, R77) -/

/-- The balance stays or is 0, and the share stays, with a home in service kept in it, or is 0. -/
structure Entry.Eases (e f : Entry) : Prop where
  balance : f.balance = e.balance ∨ f.balance = 0
  share : f.share = 0 ∨ f.share = e.share ∧ (e.state.inService = true → f.state.inService = true)

theorem Entry.Turns.eases {legal : Prop} {e f : Entry} (h : Entry.Turns legal e f) : e.Eases f := by
  induction h with
  | probe b => exact ⟨.inl rfl, .inr ⟨rfl, id⟩⟩
  | vacate => exact ⟨.inr rfl, .inl rfl⟩
  | mute q _ => exact ⟨.inl rfl, .inr ⟨rfl, fun _ => rfl⟩⟩
  | approve _ => exact ⟨.inr rfl, .inl rfl⟩
  | retire q _ => exact ⟨.inl rfl, .inl rfl⟩
  | clear _ ih => exact ⟨.inr rfl, ih.share⟩

theorem State.Move.eases (h : s.Move t) : s.Keeps t ∨ ∀ j, (s.entry j).Eases (t.entry j) := by
  rcases h.turns with hk | ⟨i, x, coarse, rfl, -, -⟩ | turns
  · exact .inl hk
  · refine .inr fun j => ?_
    show (s.entry j).Eases ((s.setHome i (.ranged x coarse)).home j).entry
    rw [State.home_setHome]
    split
    · exact ⟨.inr rfl, .inl rfl⟩
    · exact ⟨.inl rfl, .inr ⟨rfl, id⟩⟩
  · exact .inr fun j => (turns j).eases

theorem State.Move.balances (h : s.Move t) (hs : s.BalancesBelowEight) : t.BalancesBelowEight := by
  rcases h.eases with hk | he
  · exact hk.balances hs
  · intro i
    rcases (he i).balance with e | e <;> rw [e]
    · exact hs i
    · decide

theorem State.Move.shares (h : s.Move t) (hs : s.SharesInRange) : t.SharesInRange := by
  rcases h.eases with hk | he
  · exact hk.shares hs
  · exact hs.of_homes fun i => (he i).share

/-! ### Tags (R4) -/

/-- An entry is Vacant afterwards, or it held the same tag before and does not enter enrolment. -/
def Entry.Follows (e f : Entry) : Prop :=
  f.state = .vacant ∨ f.tag = e.tag ∧ e.state ≠ .vacant ∧ (f.state.enrolling = true → e.state.enrolling = true)

theorem Entry.Turns.follows {legal : Prop} (hl : legal) {e f : Entry} (h : Entry.Turns legal e f) : e.Follows f := by
  induction h with
  | probe b =>
    by_cases v : e.state = .vacant
    · exact .inl v
    · exact .inr ⟨rfl, v, id⟩
  | vacate => exact .inl rfl
  | mute q v => exact .inr ⟨rfl, v hl, by simp [Entry.muted, EState.enrolling]⟩
  | approve h => exact .inr ⟨rfl, by simp [h], by simp [Entry.approved, EState.enrolling]⟩
  | retire q v => exact .inr ⟨rfl, v, by simp [Entry.retired, EState.enrolling]⟩
  | clear _ ih => exact ih

/-- A move other than the acceptance of a burst gives no entry a tag it did not hold. -/
theorem State.Move.follows (h : s.Move t) (hs : s.HomesLegal) :
    (∃ i x coarse, t = s.setHome i (.ranged x coarse) ∧ s.barred x = false ∧
      ((s.holder x = some i ∧ (s.entry i).state = .retired) ∨ (s.holder x = none ∧ (s.entry i).state = .vacant)))
    ∨ ∀ i, (s.entry i).Follows (t.entry i) := by
  rcases h.turns with hk | accepted | turns
  · refine .inr fun j => ?_
    by_cases hv : (s.entry j).state = .vacant
    · exact .inl ((hk.homes j).vacant.mpr hv)
    · exact .inr ⟨(hk.homes j).tag, hv, fun e => (hk.homes j).enrolling.symm.trans e⟩
  · exact .inl accepted
  · exact .inr fun j => (turns j).follows hs

theorem State.holder_some (h : s.holder x = some i) : (s.entry i).state ≠ .vacant ∧ (s.entry i).tag = some x := by
  have := List.find?_some h
  simpa using this

theorem State.holder_none (h : s.holder x = none) (i : HomeIdx) :
    (s.entry i).state = .vacant ∨ (s.entry i).tag ≠ some x := by
  have := List.find?_eq_none.mp h i (List.mem_finRange i)
  by_contra e
  push Not at e
  simp [e.1, e.2] at this

/-- On a home table with unique tags, the entry with a tag is the one its lookup finds. -/
theorem State.TagsUnique.holder_eq (hu : s.TagsUnique) (hv : (s.entry j).state ≠ .vacant)
    (ht : (s.entry j).tag = some x) : s.holder x = some j := by
  cases h : s.holder x with
  | none => exact absurd ht ((State.holder_none h j).resolve_left hv)
  | some i =>
    obtain ⟨hi, ti⟩ := State.holder_some h
    rw [hu i j x hi hv ti ht]

theorem State.Move.tagsUnique (h : s.Move t) (hs : s.HomesLegal) (hu : s.TagsUnique) : t.TagsUnique := by
  rcases h.follows hs with ⟨i, x, coarse, rfl, -, held⟩ | follows
  · have entry_eq (j : HomeIdx) : (s.setHome i (.ranged x coarse)).entry j =
        if j = i then Entry.ranged x else s.entry j := by
      simp only [State.entry, State.home_setHome]
      split <;> rfl
    have other (j : HomeIdx) (hj : j ≠ i) (hv : (s.entry j).state ≠ .vacant) : (s.entry j).tag ≠ some x := by
      intro ht
      have found := hu.holder_eq hv ht
      rcases held with ⟨h, -⟩ | ⟨h, -⟩
      · exact hj (by simpa [h] using found.symm)
      · simp [h] at found
    intro j k y hj hk tj tk
    rw [entry_eq] at hj hk tj tk
    have tag : (Entry.ranged x).tag = some x := rfl
    split at hj <;> split at hk
    · simp_all
    · simp_all
    · simp_all
    · simp_all
      exact hu j k y hj hk tj tk
  · intro j k y hj hk tj tk
    obtain ⟨ej, vj, -⟩ := (follows j).resolve_left hj
    obtain ⟨ek, vk, -⟩ := (follows k).resolve_left hk
    exact hu j k y vj vk (ej ▸ tj) (ek ▸ tk)

/-! ### Barred tags (R55) -/

theorem State.HomesLegal.tag_eq (hs : s.HomesLegal) (hv : (s.entry i).state ≠ .vacant) :
    (s.entry i).tag = some (s.entry i).tagVal := by
  have some_tag : (s.entry i).tag.isSome := (hs.homes i).entry.tag.trans (by simpa [State.entry] using hv)
  obtain ⟨x, hx⟩ := Option.isSome_iff_exists.mp some_tag
  simp [Entry.tagVal, hx]

/-- A tag is on the list after an addition only where it is the one added or was on it before. -/
theorem State.barred_addBar {y : Tag} {r : BarReason} {o : Station} (h : (s.addBar x r o).barred y = true) :
    s.barred y = true ∨ y = x := by
  rw [State.barred, State.addBar_bars, barsAfter] at h
  have tail_any {l : List BarEntry} {f : BarEntry → Bool} (h : l.tail.any f = true) : l.any f = true := by
    obtain ⟨e, he, hf⟩ := List.any_eq_true.mp h
    exact List.any_eq_true.mpr ⟨e, List.mem_of_mem_tail he, hf⟩
  split at h
  · simp only [List.any_append, List.any_filter, Bool.or_eq_true, List.any_eq_true, Bool.and_eq_true] at h
    rcases h with ⟨e, he, -, hy⟩ | ⟨e, he, hy⟩
    · exact .inl (List.any_eq_true.mpr ⟨e, he, hy⟩)
    · simp_all
  · split at h <;> simp only [List.any_append, Bool.or_eq_true] at h <;> rcases h with h | h
    · exact .inl h
    · simp_all
    · exact .inl (tail_any h)
    · simp_all

/-- A move bars a tag anew only where no entry keeps it in enrolment. -/
theorem State.Move.bars (h : s.Move t) (hs : s.HomesLegal) (hu : s.TagsUnique) (hb : t.barred x = true) :
    s.barred x = true ∨ ∀ j, (t.entry j).state.enrolling = true → (s.entry j).Follows (t.entry j) →
      (t.entry j).tag ≠ some x := by
  cases h with
  | keeps hk => exact .inl (hk.bars x hb)
  | depart hd hv hr bars =>
    rename_i i q l
    refine (bars x hb).imp_right fun hx j hj follows tag => ?_
    obtain ⟨ej, vj, enr⟩ := follows.resolve_left (by intro e; simp [e, EState.enrolling] at hj)
    have same : i = j := hu i j x hv vj (by rw [hx]; exact hs.tag_eq hv) (ej ▸ tag)
    subst same
    rw [State.entry, hd.home] at hj
    split at hj <;> simp [Entry.retired, Home.vacant, Entry.vacant, EState.enrolling] at hj
  | mute i q r h => exact .inl (by simpa [State.barred] using hb)
  | convict p i q r _ _ _ => exact .inl (by simpa [State.barred, State.stopProbing] using hb)
  | approve i h =>
    rw [State.makeRecord_frame] at hb
    exact .inl hb
  | accept i t coarse _ _ _ => exact .inl hb
  | addBar y r o free =>
    refine (State.barred_addBar hb).imp_right ?_
    rintro rfl j hj follows tag
    rw [State.entry_congr (State.addBar_homes ..)] at hj tag
    have vj : (s.entry j).state ≠ .vacant := by intro e; simp [e, EState.enrolling] at hj
    have found := hu.holder_eq vj tag
    rcases free with free | ⟨i, hi, ti⟩
    · simp [State.barTarget, found, hj] at free
    · have vi : (s.entry i).state ≠ .vacant := by intro e; simp [e, EState.inService] at hi
      have := hu.holder_eq vi (ti ▸ hs.tag_eq vi)
      obtain rfl : j = i := by simpa [found] using this
      revert hi hj
      cases (s.entry j).state <;> simp [EState.enrolling, EState.inService]
  | probes _ bars _ _ _ _ => exact .inl (by simpa [State.barred, bars] using hb)
  | swap => exact .inl (by simpa [State.barred] using hb)
  | restart => exact .inl hb
  | setup b _ =>
    rw [State.acceptSetup_frame] at hb
    exact .inl hb
  | reset station reach => simp [State.barred, State.afterReset, State.reset] at hb

theorem State.Move.noBarredEnrolling (h : s.Move t) (hs : s.HomesLegal) (hu : s.TagsUnique)
    (hn : s.NoBarredEnrolling) : t.NoBarredEnrolling := by
  intro j x hj ht
  by_contra hb
  replace hb : t.barred x = true := by simpa using hb
  rcases h.follows hs with ⟨i, y, coarse, rfl, free, -⟩ | follows
  · replace hb : s.barred x = true := hb
    rw [State.entry, State.home_setHome] at hj ht
    split at ht
    · obtain rfl : y = x := by simpa [Home.ranged, Entry.ranged] using ht
      simp [free] at hb
    · rename_i ne
      rw [if_neg ne] at hj
      simp [hn j x hj ht] at hb
  · rcases h.bars hs hu hb with old | new
    · have nv : (t.entry j).state ≠ .vacant := by intro e; simp [e, EState.enrolling] at hj
      obtain ⟨ej, -, enr⟩ := (follows j).resolve_left nv
      simp [hn j x (enr hj) (ej ▸ ht)] at old
    · exact new j hj (follows j) ht

end Sys2Proof.Machine

/-! Every move keeps the billing sound on a legal home table (R14, R171, R164). -/

namespace Sys2Proof.Machine

open Sys2Proof

variable {s t : State} {i : HomeIdx}

theorem EState.retired_iff {x y : EState} (vacant : y = .vacant ↔ x = .vacant) (service : y.inService = x.inService)
    (enrolling : y.enrolling = x.enrolling) : y = .retired ↔ x = .retired := by
  revert vacant service enrolling
  cases x <;> cases y <;> simp [EState.inService, EState.enrolling]

/-- An Unset part has no record. -/
theorem State.BillingSound.no_record (hb : s.BillingSound) (h : s.setup = none) (i : HomeIdx) :
    s.liveRecord i = none := by
  have := hb.live
  rw [h] at this
  cases hl : s.banks.live with
  | none => simp [State.liveRecord, hl]
  | some l => simp [hl] at this

/-- The banks, Setup, receiver and round stay; each home keeps its tag where it has a record, and none enters service
or Retired without one. -/
theorem State.BillingSound.of_homes (hb : s.BillingSound) (around : s.Around t)
    (tag : ∀ i, (s.liveRecord i).isSome → (t.entry i).tag = (s.entry i).tag)
    (served : ∀ i, (t.entry i).state.inService ∨ (t.entry i).state = .retired →
      (s.entry i).state.inService ∨ (s.entry i).state = .retired ∨ (s.liveRecord i).isSome)
    (vacant : s.setup = none → ∀ i, (s.entry i).state = .vacant → (t.entry i).state = .vacant) : t.BillingSound where
  record i r hr := by
    have tags := around.tags i
    rw [hr] at tags
    obtain ⟨q, hq, e⟩ := Option.map_eq_some_iff.mp tags.symm
    rw [tag i (by simp [hq]), hb.record i q hq, e]
  served i h := by
    have old : (s.liveRecord i).isSome := by
      rcases served i h with h | h | h
      · exact hb.served i (.inl h)
      · exact hb.served i (.inr h)
      · exact h
    have tags := congrArg Option.isSome (around.tags i)
    simpa [old] using tags
  live := by rw [around.live, around.setup, hb.live]
  unset h i := vacant (around.setup.symm.trans h) i (hb.unset (around.setup.symm.trans h) i)
  noRound h := by
    have h := around.setup.symm.trans h
    exact around.arriving h (hb.noRound h)
  counter h := by
    have h := around.setup.symm.trans h
    rw [around.round h, hb.counter h]

theorem State.BillingSound.keeps (hb : s.BillingSound) (hk : s.Keeps t) : t.BillingSound := by
  refine hb.of_homes hk.around (fun i _ => (hk.homes i).tag) (fun i h => ?_) fun _ i h => (hk.homes i).vacant.mpr h
  rcases h with h | h
  · exact .inl ((hk.homes i).service.symm.trans h)
  · exact .inr (.inl ((EState.retired_iff (hk.homes i).vacant (hk.homes i).service (hk.homes i).enrolling).mp h))

/-- A move within one home that stays out of Vacant, with its tag. -/
theorem State.BillingSound.muteHome (hb : s.BillingSound) {q : MuteReason} {r : Round}
    (h : (s.entry i).state.inService) : (s.muteHome i q r).BillingSound := by
  have entry_eq (j : HomeIdx) : ∃ b, (s.muteHome i q r).entry j =
      if j = i then (s.entry i).muted q else { s.entry j with probe := b } := by
    rcases eq_or_ne j i with rfl | hj
    · refine ⟨false, ?_⟩
      rw [if_pos rfl, State.entry, State.muteHome_self]
    · rcases (State.muteHome_leaves s i q r).1 j hj with e | ⟨-, e⟩
      · exact ⟨(s.entry j).probe, by rw [if_neg hj, State.entry, e]; rfl⟩
      · exact ⟨false, by rw [if_neg hj, State.entry, e]⟩
  refine hb.of_homes (.of_eq (by simp) (by simp) (by simp) (by simp) (by simp)) (fun j _ => ?_) (fun j hj => ?_)
    fun unset j hv => ?_ <;> obtain ⟨b, e⟩ := entry_eq j
  · rw [e]
    split
    · subst j; rfl
    · rfl
  · rw [e] at hj
    split at hj
    · subst j; exact .inl h
    · rcases hj with hj | hj
      · exact .inl hj
      · exact .inr (.inl hj)
  · rw [e]
    split
    · subst j; simp [hv, EState.inService] at h
    · exact hv

/-- No Vacant home of a legal table has a record. -/
theorem State.BillingSound.vacant_record (hb : s.BillingSound) (hs : s.HomesLegal)
    (h : (s.entry i).state = .vacant) : s.liveRecord i = none := by
  by_contra ne
  obtain ⟨r, hr⟩ := Option.ne_none_iff_exists'.mp ne
  have tag := (hs.homes i).entry.tag
  rw [show (s.home i).entry = s.entry i from rfl, hb.record i r hr, h] at tag
  simp at tag

theorem State.BillingSound.departs {q : RetireReason} {l : Option Directive} (hb : s.BillingSound)
    (hd : s.Departs t i q l) : t.BillingSound := by
  have rest := State.SameRest.of_update hd.rest
  have live : t.banks.live.isSome = s.banks.live.isSome := by
    simpa using congrArg Option.isSome hd.banks.2
  have tags (j : HomeIdx) : (t.liveRecord j).map (·.tag) = (s.liveRecord j).map (·.tag) := by
    rcases eq_or_ne j i with rfl | hj
    · cases hr : s.liveRecord j with
      | none => rw [hd.noRecord hr]
      | some r => rw [hd.record r hr]; rfl
    · rw [hd.records j hj]
  refine hb.of_homes ⟨rest.setup, rest.straps, live, tags, fun _ => by rw [rest.rx]; exact id,
    fun _ => by rw [rest.clock]⟩
    (fun j hr => ?_) (fun j hj => ?_) fun unset j hv => ?_
  all_goals rcases eq_or_ne j i with rfl | ne
  · rw [State.entry, hd.home, if_pos (.inr hr)]
    rfl
  · rcases hd.others j ne with e | ⟨-, e⟩ <;> simp [State.entry, e]
  · rw [State.entry, hd.home] at hj
    split at hj
    · rename_i h
      exact h.imp id .inr
    · simp [Home.vacant, Entry.vacant, EState.inService] at hj
  · rcases hd.others j ne with e | ⟨-, e⟩ <;> simp only [State.entry, e] at hj
    · exact hj.imp id .inl
    · exact hj.imp id .inl
  · rw [State.entry, hd.home]
    split
    · rename_i h
      rcases h with h | h
      · simp [hv, EState.inService] at h
      · rw [hb.no_record unset] at h
        simp at h
    · rfl
  · rcases hd.others j ne with e | ⟨-, e⟩ <;> simp [State.entry, e] <;> exact hv

theorem State.BillingSound.approve (hb : s.BillingSound) (hs : s.HomesLegal) (h : (s.entry i).state = .held) :
    ((s.modHome i Home.approved).makeRecord i).BillingSound := by
  have set : s.setup ≠ none := fun e => by simpa [h] using hb.unset e i
  have live : s.banks.live.isSome := by rw [hb.live]; cases hp : s.setup <;> simp_all
  have entry_eq (j : HomeIdx) : ((s.modHome i Home.approved).makeRecord i).entry j =
      if j = i then (s.entry i).approved else s.entry j := by
    rw [State.makeRecord_frame]
    show ((s.modHome i Home.approved).home j).entry = _
    rw [State.home_modHome]
    split <;> rfl
  have record_eq (j : HomeIdx) := State.liveRecord_makeRecord (s := s.modHome i Home.approved) live i j
  have same (j : HomeIdx) : (s.modHome i Home.approved).liveRecord j = s.liveRecord j := rfl
  simp only [same] at record_eq
  refine ⟨fun j r hr => ?_, fun j hj => ?_, ?_, fun e => ?_, fun e => ?_, fun e => ?_⟩
  · rw [record_eq] at hr
    rw [entry_eq]
    split
    · subst j
      rw [if_pos rfl] at hr
      cases ho : s.liveRecord i with
      | some q =>
        obtain rfl : q = r := by simpa [ho] using hr
        exact hb.record i q ho
      | none =>
        simp only [ho, Option.none_or, Option.some.injEq] at hr
        subst hr
        show (s.entry i).tag = some ((s.modHome i Home.approved).entry i).tagVal
        rw [hs.tag_eq (by simp [h]), State.entry, State.entry, State.home_modHome, if_pos rfl]
        rfl
    · rw [if_neg ‹_›] at hr
      exact hb.record j r hr
  · rw [record_eq]
    rw [entry_eq] at hj
    split
    · simp
    · rw [if_neg ‹_›] at hj
      exact hb.served j hj
  · rw [State.makeRecord_live_isSome, State.makeRecord_frame]
    exact hb.live
  all_goals
    rw [State.makeRecord_frame] at e
    exact absurd e set

theorem State.BillingSound.accept (hb : s.BillingSound) (hs : s.HomesLegal) {x : Tag}
    (arriving : s.rx.arriving.isSome)
    (h : (s.holder x = some i ∧ (s.entry i).state = .retired) ∨ (s.holder x = none ∧ (s.entry i).state = .vacant))
    (coarse : Nat) : (s.setHome i (.ranged x coarse)).BillingSound := by
  have set : s.setup ≠ none := fun e => by simp [hb.noRound e] at arriving
  have entry_eq (j : HomeIdx) : (s.setHome i (.ranged x coarse)).entry j =
      if j = i then Entry.ranged x else s.entry j := by
    simp only [State.entry, State.home_setHome]
    split <;> rfl
  refine hb.of_homes (.of_eq rfl rfl rfl rfl rfl) (fun j hr => ?_) (fun j hj => ?_) fun e => absurd e set
  · rw [entry_eq]
    split
    · subst j
      rcases h with ⟨found, -⟩ | ⟨-, vacant⟩
      · exact (State.holder_some found).2.symm
      · rw [hb.vacant_record hs vacant] at hr
        cases hr
    · rfl
  · rw [entry_eq] at hj
    split at hj
    · simp [Entry.ranged, EState.inService] at hj
    · exact hj.imp id .inl

theorem State.BillingSound.swap (hb : s.BillingSound) (hs : s.HomesLegal) : s.swap.BillingSound := by
  rcases s.swap_cases with e | ⟨l, p, plan, hl, hp, ho⟩
  · rwa [e]
  have entry_eq (j : HomeIdx) : s.swap.entry j =
      if (s.entry j).state = .retired then Entry.vacant else s.entry j := by
    rw [State.entry, State.swap_home hl hp ho]
    split <;> rfl
  have set : s.setup ≠ none := by simp [hp]
  refine ⟨fun j r hr => ?_, fun j hj => ?_, ?_, fun e => ?_, fun e => ?_, fun e => ?_⟩
  · rw [State.swap_liveRecord hl hp ho, Entry.swapRecord] at hr
    split at hr
    · rename_i serving
      have alive : (s.entry j).state ≠ .vacant := by intro e; simp [e, EState.inService] at serving
      have stays : (s.entry j).state ≠ .retired := by intro e; simp [e, EState.inService] at serving
      simp only [Option.some.injEq] at hr
      rw [entry_eq, if_neg stays, hs.tag_eq alive, ← hr]
      rfl
    · cases hr
  · rw [entry_eq] at hj
    split at hj
    · simp [Entry.vacant, EState.inService] at hj
    · rename_i stays
      rw [State.swap_liveRecord hl hp ho, Entry.swapRecord, if_pos (hj.resolve_right stays)]
      rfl
  · simp [State.swap_banks hl hp ho, State.swappedBanks, hp]
  all_goals
    rw [State.swap_setup] at e
    exact absurd e set

theorem State.BillingSound.restart (hb : s.BillingSound) : s.restartHomes.restartBlocks.BillingSound := by
  have entry_eq (j : HomeIdx) : s.restartHomes.restartBlocks.entry j =
      ((s.home j).restarted (s.liveRecord j).isSome).entry :=
    congrArg Home.entry (s.restartHomes_home j)
  have tags (j : HomeIdx) : (s.restartHomes.restartBlocks.liveRecord j).map (·.tag) = (s.liveRecord j).map (·.tag) := by
    rw [show s.restartHomes.restartBlocks.liveRecord j = s.restartHomes.liveRecord j from rfl,
      State.restartHomes_liveRecord]
    cases s.liveRecord j <;> rfl
  refine hb.of_homes ⟨rfl, rfl, s.restartHomes_live_isSome, tags, fun _ e => ?_, fun _ => rfl⟩ (fun j hr => ?_)
    (fun j hj => ?_) fun unset j hv => ?_
  · show s.rx.arriving.map RoundExp.cut = _
    rw [e]
    rfl
  · rw [entry_eq, Home.restarted, hr]
    cases hst : (s.home j).entry.state <;> rfl
  · by_cases hr : (s.liveRecord j).isSome
    · exact .inr (.inr hr)
    · rw [entry_eq, Home.restarted, show (s.liveRecord j).isSome = false by simpa using hr] at hj
      rw [State.entry]
      cases hst : (s.home j).entry.state <;>
        simp [hst, Entry.vacant, EState.inService] at hj ⊢
  · rw [entry_eq, Home.restarted]
    rw [State.entry] at hv
    simp only [hv]

theorem State.BillingSound.setup (hb : s.BillingSound) (h : s.setup = none) (p : Params) :
    (s.acceptSetup p).BillingSound := by
  rw [State.acceptSetup_frame]
  refine ⟨fun j r hr => ?_, fun j hj => ?_, rfl, ?_, ?_, ?_⟩
  · simp [State.liveRecord] at hr
  · replace hj : (s.entry j).state.inService ∨ (s.entry j).state = .retired := hj
    rw [hb.unset h j] at hj
    simp [EState.inService] at hj
  all_goals exact fun e => by cases e

theorem State.Blank.billingSound (hb : s.Blank) : s.BillingSound := by
  have entry_eq (j : HomeIdx) : s.entry j = Entry.vacant := by rw [State.entry, hb.homes]; rfl
  refine ⟨fun j r hr => ?_, fun j hj => ?_, by rw [hb.banks, hb.setup]; rfl, fun _ j => by rw [entry_eq]; rfl,
    fun _ => hb.arriving, fun _ => hb.round⟩
  · simp [State.liveRecord, hb.banks] at hr
  · rw [entry_eq] at hj
    simp [Entry.vacant, EState.inService] at hj

/-- Every move keeps the billing sound. -/
theorem State.Move.billingSound (h : s.Move t) (hs : s.HomesLegal) (hb : s.BillingSound) : t.BillingSound := by
  cases h with
  | keeps hk => exact hb.keeps hk
  | depart hd _ _ _ => exact hb.departs hd
  | mute i q r h => exact hb.muteHome (by rcases h with h | h <;> rw [h] <;> rfl)
  | convict p i q r hp hi hh =>
    have quiet (j : HomeIdx) : s.stopProbing.entry j = { s.entry j with probe := false } :=
      State.entry_setProbes s [] j
    have stopped : s.stopProbing.BillingSound :=
      hb.of_homes (.of_eq rfl rfl rfl rfl rfl) (fun j _ => by rw [quiet])
        (fun j hj => by rw [quiet] at hj; exact hj.imp id .inl) (fun _ j hv => by rw [quiet]; exact hv)
    refine stopped.muteHome ?_
    have cand := hs.cands p hp i hi
    rw [quiet]
    revert cand hh
    show _ → _ → (s.entry i).state.inService = true
    cases (s.entry i).state <;> simp [EState.candidate, EState.inService]
  | approve i h => exact hb.approve hs h
  | accept i t coarse arriving _ h => exact hb.accept hs arriving h coarse
  | addBar t r o _ =>
    have homes := s.addBar_homes t r o
    refine hb.of_homes (.of_eq (by simp) (by simp) (by simp) (by simp) (by simp)) (fun j _ => ?_) (fun j hj => ?_)
      fun _ j hv => ?_ <;> rw [State.entry_congr homes] at *
    · exact hj.imp id .inl
    · exact hv
  | probes homes _ around _ _ _ =>
    rename_i muted _ _ _ _
    have quiet (j : HomeIdx) : t.entry j = { s.entry j with probe := muted.contains j } := by
      rw [State.entry_congr homes, State.entry_setProbes]
    exact hb.of_homes around (fun j _ => by rw [quiet]) (fun j hj => by rw [quiet] at hj; exact hj.imp id .inl)
      fun _ j hv => by rw [quiet]; exact hv
  | swap => exact hb.swap hs
  | restart => exact hb.restart
  | setup b h => exact hb.setup h _
  | reset station reach => exact (State.blank_reset ..).billingSound

end Sys2Proof.Machine

/-! What the planner puts into a map: who is granted what, and that a forced poll always finds room (R65, R67, R68). -/

namespace Sys2Proof.Machine

open Sys2Proof

variable {homes : Vector Home 64} {d d' e : Draft} {i j : HomeIdx} {g : PGrant} {span : Nat}

/-! ### The drafts -/

theorem Draft.get_empty (i : HomeIdx) : Draft.empty.get i = none := by simp [Draft.empty, Draft.get]

theorem Draft.get_put (d : Draft) (i j : HomeIdx) (g : PGrant) :
    (d.put i g).get j = if j = i then some g else d.get j := by
  rcases eq_or_ne j i with rfl | ne
  · simp [Draft.put, Draft.get]
  · have : i.val ≠ j.val := fun v => ne (Fin.ext v.symm)
    simp [Draft.put, Draft.get, ne, this]

theorem Draft.add_cases (d : Draft) (span : Nat) (i : HomeIdx) (g : PGrant) :
    d.add span i g = d ∨ d.add span i g = d.put i g := by
  unfold Draft.add
  split
  · exact .inr rfl
  · exact .inl rfl

/-- The second draft holds what the first holds, but where it holds a grant that `ok` admits for its home. -/
def Draft.Fills (ok : HomeIdx → PGrant → Prop) (d e : Draft) : Prop :=
  ∀ i, e.get i = d.get i ∨ ∃ g, e.get i = some g ∧ ok i g

namespace Draft.Fills

variable {ok ok' : HomeIdx → PGrant → Prop}

theorem refl (d : Draft) : Draft.Fills ok d d := fun _ => .inl rfl

theorem trans (h : Draft.Fills ok d d') (k : Draft.Fills ok d' e) : Draft.Fills ok d e := fun i => by
  rcases k i with ek | k
  · rw [ek]
    exact h i
  · exact .inr k

theorem put (h : ok i g) : Draft.Fills ok d (d.put i g) := fun j => by
  rw [Draft.get_put]
  split
  · subst j
    exact .inr ⟨g, rfl, h⟩
  · exact .inl rfl

theorem add (h : ok i g) : Draft.Fills ok d (d.add span i g) := by
  rcases d.add_cases span i g with e | e <;> rw [e]
  · exact refl d
  · exact put h

theorem mono (h : Draft.Fills ok d e) (le : ∀ i g, ok i g → ok' i g) : Draft.Fills ok' d e := fun i =>
  (h i).imp_right fun ⟨g, hg, k⟩ => ⟨g, hg, le i g k⟩

theorem foldl {step : Draft → HomeIdx → Draft} (h : ∀ d i, Draft.Fills ok d (step d i)) (l : List HomeIdx)
    (d : Draft) : Draft.Fills ok d (l.foldl step d) := by
  induction l generalizing d with
  | nil => exact refl d
  | cons i l ih => exact (h d i).trans (ih _)

/-- A grant once made is not taken back. -/
theorem isSome (h : Draft.Fills ok d e) (hi : (d.get i).isSome) : (e.get i).isSome := by
  rcases h i with k | ⟨g, k, -⟩ <;> rw [k]
  · exact hi
  · rfl

/-- What a draft that grew from the empty one holds is admitted. -/
theorem of_empty (h : Draft.Fills ok Draft.empty e) (hi : e.get i = some g) : ok i g := by
  rcases h i with k | ⟨g', k, hg⟩
  · rw [Draft.get_empty] at k
    simp [k] at hi
  · obtain rfl : g' = g := by simpa [k] using hi
    exact hg

end Draft.Fills

/-! ### Who is granted what (R65) -/

/-- The grants that a home's requests and state allow in a map with a reserved span or without. -/
def admits (homes : Vector Home 64) (i : HomeIdx) : PGrant → Prop
  | .window 0 => (homes[i.val]).entry.pollable = true
  | .window (_ + 1) => (homes[i.val]).entry.dataable = true
  | .test => testRequest homes[i.val] = true
  | .ranging s => ∃ c, rangingRequest homes[i.val] = some c ∧ s = rangingStart c

theorem Entry.pollable_of_dataable {e : Entry} (h : e.dataable = true) : e.pollable = true := by
  simp_all [Entry.dataable, Entry.pollable]

theorem stepForced_fills (d : Draft) (i : HomeIdx) : Draft.Fills (admits homes) d (stepForced homes span d i) := by
  unfold stepForced
  split
  · rename_i h
    exact .add (by simp_all [admits, forcedPoll])
  · exact .refl d

theorem stepDoze_fills (d : Draft) (i : HomeIdx) : Draft.Fills (admits homes) d (stepDoze homes span d i) := by
  unfold stepDoze
  split
  · rename_i h
    refine .add (Entry.pollable_of_dataable ?_)
    simp_all [dozePoll]
  · exact .refl d

theorem stepSpan_fills (d : Draft) (i : HomeIdx) : Draft.Fills (admits homes) d (stepSpan homes span d i) := by
  unfold stepSpan
  split
  · rename_i c h
    split
    · exact .refl d
    · exact .add ⟨c, h, rfl⟩
  · exact .refl d

theorem stepEnrol_fills (d : Draft) (i : HomeIdx) : Draft.Fills (admits homes) d (stepEnrol homes span d i) := by
  refine (stepSpan_fills (span := span) d i).trans ?_
  unfold stepEnrol
  dsimp only
  split
  · rename_i h
    exact .add (by simp_all [admits])
  · exact .refl _

theorem Draft.give_fills {want : Nat} (hd : (homes[i.val]).entry.dataable = true) (h : d.give span i want = some e) :
    Draft.Fills (admits homes) d e := by
  have data (n : Nat) : admits homes i (.window n) := by
    cases n
    · exact Entry.pollable_of_dataable hd
    · exact hd
  unfold Draft.give at h
  split at h
  · cases h
  · dsimp only at h
    split at h
    · cases h
    · cases h
      exact .put (data _)
  · dsimp only at h
    split at h
    · cases h
    · cases h
      exact .put (data _)

theorem stepGuaranteed_fills (d : Draft) (i : HomeIdx) :
    Draft.Fills (admits homes) d (stepGuaranteed homes span d i) := by
  unfold stepGuaranteed
  dsimp only
  split
  · rename_i hd
    cases hg : d.give span i _ with
    | none => exact .refl d
    | some e => exact Draft.give_fills hd hg
  · exact .refl d

theorem visit_fills (h : visit homes span d i = some e) : Draft.Fills (admits homes) d e := by
  unfold visit at h
  dsimp only at h
  split at h
  · exact Draft.give_fills ‹_› h
  · cases h

/-- One place of a cycle, with the last home served. -/
def cycleStep (homes : Vector Home 64) (span : Nat) (acc : Draft × Option HomeIdx) (i : HomeIdx) :
    Draft × Option HomeIdx :=
  match visit homes span acc.1 i with
  | some d => (d, some i)
  | none => acc

theorem cycle_eq (homes : Vector Home 64) (span : Nat) (p : HomeIdx) (d : Draft) :
    cycle homes span p d = (cycleOrder p).foldl (cycleStep homes span) (d, none) := rfl

theorem cycle_fills (p : HomeIdx) (d : Draft) : Draft.Fills (admits homes) d (cycle homes span p d).1 := by
  have walk (l : List HomeIdx) (acc : Draft × Option HomeIdx) :
      Draft.Fills (admits homes) acc.1 (l.foldl (cycleStep homes span) acc).1 := by
    induction l generalizing acc with
    | nil => exact .refl _
    | cons i l ih =>
      refine .trans ?_ (ih _)
      unfold cycleStep
      split
      · exact visit_fills ‹_›
      · exact .refl _
  exact walk _ (d, none)

theorem distribute_fills (p : HomeIdx) (n : Nat) (d : Draft) (last : Option HomeIdx) :
    Draft.Fills (admits homes) d (distribute homes span p n d last).1 := by
  induction n generalizing d last with
  | zero => exact .refl d
  | succ n ih =>
    have once := cycle_fills (homes := homes) (span := span) p d
    unfold distribute
    split
    · exact .refl d
    · rename_i d' i h
      rw [h] at once
      exact once.trans (ih d' (some i))

theorem stepOptional_fills (d : Draft) (i : HomeIdx) :
    Draft.Fills (admits homes) d (stepOptional homes span d i) := by
  unfold stepOptional
  dsimp only
  split
  · rename_i h
    exact .add (by simp_all [admits])
  · exact .refl d

/-- The steps after the forced polls. -/
theorem fillMap_fills_forced (p : HomeIdx) (sp : Option (SpanKind × Nat)) :
    Draft.Fills (admits homes) (allIdx.foldl (stepForced homes ((sp.map (·.2)).getD 0)) Draft.empty)
      (fillMap homes p sp).1 := by
  have doze (len : Nat) (d : Draft) := Draft.Fills.foldl (stepDoze_fills (homes := homes) (span := len)) allIdx d
  have enrol (len : Nat) (d : Draft) := Draft.Fills.foldl (stepEnrol_fills (homes := homes) (span := len)) allIdx d
  have guaranteed (len : Nat) (d : Draft) :=
    Draft.Fills.foldl (stepGuaranteed_fills (homes := homes) (span := len)) allIdx d
  have optional (len : Nat) (d : Draft) :=
    Draft.Fills.foldl (stepOptional_fills (homes := homes) (span := len)) allIdx d
  cases sp with
  | some _ => exact doze _ _
  | none =>
    exact (doze _ _).trans <| (enrol _ _).trans <| (guaranteed _ _).trans <|
      (distribute_fills p _ _ none).trans (optional _ _)

theorem fillMap_fills (p : HomeIdx) (sp : Option (SpanKind × Nat)) :
    Draft.Fills (admits homes) Draft.empty (fillMap homes p sp).1 :=
  .trans (.foldl stepForced_fills allIdx _) (fillMap_fills_forced p sp)

/-! ### Room for the polls that press (R68) -/

/-- A map that holds nothing but polls. -/
def Draft.PollsOnly (d : Draft) : Prop := ∀ i g, d.get i = some g → g = .window 0

theorem Draft.count_le (d : Draft) : d.count ≤ 64 := by
  unfold Draft.count
  exact List.countP_le_length.trans (by simp [allIdx])

theorem Draft.PollsOnly.spaceAt_le (h : d.PollsOnly) (i : HomeIdx) : d.spaceAt i ≤ 5 := by
  unfold Draft.spaceAt
  cases hg : d.get i with
  | none => simp
  | some g => simp [h i g hg, PGrant.space]

theorem Draft.PollsOnly.used_le (h : d.PollsOnly) (span : Nat) : d.used span ≤ span + 320 := by
  have : (allIdx.map d.spaceAt).sum ≤ (allIdx.map d.spaceAt).length • 5 :=
    List.sum_le_card_nsmul _ _ fun x hx => by
      obtain ⟨i, -, rfl⟩ := List.mem_map.mp hx
      exact h.spaceAt_le i
  simp only [List.length_map, allIdx, List.length_finRange, smul_eq_mul] at this
  unfold Draft.used allIdx
  omega

/-- Where a map holds nothing but polls, another poll fits. -/
theorem Draft.PollsOnly.add_eq (h : d.PollsOnly) (hs : span ≤ 3238) (i : HomeIdx) :
    d.add span i (.window 0) = d.put i (.window 0) := by
  have used := h.used_le span
  have count := d.count_le
  refine if_pos ?_
  have room : PGrant.space (.window 0) - d.spaceAt i ≤ d.left span := by
    simp only [PGrant.space, Draft.left, quantaPerRound]
    omega
  have free : d.slot i = true := by simp [Draft.slot]; omega
  simp [room, free]

theorem Draft.PollsOnly.put (h : d.PollsOnly) (i : HomeIdx) : (d.put i (.window 0)).PollsOnly := by
  intro j g hj
  rw [Draft.get_put] at hj
  split at hj
  · simpa using hj.symm
  · exact h j g hj

theorem Draft.pollsOnly_empty : Draft.empty.PollsOnly := fun i g h => by simp [Draft.get_empty] at h

/-- Polls are given to the homes of a list that a test names, one after the other, where the home has none. -/
theorem Draft.PollsOnly.foldl {step : Draft → HomeIdx → Draft} {asks : HomeIdx → Bool}
    (hstep : ∀ d i, d.PollsOnly → (asks i = true → step d i = d.put i (.window 0) ∨ (step d i = d ∧ (d.get i).isSome))
      ∧ (asks i = false → step d i = d))
    (l : List HomeIdx) (h : d.PollsOnly) :
    (l.foldl step d).PollsOnly ∧
      ∀ i, ((l.foldl step d).get i).isSome = ((d.get i).isSome || decide (i ∈ l) && asks i) := by
  induction l generalizing d with
  | nil => exact ⟨h, fun i => by simp⟩
  | cons k l ih =>
    have once : (step d k).PollsOnly ∧
        ∀ i, ((step d k).get i).isSome = ((d.get i).isSome || decide (i = k) && asks i) := by
      cases ha : asks k with
      | false =>
        rw [(hstep d k h).2 ha]
        refine ⟨h, fun i => ?_⟩
        rcases eq_or_ne i k with rfl | ne
        · simp [ha]
        · simp [ne]
      | true =>
        rcases (hstep d k h).1 ha with e | ⟨e, some⟩ <;> rw [e]
        · refine ⟨h.put k, fun i => ?_⟩
          rw [Draft.get_put]
          rcases eq_or_ne i k with rfl | ne
          · simp [ha]
          · simp [ne]
        · refine ⟨h, fun i => ?_⟩
          rcases eq_or_ne i k with rfl | ne
          · simp [ha, some]
          · simp [ne]
    obtain ⟨polls, got⟩ := ih once.1
    refine ⟨polls, fun i => ?_⟩
    rw [List.foldl_cons, got, once.2]
    rcases eq_or_ne i k with rfl | ne
    · cases (d.get i).isSome <;> cases asks i <;> simp
    · simp [ne]

/-- After step 2 exactly the homes whose balance stands at 8 hold a poll. -/
theorem forced_polls (hs : span ≤ 3238) :
    (allIdx.foldl (stepForced homes span) Draft.empty).PollsOnly ∧
      ∀ i, ((allIdx.foldl (stepForced homes span) Draft.empty).get i).isSome = forcedPoll (homes[i.val]).entry := by
  obtain ⟨polls, got⟩ := Draft.PollsOnly.foldl (step := stepForced homes span)
    (asks := fun i => forcedPoll (homes[i.val]).entry)
    (fun d i h => ⟨fun e => .inl (by rw [stepForced, if_pos e, h.add_eq hs]), fun e => by simp [stepForced, e]⟩)
    allIdx Draft.pollsOnly_empty
  refine ⟨polls, fun i => ?_⟩
  rw [got, Draft.get_empty]
  simp [allIdx]

/-- A home whose balance stands at 8 has a grant in the map (R87). -/
theorem fillMap_forced {sp : Option (SpanKind × Nat)} (hs : (sp.map (·.2)).getD 0 ≤ 3238) (p : HomeIdx)
    (h : forcedPoll (homes[i.val]).entry = true) : ((fillMap homes p sp).1.get i).isSome :=
  (fillMap_fills_forced p sp).isSome (((forced_polls hs).2 i).trans h)

/-! ### The laid-out map (R73) -/

theorem mem_insertGrant {x y : Grant} {l : List Grant} : x ∈ insertGrant y l ↔ x = y ∨ x ∈ l := by
  induction l with
  | nil => simp [insertGrant]
  | cons a l ih =>
    unfold insertGrant
    split
    · simp
    · simp only [List.mem_cons, ih]
      tauto

theorem mem_rangingGrants {x : Grant} :
    x ∈ rangingGrants d ↔
      ∃ s, d.get x.index = some (.ranging s) ∧
        x = { kind := .ranging, index := x.index, start := s, length := 24 } := by
  unfold rangingGrants
  rw [List.mem_filterMap]
  constructor
  · rintro ⟨i, -, h⟩
    split at h
    · cases h
      exact ⟨_, ‹_›, rfl⟩
    · cases h
  · rintro ⟨s, h, e⟩
    refine ⟨x.index, List.mem_finRange _, ?_⟩
    rw [h, e]

/-- The grants that are laid among the spans, by what their homes hold. -/
theorem layAll_spec (d : Draft) (l : List HomeIdx) (cursor : Nat) (spans : List Nat) :
    (∀ x ∈ layAll d l cursor spans, x.index ∈ l ∧ ∃ g, d.get x.index = some g ∧ x.kind = g.kind ∧ ∀ s, g ≠ .ranging s)
    ∧ ∀ i ∈ l, ∀ g, d.get i = some g → (∀ s, g ≠ .ranging s) →
        ∃ x ∈ layAll d l cursor spans, x.index = i ∧ x.kind = g.kind := by
  induction l generalizing cursor spans with
  | nil => simp [layAll]
  | cons k l ih =>
    unfold layAll
    split
    · rename_i none
      obtain ⟨into, out⟩ := ih cursor spans
      refine ⟨fun x hx => ?_, fun i hi g hg hr => ?_⟩
      · exact ⟨List.mem_cons_of_mem _ (into x hx).1, (into x hx).2⟩
      · rcases List.mem_cons.mp hi with rfl | hi
        · simp [none] at hg
        · exact out i hi g hg hr
    · rename_i s ranging
      obtain ⟨into, out⟩ := ih cursor spans
      refine ⟨fun x hx => ?_, fun i hi g hg hr => ?_⟩
      · exact ⟨List.mem_cons_of_mem _ (into x hx).1, (into x hx).2⟩
      · rcases List.mem_cons.mp hi with rfl | hi
        · obtain rfl : g = .ranging s := by simpa [ranging] using hg.symm
          exact absurd rfl (hr s)
        · exact out i hi g hg hr
    · rename_i g notRanging some
      dsimp only
      obtain ⟨into, out⟩ := ih (lay (g.kind == .data) g.windowLength cursor spans).cursor
        (lay (g.kind == .data) g.windowLength cursor spans).spans
      refine ⟨fun x hx => ?_, fun i hi g' hg hr => ?_⟩
      · rcases List.mem_cons.mp hx with rfl | hx
        · exact ⟨List.mem_cons_self, g, some, rfl, fun s e => notRanging s e⟩
        · exact ⟨List.mem_cons_of_mem _ (into x hx).1, (into x hx).2⟩
      · rcases List.mem_cons.mp hi with rfl | hi
        · obtain rfl : g' = g := by simpa [some] using hg.symm
          exact ⟨_, List.mem_cons_self, rfl, rfl⟩
        · obtain ⟨x, hx, h⟩ := out i hi g' hg hr
          exact ⟨x, List.mem_cons_of_mem _ hx, h⟩

theorem mem_foldr_insertGrant {x : Grant} {l m : List Grant} : x ∈ l.foldr insertGrant m ↔ x ∈ l ∨ x ∈ m := by
  induction l with
  | nil => simp
  | cons a l ih => rw [List.foldr_cons, mem_insertGrant, ih, List.mem_cons, or_assoc]

/-- A grant of the laid-out map is the grant that its home holds in the draft. -/
theorem layout_sound {x : Grant} (h : x ∈ layout d span) : ∃ g, d.get x.index = some g ∧ x.kind = g.kind := by
  rcases mem_foldr_insertGrant.mp h with h | h
  · obtain ⟨s, hs, e⟩ := mem_rangingGrants.mp h
    exact ⟨_, hs, by rw [e]; rfl⟩
  · obtain ⟨-, g, hg, hk, -⟩ := (layAll_spec d allIdx span d.spans).1 x h
    exact ⟨g, hg, hk⟩

/-- Every grant of the draft is laid out. -/
theorem layout_complete (h : d.get i = some g) : ∃ x ∈ layout d span, x.index = i ∧ x.kind = g.kind := by
  by_cases hr : ∃ s, g = .ranging s
  · obtain ⟨s, rfl⟩ := hr
    refine ⟨{ kind := .ranging, index := i, start := s, length := 24 }, ?_, rfl, rfl⟩
    exact mem_foldr_insertGrant.mpr (.inl (mem_rangingGrants.mpr ⟨s, h, rfl⟩))
  · obtain ⟨x, hx, e⟩ := (layAll_spec d allIdx span d.spans).2 i (List.mem_finRange i) g h fun s e => hr ⟨s, e⟩
    exact ⟨x, mem_foldr_insertGrant.mpr (.inr hx), e⟩

end Sys2Proof.Machine

/-! The shared operations as moves (R7 to R13, R42, R79, R80, R139, R172): those that keep every home in its state, and
the departures. -/

namespace Sys2Proof.Machine

open Sys2Proof

variable {s t u : State} {i : HomeIdx}

/-! ### Operations that change no home -/

theorem State.keeps_bump (s : State) (c : Counter) : s.Keeps (s.bump c) :=
  .quiet rfl rfl rfl (.of_eq rfl rfl rfl rfl rfl)

theorem State.keeps_post (s : State) (m : OutMsg) : s.Keeps (s.post m) :=
  .quiet rfl rfl rfl (.of_eq rfl rfl rfl rfl rfl)

theorem State.keeps_raise (s : State) (n : Notice) : s.Keeps (s.raise n) := by
  unfold State.raise
  split
  · exact (s.keeps_post _).trans (State.keeps_bump ..)
  · exact s.keeps_bump _

theorem State.keeps_sendPeer (s : State) (m : OutMsg) : s.Keeps (s.sendPeer m) := by
  unfold State.sendPeer
  split
  · exact s.keeps_post m
  · exact s.keeps_bump _

/-- A change of the port, the frames, the light monitor, the planner, the discovery timer, the ring and the model's own
fields. -/
theorem State.keeps_outside (s t : State)
    (h : t = { s with
      enrol := t.enrol, planner := t.planner, framer := t.framer, light := t.light, ring := t.ring
      toSwitch := t.toSwitch, bus := t.bus, waited := t.waited, counters := t.counters, restarts := t.restarts
      pending := t.pending }) : s.Keeps t := by
  rw [h]
  exact .quiet rfl rfl rfl (.of_eq rfl rfl rfl rfl rfl)

theorem State.keeps_flagRecord (s : State) (i : HomeIdx) (f : RecFlags → RecFlags) : s.Keeps (s.flagRecord i f) := by
  have live : (s.flagRecord i f).banks.live.isSome = s.banks.live.isSome := by
    simpa using congrArg Option.isSome (s.flagRecord_keeps_plan i f).2
  refine .quiet (by simp) (by simp) (by simp) ⟨by simp, by simp, live, fun j => ?_, by simp, by simp⟩
  rw [State.liveRecord_flagRecord]
  split
  · subst j
    cases s.liveRecord i <;> rfl
  · rfl

/-- The rogue monitor's fields beside the candidate set. -/
theorem State.keeps_rogue (s : State) (r : Rogue) (h : r.iso.cands = s.rogue.iso.cands) :
    s.Keeps { s with rogue := r } :=
  .of_same_homes rfl (fun _ => id) h (.of_eq rfl rfl rfl rfl rfl)

/-- Banks that keep the tags of the Live records. -/
theorem State.keeps_banks (s : State) (b : Banks) (live : b.live.isSome = s.banks.live.isSome)
    (tags : ∀ i : HomeIdx, ((b.live.bind fun l => l.records[i.val]).map (·.tag)) = (s.liveRecord i).map (·.tag)) :
    s.Keeps { s with banks := b } :=
  .quiet rfl rfl rfl ⟨rfl, rfl, live, tags, fun _ => id, fun _ => rfl⟩

theorem State.keeps_otherBank (s : State) (b : Banks) (live : b.live = s.banks.live) : s.Keeps { s with banks := b } :=
  s.keeps_banks b (by rw [live]) (fun i => by rw [live]; rfl)

/-! ### What the blocks keep for an index -/

section
variable {h : Home} {target doze : Nat}

theorem Home.keeps_marker (h : Home) (m : Marker) : h.Keeps target doze { h with marker := m } :=
  .of_state (fun hl => { hl with }) rfl rfl rfl

theorem Home.keeps_retest (h : Home) (r : Retest) (hr : r = .idle ∨ h.entry.state = .active) :
    h.Keeps target doze { h with retest := r } :=
  .of_state (fun hl => { hl with retest := fun ne => hr.resolve_left ne }) rfl rfl rfl

theorem Home.keeps_inPlace (h : Home) (r : InPlace)
    (hr : r = .idle ∨ h.entry.state.measured ∧ h.entry.state ≠ .testing) :
    h.Keeps target doze { h with inPlace := r } :=
  .of_state (fun hl => { hl with inPlace := fun ne => hr.resolve_left ne }) rfl rfl rfl

theorem Home.keeps_keptWake (h : Home) (k : Bool) (hk : k = true → h.entry.state = .active) :
    h.Keeps target doze { h with keptWake := k } :=
  .of_state (fun hl => { hl with keptWake := hk }) rfl rfl rfl

theorem Home.keeps_progress (h : Home) (f : Progress → Progress) :
    h.Keeps target doze { h with progress := h.progress.map f } :=
  .of_state (fun hl => { hl with progress := by simpa using hl.progress }) rfl rfl rfl

/-- A change of the entry that keeps its state, tag and probe mute. -/
theorem Home.keeps_entry {e : Entry} (legal : h.Legal target doze → e.Legal target doze)
    (state : e.state = h.entry.state) (tag : e.tag = h.entry.tag) (probe : e.probe = h.entry.probe)
    (claim : e.claim = h.entry.claim) : h.Keeps target doze { h with entry := e } :=
  .of_state
    (fun hl => { hl with
      entry := legal hl
      progress := by rw [state]; exact hl.progress
      retest := by rw [state]; exact hl.retest
      inPlace := by rw [state]; exact hl.inPlace
      window := by rw [claim]; exact hl.window
      keptWake := by rw [state]; exact hl.keptWake })
    state tag probe

end

theorem State.keeps_modProgress (s : State) (i : HomeIdx) (f : Progress → Progress) : s.Keeps (s.modProgress i f) :=
  .modHome s i _ ((s.home i).keeps_progress f) (.inl rfl) rfl

theorem State.keeps_marker (s : State) (i : HomeIdx) (m : Home → Marker) :
    s.Keeps (s.modHome i fun h => { h with marker := m h }) :=
  .modHome s i _ ((s.home i).keeps_marker _) (.inl rfl) rfl

theorem State.keeps_cancelRetest (s : State) (i : HomeIdx) : s.Keeps (s.cancelRetest i) := by
  unfold State.cancelRetest
  split
  · exact .refl s
  · exact (State.Keeps.modHome s i _ ((s.home i).keeps_retest .idle (.inl rfl)) (.inl rfl) rfl).trans
      (State.keeps_raise ..)

/-- A change of one entry that keeps its state, tag, probe mute, claim, balance and share. -/
theorem State.keeps_modEntry (s : State) (i : HomeIdx) (f : Entry → Entry)
    (legal : (s.entry i).Legal s.target s.longestDoze → (f (s.entry i)).Legal s.target s.longestDoze)
    (state : (f (s.entry i)).state = (s.entry i).state) (tag : (f (s.entry i)).tag = (s.entry i).tag)
    (probe : (f (s.entry i)).probe = (s.entry i).probe) (claim : (f (s.entry i)).claim = (s.entry i).claim)
    (balance : (f (s.entry i)).balance = (s.entry i).balance) (share : (f (s.entry i)).share = (s.entry i).share) :
    s.Keeps (s.modEntry i f) :=
  .modHome s i _ (Home.keeps_entry (fun hl => legal hl.entry) state tag probe claim) (.inl balance) share

/-! ### Directives (R79, R80) -/

theorem State.keeps_framer (s : State) (f : Framer) : s.Keeps { s with framer := f } := s.keeps_outside _ rfl

theorem State.keeps_pushDirective (s : State) (d : Directive) : s.Keeps (s.pushDirective d) := by
  have queued := s.keeps_framer { s.framer with queue := s.framer.queue ++ [d] }
  cases d with
  | setDelay i n => exact queued.trans (State.keeps_marker _ i fun _ => .queued)
  | assign | leaveIndex | leaveTag | dozeGranted | wake => exact queued

theorem State.entry_modHome (s : State) (i j : HomeIdx) (f : Home → Home) :
    (s.modHome i f).entry j = if j = i then (f (s.home i)).entry else s.entry j := by
  rw [State.entry, State.home_modHome]
  split <;> rfl

@[simp] theorem State.pushDirective_entry (s : State) (d : Directive) (j : HomeIdx) :
    (s.pushDirective d).entry j = s.entry j := by
  cases d with
  | setDelay i n =>
    refine (State.entry_modHome _ i j _).trans ?_
    split
    · subst j
      rfl
    · rfl
  | assign | leaveIndex | leaveTag | dozeGranted | wake => rfl

theorem State.keeps_offerLeave (s : State) (d : Directive) : s.Keeps (s.offerLeave d) := by
  unfold State.offerLeave
  split
  · exact s.keeps_pushDirective d
  · exact s.keeps_bump _

theorem State.keeps_offerEnrol (s : State) (i : HomeIdx) (d : Directive) : s.Keeps (s.offerEnrol i d) := by
  unfold State.offerEnrol
  split
  · exact s.keeps_pushDirective d
  · exact (s.keeps_modProgress i _).trans (State.keeps_bump ..)

/-- A Wake is kept for an Active home alone. -/
theorem State.keeps_offerWake (s : State) (i : HomeIdx) (h : (s.entry i).state = .active) :
    s.Keeps (s.offerWake i) := by
  unfold State.offerWake
  split
  · exact s.keeps_pushDirective _
  · exact (State.Keeps.modHome s i _ ((s.home i).keeps_keptWake true fun _ => h) (.inl rfl) rfl).trans
      (State.keeps_bump ..)

theorem Entry.Legal.withDelay {e : Entry} {target doze n : Nat} (he : e.Legal target doze) (h : e.state.measured)
    (hn : n ≤ target) : ({ e with delay := some n } : Entry).Legal target doze :=
  { he with
    delay := fun _ => rfl
    noDelay := fun (bare : e.state = .vacant ∨ e.state = .ranging) => by
      rcases bare with bare | bare <;> rw [bare] at h <;> cases h
    delayRange := fun d hd => by cases hd; exact hn }

/-- A corrected D is within T_target, and its home is one that has a D. -/
theorem State.keeps_offerCorrection (s : State) (i : HomeIdx) (n : Nat)
    (h : (s.home i).Legal s.target s.longestDoze → (s.entry i).state.measured) (hn : n ≤ s.target) :
    s.Keeps (s.offerCorrection i n) := by
  unfold State.offerCorrection
  split
  · have queues : s.Keeps { s with framer := { s.framer with queue := s.framer.queue ++ [.setDelay i n] } } :=
      s.keeps_framer _
    refine queues.trans (.of_homes (fun j => ?_) (fun j => .inl ?_) (fun j => ?_) rfl rfl (.of_eq rfl rfl rfl rfl rfl))
    all_goals
      simp only [State.entry, State.home_modEntry, State.pushDirective, State.home_modHome]
      by_cases e : j = i
    · subst e
      simp only [if_true]
      exact .of_state (fun hl => { hl with entry := hl.entry.withDelay (h hl) hn }) rfl rfl rfl
    · simp only [if_neg e]
      exact .refl ..
    · subst e
      simp
    · simp only [if_neg e]
    · subst e
      simp
    · simp only [if_neg e]
  · exact s.keeps_bump _

/-! ### Moves that stay in service or in enrolment (R10, R11, R12) -/

section
variable {h : Home} {target doze : Nat}

theorem Entry.Legal.dozed {e : Entry} (he : e.Legal target doze) (hs : e.state = .active) {n : Nat} (hn : n ≤ doze) :
    (e.dozed n).Legal target doze where
  tag := he.tag.trans (by rw [hs]; rfl)
  delay _ := he.delay (by rw [hs]; rfl)
  noDelay h := by rcases h with h | h <;> cases h
  delayRange := he.delayRange
  level _ := he.level (by rw [hs]; rfl)
  noLevel h := by rcases h with h | h <;> cases h
  levelRange := he.levelRange
  share := he.share
  weight := he.weight
  balance := he.balance
  backlog := he.backlog.trans (by rw [hs]; rfl)
  backlogRange := he.backlogRange
  miss := he.miss
  score := he.score
  claim := he.claim.trans (by rw [hs]; rfl)
  wish := rfl
  dozeLeft := rfl
  dozeRange m h := by cases h; exact hn
  probe _ := rfl
  mute := he.mute.trans (by rw [hs]; rfl)
  retire := he.retire.trans (by rw [hs]; rfl)

theorem Entry.Legal.woken {e : Entry} (he : e.Legal target doze) (hs : e.state = .dozing) :
    e.woken.Legal target doze where
  tag := he.tag.trans (by rw [hs]; rfl)
  delay _ := he.delay (by rw [hs]; rfl)
  noDelay h := by rcases h with h | h <;> cases h
  delayRange := he.delayRange
  level _ := he.level (by rw [hs]; rfl)
  noLevel h := by rcases h with h | h <;> cases h
  levelRange := he.levelRange
  share := he.share
  weight := he.weight
  balance := by simp [Entry.woken]
  backlog := he.backlog.trans (by rw [hs]; rfl)
  backlogRange := he.backlogRange
  miss := he.miss
  score := he.score
  claim := he.claim.trans (by rw [hs]; rfl)
  wish := rfl
  dozeLeft := rfl
  dozeRange _ h := by cases h
  probe _ := rfl
  mute := he.mute.trans (by rw [hs]; rfl)
  retire := he.retire.trans (by rw [hs]; rfl)

theorem Entry.Legal.released {e : Entry} (he : e.Legal target doze) (hs : e.state = .muted) :
    e.released.Legal target doze where
  tag := he.tag.trans (by rw [hs]; rfl)
  delay _ := he.delay (by rw [hs]; rfl)
  noDelay h := by rcases h with h | h <;> cases h
  delayRange := he.delayRange
  level _ := he.level (by rw [hs]; rfl)
  noLevel h := by rcases h with h | h <;> cases h
  levelRange := he.levelRange
  share := he.share
  weight := he.weight
  balance := by simp [Entry.released]
  backlog := rfl
  backlogRange n h := by cases h; decide
  miss := Nat.zero_le _
  score := Nat.zero_le _
  claim := he.claim.trans (by rw [hs]; rfl)
  wish := rfl
  dozeLeft := he.dozeLeft.trans (by rw [hs]; rfl)
  dozeRange := he.dozeRange
  probe _ := rfl
  mute := rfl
  retire := he.retire.trans (by rw [hs]; rfl)

theorem Entry.Legal.tested {e : Entry} (he : e.Legal target doze) (hs : e.state = .ranging) {d : Nat}
    (hd : d ≤ target) :
    (e.tested d).Legal target doze where
  tag := he.tag.trans (by rw [hs]; rfl)
  delay _ := rfl
  noDelay h := by rcases h with h | h <;> cases h
  delayRange n h := by cases h; exact hd
  level _ := rfl
  noLevel h := by rcases h with h | h <;> cases h
  levelRange n h := by cases h; decide
  share := he.share
  weight := he.weight
  balance := he.balance
  backlog := he.backlog.trans (by rw [hs]; rfl)
  backlogRange := he.backlogRange
  miss := he.miss
  score := he.score
  claim := he.claim.trans (by rw [hs]; rfl)
  wish := he.wish.trans (by rw [hs]; rfl)
  dozeLeft := he.dozeLeft.trans (by rw [hs]; rfl)
  dozeRange := he.dozeRange
  probe h := by have := he.probe h; rw [hs] at this; exact this
  mute := he.mute.trans (by rw [hs]; rfl)
  retire := he.retire.trans (by rw [hs]; rfl)

theorem Entry.Legal.reranged {e : Entry} (he : e.Legal target doze) (hs : e.state = .testing) :
    e.reranged.Legal target doze where
  tag := he.tag.trans (by rw [hs]; rfl)
  delay h := by cases h
  noDelay _ := rfl
  delayRange _ h := by cases h
  level h := by cases h
  noLevel _ := rfl
  levelRange _ h := by cases h
  share := he.share
  weight := he.weight
  balance := he.balance
  backlog := he.backlog.trans (by rw [hs]; rfl)
  backlogRange := he.backlogRange
  miss := he.miss
  score := he.score
  claim := he.claim.trans (by rw [hs]; rfl)
  wish := he.wish.trans (by rw [hs]; rfl)
  dozeLeft := he.dozeLeft.trans (by rw [hs]; rfl)
  dozeRange := he.dozeRange
  probe h := by have := he.probe h; rw [hs] at this; exact this
  mute := he.mute.trans (by rw [hs]; rfl)
  retire := he.retire.trans (by rw [hs]; rfl)

theorem Entry.Legal.heldAt {e : Entry} (he : e.Legal target doze) (hs : e.state = .testing) {l : Nat} (hl : l ≤ 255) :
    (e.heldAt l).Legal target doze where
  tag := he.tag.trans (by rw [hs]; rfl)
  delay _ := he.delay (by rw [hs]; rfl)
  noDelay h := by rcases h with h | h <;> cases h
  delayRange := he.delayRange
  level _ := rfl
  noLevel h := by rcases h with h | h <;> cases h
  levelRange n h := by cases h; exact hl
  share := he.share
  weight := he.weight
  balance := he.balance
  backlog := he.backlog.trans (by rw [hs]; rfl)
  backlogRange := he.backlogRange
  miss := he.miss
  score := he.score
  claim := he.claim.trans (by rw [hs]; rfl)
  wish := he.wish.trans (by rw [hs]; rfl)
  dozeLeft := he.dozeLeft.trans (by rw [hs]; rfl)
  dozeRange := he.dozeRange
  probe h := by have := he.probe h; rw [hs] at this; cases this
  mute := he.mute.trans (by rw [hs]; rfl)
  retire := he.retire.trans (by rw [hs]; rfl)

/-- A move within service: the home keeps its claim, its window and its place among the candidates. -/
theorem Home.keeps_served {k : Home} (legal : h.Legal target doze → k.entry.Legal target doze)
    (from_service : h.entry.state.inService) (to_service : k.entry.state.inService)
    (candidate : h.entry.state.candidate → k.entry.state.candidate)
    (tag : k.entry.tag = h.entry.tag) (probe : k.entry.probe = h.entry.probe) (claim : k.entry.claim = h.entry.claim)
    (progress : k.progress = h.progress) (retest : k.retest ≠ .idle → h.Legal target doze → k.entry.state = .active)
    (window : k.window = h.window) (kept : k.keptWake → h.Legal target doze → k.entry.state = .active) :
    h.Keeps target doze k where
  legal hl := {
    entry := legal hl
    progress := by
      rw [progress, hl.progress]
      revert from_service to_service
      cases h.entry.state <;> cases k.entry.state <;> simp [EState.inService, EState.enrolling]
    retest := fun ne => retest ne hl
    inPlace := fun ne => by
      revert to_service
      cases k.entry.state <;> simp [EState.inService, EState.measured]
    window := by rw [window, claim, hl.window]
    keptWake := fun e => kept e hl }
  tag := tag
  vacant := by
    revert from_service to_service
    cases h.entry.state <;> cases k.entry.state <;> simp [EState.inService]
  service := by rw [from_service, to_service]
  enrolling := by
    revert from_service to_service
    cases h.entry.state <;> cases k.entry.state <;> simp [EState.inService, EState.enrolling]
  candidate := candidate
  probe := probe

/-- A move within enrolment, toward or away from Held. -/
theorem Home.keeps_enrolling {k : Home} (legal : h.Legal target doze → k.entry.Legal target doze)
    (old : h.entry.state = .ranging ∨ h.entry.state = .testing) (new : k.entry.state.enrolling)
    (tag : k.entry.tag = h.entry.tag) (probe : k.entry.probe = h.entry.probe) (claim : k.entry.claim = h.entry.claim)
    (progress : k.progress.isSome = h.progress.isSome) (retest : k.retest = h.retest)
    (inPlace : k.inPlace = h.inPlace) (window : k.window = h.window) (kept : k.keptWake = h.keptWake) :
    h.Keeps target doze k where
  legal hl := {
    entry := legal hl
    progress := by rw [progress, hl.progress, new]; rcases old with e | e <;> rw [e] <;> rfl
    retest := fun ne => by
      have := hl.retest (by rwa [← retest])
      rcases old with e | e <;> rw [e] at this <;> cases this
    inPlace := fun ne => by
      have := hl.inPlace (by rwa [← inPlace])
      rcases old with e | e <;> rw [e] at this
      · cases this.1
      · exact absurd rfl this.2
    window := by rw [window, claim, hl.window]
    keptWake := fun e => by
      have := hl.keptWake (by rwa [← kept])
      rcases old with e | e <;> rw [e] at this <;> cases this }
  tag := tag
  vacant := by
    revert old new
    cases h.entry.state <;> cases k.entry.state <;> simp [EState.enrolling]
  service := by
    revert old new
    cases h.entry.state <;> cases k.entry.state <;> simp [EState.enrolling, EState.inService]
  enrolling := by rw [new]; rcases old with e | e <;> rw [e] <;> rfl
  candidate := by rcases old with e | e <;> rw [e] <;> exact fun h => by cases h
  probe := probe

end

theorem State.cancelRetest_self (s : State) (i : HomeIdx) :
    (s.cancelRetest i).home i = { s.home i with retest := .idle } := by
  unfold State.cancelRetest
  split
  · rename_i e
    rw [← e]
  · rw [State.home_congr (State.raise_homes ..)]
    simp

theorem State.keeps_dozeHome (s : State) (i : HomeIdx) {n : Nat} (h : (s.entry i).state = .active)
    (hn : n ≤ s.longestDoze) : s.Keeps (s.dozeHome i n) := by
  have cancel := s.keeps_cancelRetest i
  have entry : (s.cancelRetest i).entry i = s.entry i := s.cancelRetest_entry i i
  have state : ((s.cancelRetest i).home i).entry.state = .active := (congrArg Entry.state entry).trans h
  refine cancel.trans (.modHome _ i _ ?_ (.inl rfl) rfl)
  refine Home.keeps_served (fun hl => hl.entry.dozed state (by rw [cancel.around.longestDoze]; exact hn))
    (by rw [state]; rfl) rfl (fun _ => rfl) rfl rfl rfl rfl (fun ne => ?_) rfl (fun e => by cases e)
  exact absurd (congrArg Home.retest (s.cancelRetest_self i)) ne

theorem State.keeps_wakeHome (s : State) (i : HomeIdx) (h : (s.entry i).state = .dozing) :
    s.Keeps (s.wakeHome i) := by
  refine State.Keeps.trans (t := s.modEntry i Entry.woken) (.modHome s i _ ?_ (.inr (by simp [Entry.woken])) rfl)
    (State.keeps_offerWake _ i ?_)
  · refine Home.keeps_served (fun hl => hl.entry.woken h) ?_ rfl (fun _ => rfl) rfl rfl rfl rfl (fun _ _ => rfl) rfl
      fun _ _ => rfl
    rw [show (s.home i).entry.state = .dozing from h]
    rfl
  · rw [State.entry, State.home_modEntry, if_pos rfl]
    rfl

theorem State.keeps_released (s : State) (i : HomeIdx) (h : (s.entry i).state = .muted) :
    s.Keeps (s.modEntry i Entry.released) := by
  refine .modHome s i _ ?_ (.inr (by simp [Entry.released])) rfl
  refine Home.keeps_served (fun hl => hl.entry.released h) ?_ rfl (fun _ => rfl) rfl rfl rfl rfl (fun _ _ => rfl) rfl
    fun _ _ => rfl
  rw [show (s.home i).entry.state = .muted from h]
  rfl

/-! ### Departures -/

theorem State.Runs.keeps (h : s.Runs t) (k : t.Keeps u) : s.Runs u := h.tail (.keeps k)

theorem State.Keeps.then (k : s.Keeps t) (h : t.Runs u) : s.Runs u := .head (.keeps k) h

/-- A departure that bars no tag. -/
theorem State.runs_departs {q : RetireReason} {l : Option Directive} (hd : s.Departs t i q l)
    (hv : (s.entry i).state ≠ .vacant) (hr : (s.entry i).state ≠ .retired) (bars : t.bars = s.bars) : s.Runs t :=
  .single (.depart hd hv hr fun x hx => .inl (by simpa [State.barred, bars] using hx))

theorem State.runs_retire (s : State) (i : HomeIdx) (q : RetireReason) (r : Round)
    (h : (s.entry i).state.inService) : s.Runs (s.retire i q r) :=
  State.runs_departs (s.departs_retire i q r (.inl h)) (by intro e; simp [e, EState.inService] at h)
    (by intro e; simp [e, EState.inService] at h) (by simp)

theorem EState.enrolling_spec {x : EState} (h : x.enrolling = true) :
    x ≠ .vacant ∧ x ≠ .retired ∧ x.inService = false := by
  revert h
  cases x <;> simp [EState.enrolling, EState.inService]

theorem State.runs_leaveFor (s : State) (i : HomeIdx) (q : RetireReason) (r : Round)
    (h : (s.entry i).state.enrolling) : s.Runs (s.leaveFor i q r) :=
  have ⟨hv, hr, hs⟩ := EState.enrolling_spec h
  State.runs_departs (s.departs_leaveFor i q r (.inl hs)) hv hr (by simp)

theorem State.runs_endEnrolment (s : State) (i : HomeIdx) (q : RetireReason) (r : Round)
    (h : (s.entry i).state.enrolling) : s.Runs (s.endEnrolment i q r) :=
  (s.runs_leaveFor i q r h).keeps (State.keeps_offerLeave ..)

theorem State.runs_failEnrolment (s : State) (i : HomeIdx) (q : RetireReason) (why : EnrolReason) (r : Round)
    (h : (s.entry i).state.enrolling) : s.Runs (s.failEnrolment i q why r) :=
  (s.runs_endEnrolment i q r h).keeps (State.keeps_raise ..)

/-! ### Isolation (R133, R142) -/

theorem State.runs_endUnresolved (s : State) (q : UnresolvedReason) (r : Round) (k : Nat) (left : List HomeIdx) :
    s.Runs (s.endUnresolved q r k left) := by
  let released : State :=
    { (s.setProbes []).clearStreaks with rogue := { (s.setProbes []).clearStreaks.rogue with iso := .backoff 2000 } }
  have release : s.Move released :=
    .probes (muted := []) (l := none) rfl rfl (.of_eq rfl rfl rfl rfl rfl) rfl (by simp) (by simp)
  exact State.Runs.keeps (.single release) ((released.keeps_bump .rogueUnresolved).trans (State.keeps_raise _ _))

end Sys2Proof.Machine

/-! The usage meter and the rogue monitor as moves (chapters 7 and 8). -/

namespace Sys2Proof.Machine

open Sys2Proof

variable {s t u : State} {i : HomeIdx}

theorem State.Runs.foldl {α : Type} {f : State → α → State} (h : ∀ (s : State) a, s.Runs (f s a)) (l : List α)
    (s : State) :
    s.Runs (l.foldl f s) := by
  induction l generalizing s with
  | nil => exact .refl
  | cons a l ih => exact (h s a).trans (ih _)

theorem State.Keeps.foldl {α : Type} {f : State → α → State} (h : ∀ (s : State) a, s.Keeps (f s a)) (l : List α)
    (s : State) :
    s.Keeps (l.foldl f s) := by
  induction l generalizing s with
  | nil => exact .refl s
  | cons a l ih => exact (h s a).trans (ih _)

theorem State.Keeps.ite {c : Prop} [Decidable c] (h : s.Keeps t) (k : s.Keeps u) : s.Keeps (if c then t else u) := by
  split
  · exact h
  · exact k

theorem State.keeps_of_rogue (h : t = { s with rogue := t.rogue }) (hc : t.rogue.iso.cands = s.rogue.iso.cands) :
    s.Keeps t := by
  rw [h]
  exact s.keeps_rogue t.rogue hc

/-- A counter that moves on a condition. -/
theorem State.keeps_bump_if (s : State) (c : Prop) [Decidable c] (k : Counter) :
    s.Keeps (if c then s.bump k else s) :=
  .ite (s.keeps_bump k) (.refl s)

theorem State.Keeps.bump_if {c : Prop} [Decidable c] (h : s.Keeps t) (k : Counter) :
    s.Keeps (if c then t.bump k else t) :=
  h.trans (t.keeps_bump_if c k)

/-! ### The usage meter (chapter 8) -/

/-- A Live record that changes keeps its tag. -/
theorem State.keeps_setRecord {l : LiveBank} {r q : UsageRecord} (hl : s.banks.live = some l)
    (hr : l.records[i.val] = some r) (tag : q.tag = r.tag) :
    s.Keeps { s with banks := { s.banks with
      live := some { l with records := l.records.set i.val (some q) i.isLt } } } := by
  refine s.keeps_banks _ (by simp [hl]) fun j => ?_
  rcases eq_or_ne j i with rfl | ne
  · simp [State.liveRecord, hl, hr, tag]
  · have : i.val ≠ j.val := fun v => ne (Fin.ext v.symm)
    simp [State.liveRecord, hl, this]

theorem State.keeps_countBytes (s : State) (i : HomeIdx) (upward : Bool) (n : Nat) :
    s.Keeps (s.countBytes i upward n) := by
  unfold State.countBytes
  split
  · rename_i l band hl _
    split
    · exact .refl s
    · rename_i r hr
      exact (State.keeps_setRecord hl hr (by cases upward <;> rfl)).trans (State.keeps_bump_if ..)
  · exact .refl s

theorem State.keeps_startWaiting (s : State) : s.Keeps s.startWaiting := by
  rw [State.startWaiting_frame]
  exact s.keeps_framer _

theorem State.keeps_takePayload (s : State) (i : HomeIdx) (payload : List Byte) (n : Nat) :
    s.Keeps (s.takePayload i payload n) := by
  unfold State.takePayload
  exact ((s.keeps_outside { s with toSwitch := s.toSwitch ++ _ } rfl).trans (State.keeps_bump_if ..)).trans
    (State.keeps_countBytes ..)

theorem State.keeps_advanceRing (s : State) : s.Keeps s.advanceRing := by
  unfold State.advanceRing
  split
  · split
    · exact s.keeps_outside _ rfl
    · exact .refl s
  · exact .refl s

theorem State.keeps_tickRing (s : State) : s.Keeps s.tickRing := by
  unfold State.tickRing
  split
  · exact s.keeps_outside _ rfl
  · exact .refl s

/-! ### Isolation (R130 to R142) -/

/-- An abandoned entry departs. -/
theorem State.runs_abandon (s : State) (r : Round) (i : HomeIdx) : s.Runs (s.abandon r i) := by
  unfold State.abandon
  split
  · rename_i e
    exact s.runs_failEnrolment i _ _ r (by rw [e]; rfl)
  · rename_i e
    exact s.runs_failEnrolment i _ _ r (by rw [e]; rfl)
  · exact .refl

theorem State.departs_failEnrolment (s : State) (i : HomeIdx) (q : RetireReason) (why : EnrolReason) (r : Round)
    (h : (s.entry i).state.inService = false ∨ (s.liveRecord i).isSome) :
    s.Departs (s.failEnrolment i q why r) i q (some ((s.entry i).leaveDirective i)) :=
  (s.departs_endEnrolment i q r h).raise _

/-- While isolation is not in progress, an abandoned entry leaves the others and isolation alone. -/
theorem State.abandon_frame (hp : s.rogue.iso.cands = none) (r : Round) (i : HomeIdx) :
    (s.abandon r i).rogue = s.rogue ∧
      ∀ j, (s.entry j).state.candidate → (s.abandon r i).home j = s.home j := by
  have idle (p : Probe) (e : s.rogue.iso = .probing p) : i ∉ p.cands := by simp [e, Isolation.cands] at hp
  have departs (hs : (s.entry i).state.inService = false) (hc : (s.entry i).state.candidate = false) :
      (s.failEnrolment i .lost .abandoned r).rogue = s.rogue ∧
        ∀ j, (s.entry j).state.candidate → (s.failEnrolment i .lost .abandoned r).home j = s.home j := by
    obtain ⟨rogue, homes⟩ := (s.departs_failEnrolment i .lost .abandoned r (.inl hs)).stays idle
    exact ⟨rogue, fun j hj => homes j (by rintro rfl; simp [hc] at hj)⟩
  unfold State.abandon
  split
  · rename_i e
    exact departs (by rw [e]; rfl) (by rw [e]; rfl)
  · rename_i e
    exact departs (by rw [e]; rfl) (by rw [e]; rfl)
  · exact ⟨rfl, fun _ _ => rfl⟩

theorem State.abandon_all_frame (hp : s.rogue.iso.cands = none) (r : Round) (l : List HomeIdx) :
    (l.foldl (fun s i => s.abandon r i) s).rogue = s.rogue ∧
      ∀ j, (s.entry j).state.candidate → (l.foldl (fun s i => s.abandon r i) s).home j = s.home j := by
  induction l generalizing s with
  | nil => exact ⟨rfl, fun _ _ => rfl⟩
  | cons i l ih =>
    obtain ⟨rogue, homes⟩ := State.abandon_frame hp r i
    obtain ⟨rogue', homes'⟩ := ih (s := s.abandon r i) (by rw [rogue, hp])
    refine ⟨rogue'.trans rogue, fun j hj => ?_⟩
    have same := homes j hj
    exact (homes' j (by rw [State.entry, same]; exact hj)).trans same

theorem State.candidates_rising (s : State) : s.candidates.Pairwise (· < ·) :=
  (List.pairwise_lt_finRange 64).filter _

theorem State.mem_candidates (s : State) (i : HomeIdx) : i ∈ s.candidates ↔ (s.entry i).state.candidate = true := by
  simp [State.candidates, allIdx]

theorem State.runs_startIsolation (hp : s.rogue.iso.cands = none) (r : Round) : s.Runs (s.startIsolation r) := by
  unfold State.startIsolation
  dsimp only
  have begun : s.Keeps (s.bump .isolationRun).clearStreaks :=
    (s.keeps_bump _).trans (State.keeps_rogue _ { (s.bump .isolationRun).rogue with dirty := 0, clean := 0 } rfl)
  have frame := State.abandon_all_frame (s := (s.bump .isolationRun).clearStreaks) (by exact hp) r allIdx
  have runs := begun.then (State.Runs.foldl (fun s i => s.runs_abandon r i) allIdx _)
  generalize allIdx.foldl (fun s i => s.abandon r i) (s.bump .isolationRun).clearStreaks = v at frame runs
  split
  · exact runs.trans (v.runs_endUnresolved ..)
  · rename_i ne
    refine runs.tail (.probes (muted := s.candidates) (l := some s.candidates) rfl rfl (.of_eq rfl rfl rfl rfl rfl) rfl
      (fun i hi => ⟨_, rfl, hi⟩) fun c e => ?_)
    cases e
    refine ⟨by simpa using ne, fun _ => ⟨s.candidates_rising, fun i hi => ?_⟩⟩
    have state := (s.mem_candidates i).mp hi
    rw [State.entry, frame.2 i state]
    exact state

theorem State.runs_beginStep {p : Probe} (hp : s.rogue.iso = .probing p) {c muted : List HomeIdx}
    (sub : c.Sublist p.cands) (ne : c ≠ []) (within : muted ⊆ c) (k : Nat) (step : IsoStep) :
    s.Runs (s.beginStep k step c muted) := by
  unfold State.beginStep
  refine .single (.probes (muted := muted) (l := some c) rfl rfl (.of_eq rfl rfl rfl rfl rfl) rfl
    (fun i hi => ⟨c, rfl, within hi⟩) fun c' e => ?_)
  cases e
  exact ⟨ne, fun hs => ⟨(hs.rising p hp).2.sublist sub, fun i hi => hs.cands p hp i (sub.subset hi)⟩⟩

theorem State.runs_narrowTo {p : Probe} (hp : s.rogue.iso = .probing p) {c : List HomeIdx}
    (sub : c.Sublist p.cands) (r : Round) (k : Nat) : s.Runs (s.narrowTo r k c) := by
  unfold State.narrowTo
  split
  · exact s.runs_endUnresolved ..
  · exact State.runs_beginStep hp sub (by simp) (by simp) ..
  · rename_i ne _
    exact State.runs_beginStep hp sub ne (List.take_subset _ _) ..

theorem State.flagRecord_stopProbing (s : State) (i : HomeIdx) (f : RecFlags → RecFlags) :
    s.stopProbing.flagRecord i f = (s.flagRecord i f).stopProbing := by
  unfold State.flagRecord
  rw [show s.stopProbing.banks = s.banks from rfl]
  cases s.banks.live with
  | none => rfl
  | some l =>
    dsimp only
    cases l.records[i.val] <;> rfl

theorem State.stopProbing_entry (s : State) (i : HomeIdx) :
    s.stopProbing.entry i = { s.entry i with probe := false } := State.entry_setProbes s [] i

theorem State.runs_convict {p : Probe} (hp : s.rogue.iso = .probing p) (hi : i ∈ p.cands) (r : Round) (k : Nat) :
    s.Runs (s.convict i r k) := by
  have flag := s.keeps_flagRecord i fun f => { f with convicted := true }
  have stops (v : State) : v.Move v.stopProbing :=
    .probes (muted := []) (l := none) rfl rfl (.of_eq rfl rfl rfl rfl rfl) rfl (by simp) (by simp)
  unfold State.convict
  dsimp only
  rw [show ({ (s.setProbes []).clearStreaks with
      rogue := { (s.setProbes []).clearStreaks.rogue with iso := .idle } } : State) = s.stopProbing from rfl,
    State.flagRecord_stopProbing]
  generalize hv : s.flagRecord i _ = v at flag
  have entry_v : v.entry i = s.entry i := by
    rw [← hv]
    exact State.entry_congr (State.flagRecord_homes ..) i
  have iso_v : v.rogue.iso = .probing p := by rw [← hv]; simpa using hp
  have told (w : State) (m : OutMsg) (c : Counter) (n : Notice) : w.Keeps (((w.sendPeer m).bump c).raise n) :=
    (w.keeps_sendPeer m).trans ((State.keeps_bump ..).trans (State.keeps_raise ..))
  split
  · rename_i held
    have state : (v.stopProbing.entry i).state = .held := by rw [State.stopProbing_entry, entry_v]; exact held
    have departs := (v.stopProbing.departs_endEnrolment i .lost r (.inl (by rw [state]; rfl))).addBar
      (s.entry i).tagVal .rogue s.straps.station
    refine (flag.then (.head (stops v) (.single (.depart departs (by simp [state]) (by simp [state])
      fun x hx => ?_)))).keeps (told ..)
    refine (State.barred_addBar hx).imp (fun old => ?_) fun e => ?_
    · simpa [State.barred] using old
    · rw [State.stopProbing_entry, entry_v]
      exact e
  · rename_i held
    refine (flag.then (.head (.convict v p i .convicted r iso_v hi (by rw [entry_v]; exact held)) (.single
      (.addBar _ _ _ _ (.inr ⟨i, ?_, ?_⟩))))).keeps (told ..)
    · rw [State.entry, State.muteHome_self]
      rfl
    · rw [State.entry, State.muteHome_self]
      show (v.stopProbing.entry i).tagVal = _
      rw [State.stopProbing_entry, entry_v]
      rfl

theorem State.runs_stepVerdict {p : Probe} (hp : s.rogue.iso = .probing p) (r : Round) (dirty blank : Bool) :
    s.Runs (s.stepVerdict p r dirty blank) := by
  unfold State.stepVerdict
  split
  · exact s.runs_endUnresolved ..
  · split
    · split
      · exact s.runs_endUnresolved ..
      · exact State.runs_narrowTo hp (.refl _) ..
    · exact State.runs_narrowTo hp List.filter_sublist ..
    · split
      · exact s.runs_endUnresolved ..
      · split
        · rename_i i rest e
          exact State.runs_convict hp (by rw [e]; exact List.mem_cons_self) ..
        · exact s.runs_endUnresolved ..

/-! ### The alarm (R125 to R128, R143) -/

theorem State.runs_countDirty (hp : s.rogue.iso.cands = none) (p : Params) (r : Round) (n : Nat) :
    s.Runs (s.countDirty p r n) := by
  unfold State.countDirty
  dsimp only
  split
  · exact (State.keeps_of_rogue (by rfl) (by rfl)).runs
  · split
    · exact (State.keeps_of_rogue (by rfl) (by rfl)).runs
    · let declared : State :=
        State.clearStreaks { s with rogue := { s.rogue with clean := 0, alarm := true, alarmAge := 0 } }
      have declares : s.Keeps declared :=
        s.keeps_rogue { s.rogue with clean := 0, alarm := true, alarmAge := 0, dirty := 0 } rfl
      have tells := declares.trans ((declared.keeps_bump .rogueAlarm).trans (State.keeps_raise _
        (.rogueAlarm true r n (p.autoIsolate && s.rogue.iso == .idle) 0)))
      split
      · exact tells.then (State.runs_startIsolation (by simpa [declared, State.clearStreaks] using hp) r)
      · exact tells.runs

theorem State.keeps_countClean (s : State) (p : Params) (r : Round) : s.Keeps (s.countClean p r) := by
  unfold State.countClean
  have counted := s.keeps_rogue { s.rogue with dirty := 0, clean := min (s.rogue.clean + 1) p.cleanLen } rfl
  dsimp only
  split
  · have cleared := s.keeps_rogue { s.rogue with dirty := 0, clean := 0, alarm := false, alarmAge := 0 } rfl
    exact cleared.trans (State.keeps_raise _ (.rogueAlarm false r 0 false s.rogue.alarmAge))
  · exact counted

theorem State.runs_takeRound (s : State) (r : Round) (n : Nat) (v : RoundVerdict) (k : RoundKind) :
    s.Runs (s.takeRound r n v k) := by
  unfold State.takeRound
  split
  · exact .refl
  · dsimp only
    split
    · rename_i q hq
      split
      · exact State.runs_stepVerdict hq ..
      · exact .refl
    · rename_i none
      split
      · exact .refl
      · split
        · refine State.runs_countDirty ?_ ..
          cases hi : s.rogue.iso with
          | probing q => exact absurd hi (none q)
          | idle | backoff => rfl
        · exact (s.keeps_countClean ..).runs

theorem State.runs_endBackoff (s : State) : s.Runs s.endBackoff := by
  unfold State.endBackoff
  split
  · rename_i hi _
    split
    · exact State.runs_startIsolation (by rw [hi]; rfl) _
    · exact (s.keeps_rogue _ (by rw [hi]; rfl)).runs
  · exact .refl

/-! ### Misbehaviour scores (R120, R144, R145) -/

theorem Entry.Legal.withScore {e : Entry} {target doze n : Nat} (he : e.Legal target doze) (hn : n ≤ 31) :
    ({ e with score := n } : Entry).Legal target doze := { he with score := hn }

theorem State.keeps_score (s : State) (i : HomeIdx) (n : Nat) (hn : n ≤ 31) :
    s.Keeps (s.modEntry i fun e => { e with score := n }) :=
  s.keeps_modEntry i _ (fun hl => hl.withScore hn) rfl rfl rfl rfl rfl rfl

theorem State.keeps_decayed (s : State) (i : HomeIdx) : s.Keeps (s.modEntry i Entry.decayed) :=
  s.keeps_modEntry i _ (fun hl => hl.withScore ((Nat.sub_le ..).trans hl.score)) rfl rfl rfl rfl rfl rfl

theorem State.runs_gain (s : State) (p : Params) (i : HomeIdx) (r : Round) : s.Runs (s.gain p i r) := by
  unfold State.gain
  dsimp only
  have scored := s.keeps_score i (min ((s.entry i).score + 1) 31) (min_le_right ..)
  split
  · rename_i h
    refine (scored.then (.single (.mute _ i .misbehaving r ?_))).keeps
      ((State.keeps_bump ..).trans (State.keeps_raise ..))
    have entry := State.home_modEntry s i i fun e => { e with score := min ((s.entry i).score + 1) 31 }
    rw [State.entry, entry, if_pos rfl]
    exact h.2
  · exact scored.runs

theorem State.keeps_decayInTurn (s : State) (i : HomeIdx) : s.Keeps (s.decayInTurn i) := by
  unfold State.decayInTurn
  have owes (l : List HomeIdx) := s.keeps_rogue { s.rogue with owed := l } rfl
  split
  · dsimp only
    split
    · exact owes _
    · exact (owes _).trans (State.keeps_decayed ..)
  · exact .refl s

theorem State.runs_gainInTurn (s : State) (p : Params) (i : HomeIdx) (r : Round) : s.Runs (s.gainInTurn p i r) :=
  (s.runs_gain p i r).keeps (State.keeps_decayInTurn ..)

theorem Home.keeps_decayed {target doze : Nat} (h : Home) :
    h.Keeps target doze { h with entry := h.entry.decayed } :=
  Home.keeps_entry (fun hl => hl.entry.withScore ((Nat.sub_le ..).trans hl.entry.score)) rfl rfl rfl rfl

theorem State.keeps_settleDecays (s : State) : s.Keeps s.settleDecays := by
  refine .of_homes (fun i => ?_) (fun i => .inl ?_) (fun i => ?_) rfl rfl (.of_eq rfl rfl rfl rfl rfl)
  · rw [State.settleDecays_home]
    split
    · exact (s.home i).keeps_decayed
    · exact .refl ..
  all_goals
    rw [State.entry, State.settleDecays_home]
    split <;> rfl

end Sys2Proof.Machine

/-! The round boundary as moves (R78, R82): the events that fall due, the counts, and the talk map. -/

namespace Sys2Proof.Machine

open Sys2Proof

variable {s t u : State} {i : HomeIdx}

/-! ### What a boundary leaves alone -/

/-- A field that every step of a fold leaves alone. -/
theorem State.foldl_field {α β : Type} {f : State → α → State} (field : State → β)
    (h : ∀ (s : State) a, field (f s a) = field s) (l : List α) (s : State) : field (l.foldl f s) = field s := by
  induction l generalizing s with
  | nil => rfl
  | cons a l ih => exact (ih _).trans (h s a)

@[simp] theorem State.expireApproval_setup (s : State) (i : HomeIdx) : (s.expireApproval i).setup = s.setup := by
  unfold State.expireApproval
  split
  · split
    · simp
    · rfl
  · rfl

@[simp] theorem State.expireDoze_setup (s : State) (i : HomeIdx) : (s.expireDoze i).setup = s.setup := by
  unfold State.expireDoze
  split
  · simp
  · rfl

@[simp] theorem State.abandon_setup (s : State) (r : Round) (i : HomeIdx) : (s.abandon r i).setup = s.setup := by
  unfold State.abandon
  split
  · simp
  · simp
  · rfl

@[simp] theorem State.startIsolation_setup (s : State) (r : Round) : (s.startIsolation r).setup = s.setup := by
  have abandoned := State.foldl_field (f := fun s i => s.abandon r i) State.setup (fun s i => s.abandon_setup r i)
    allIdx (s.bump .isolationRun).clearStreaks
  unfold State.startIsolation
  dsimp only
  generalize allIdx.foldl (fun s i => s.abandon r i) (s.bump .isolationRun).clearStreaks = v at abandoned
  split
  · simpa using abandoned
  · exact abandoned

@[simp] theorem State.endBackoff_setup (s : State) : s.endBackoff.setup = s.setup := by
  unfold State.endBackoff
  split
  · split
    · simp
    · rfl
  · rfl

@[simp] theorem State.advanceRing_setup (s : State) : s.advanceRing.setup = s.setup := by
  unfold State.advanceRing
  split
  · split <;> rfl
  · rfl

@[simp] theorem State.expireEpoch_setup (s : State) : s.expireEpoch.setup = s.setup := by
  unfold State.expireEpoch
  split
  · split
    · simp
    · simp [State.holdEpoch]
  · rfl

@[simp] theorem State.completeRating_setup (s : State) : s.completeRating.setup = s.setup := by
  unfold State.completeRating
  split
  · simp
  · rfl

@[simp] theorem State.catchUp_setup (s : State) : s.catchUp.setup = s.setup := by
  simp [State.catchUp, State.foldl_field State.setup]

@[simp] theorem State.decideDiscovery_setup (s : State) (p : Params) : (s.decideDiscovery p).setup = s.setup := by
  unfold State.decideDiscovery
  dsimp only
  split <;> rfl

@[simp] theorem State.discoveryDue_setup (s : State) : s.discoveryDue.setup = s.setup := by
  unfold State.discoveryDue
  split
  · split
    · simp
    · rfl
  · rfl

@[simp] theorem State.dropOffer_setup (s : State) : s.dropOffer.setup = s.setup := by
  unfold State.dropOffer
  dsimp only
  split <;> rfl

@[simp] theorem State.noteMap_setup (s : State) : s.noteMap.setup = s.setup := by
  unfold State.noteMap
  split <;> rfl

@[simp] theorem State.directiveSent_setup (s : State) (d : Directive) : (s.directiveSent d).setup = s.setup := by
  unfold State.directiveSent
  split
  · rfl
  · split <;> rfl
  · rfl

@[simp] theorem State.completeMap_setup (s : State) (m : TalkMap) : (s.completeMap m).setup = s.setup :=
  State.foldl_field (f := fun s g => s.modHome g.index fun h => h.granted g (_ + 1)) State.setup (fun _ _ => rfl) ..

@[simp] theorem State.startWaiting_setup (s : State) : s.startWaiting.setup = s.setup := by
  rw [State.startWaiting_frame]

@[simp] theorem State.closeHeader_setup (s : State) (m : TalkMap) : (s.closeHeader m).setup = s.setup := by
  simp [State.closeHeader, State.foldl_field State.setup]

@[simp] theorem State.buildMap_setup (s : State) (p : Params) : (s.buildMap p).setup = s.setup := by
  simp [State.buildMap, State.tickUpkeep]

@[simp] theorem State.handMap_setup (s : State) : s.handMap.setup = s.setup := by
  unfold State.handMap
  split
  · split
    · simp
    · rfl
  · rfl

/-! ### The events of a boundary (R39, R47, R95, R21) -/

theorem State.runs_expireApproval (s : State) (i : HomeIdx) : s.Runs (s.expireApproval i) := by
  unfold State.expireApproval
  split
  · rename_i held _
    split
    · exact s.runs_failEnrolment i _ _ _ (by rw [held]; rfl)
    · exact .refl
  · exact .refl

theorem Entry.Legal.confirmed {e : Entry} {target doze : Nat} (he : e.Legal target doze) (hc : e.claim.isSome) :
    ({ e with claim := some .confirmed } : Entry).Legal target doze :=
  { he with claim := hc.symm.trans he.claim }

theorem Home.keeps_confirm {target doze : Nat} (h : Home) : h.Keeps target doze h.confirm := by
  unfold Home.confirm
  split
  · rename_i due
    exact .of_state (fun hl => { hl with entry := hl.entry.confirmed (by simp [due.2]), window := rfl }) rfl rfl rfl
  · exact .refl ..

theorem State.keeps_confirm (s : State) (i : HomeIdx) : s.Keeps (s.modHome i Home.confirm) := by
  have same (h : Home) : h.confirm.entry.balance = h.entry.balance ∧ h.confirm.entry.share = h.entry.share := by
    unfold Home.confirm
    split <;> exact ⟨rfl, rfl⟩
  exact .modHome s i _ (s.home i).keeps_confirm (.inl (same _).1) (same _).2

theorem State.keeps_expireDoze (s : State) (i : HomeIdx) : s.Keeps (s.expireDoze i) := by
  unfold State.expireDoze
  split
  · rename_i due
    exact s.keeps_wakeHome i due.1
  · exact .refl s

/-! ### The counts (R78) -/

theorem Entry.Legal.ticked {e : Entry} {target doze : Nat} (he : e.Legal target doze) (dozes decay : Bool) :
    ({ e with
      dozeLeft := if dozes then e.dozeLeft.map down else e.dozeLeft
      score := if decay then down e.score else e.score } : Entry).Legal target doze :=
  { he with
    dozeLeft := by
      cases dozes
      · exact he.dozeLeft
      · simpa using he.dozeLeft
    dozeRange := fun n hn => by
      cases dozes
      · exact he.dozeRange n hn
      · obtain ⟨m, hm, rfl⟩ := Option.map_eq_some_iff.mp hn
        exact (Nat.sub_le ..).trans (he.dozeRange m hm)
    score := by
      cases decay
      · exact he.score
      · exact (Nat.sub_le ..).trans he.score }

theorem Home.keeps_tick {target doze : Nat} (h : Home) (probing decay : Bool) :
    h.Keeps target doze (h.tick probing decay) := by
  refine .of_state (fun hl => ?_) rfl rfl rfl
  refine { hl with
    entry := ?_
    progress := ?_
    window := ?_ }
  · have := hl.entry.ticked (decide (h.entry.state = .dozing)) decay
    simpa [Home.tick] using this
  · unfold Home.tick
    dsimp only
    split
    · simpa using hl.progress
    · exact hl.progress
  · unfold Home.tick
    dsimp only
    split
    · simpa using hl.window
    · exact hl.window

theorem Isolation.cands_tick (i : Isolation) : i.tick.cands = i.cands := by cases i <;> rfl

theorem State.keeps_reofferEnrol (s : State) (i : HomeIdx) : s.Keeps (s.reofferEnrol i) := by
  unfold State.reofferEnrol
  split
  · split
    · exact .ite ((s.keeps_modProgress i _).trans (State.keeps_pushDirective ..)) (.refl s)
    · exact .refl s
  · exact .refl s

theorem State.keeps_reofferWake (s : State) (i : HomeIdx) : s.Keeps (s.reofferWake i) := by
  unfold State.reofferWake
  have discard := State.Keeps.modHome s i (fun h => { h with keptWake := false })
    ((s.home i).keeps_keptWake false (by simp)) (.inl rfl) rfl
  exact .ite (discard.trans (State.keeps_pushDirective ..)) (.refl s)

theorem State.keeps_reoffer (s : State) : s.Keeps s.reoffer :=
  (State.Keeps.foldl State.keeps_reofferEnrol allIdx s).trans (State.Keeps.foldl State.keeps_reofferWake allIdx _)

theorem State.keeps_tickAges (s : State) : s.Keeps s.tickAges :=
  .quiet rfl rfl rfl (.of_eq rfl rfl rfl rfl rfl)

theorem State.keeps_expectUnmapped (s : State) : s.Keeps s.expectUnmapped :=
  .quiet rfl rfl rfl ⟨rfl, rfl, rfl, fun _ => rfl, fun _ => id, fun _ => rfl⟩

theorem State.keeps_clock (s : State) (c : Clock) (h : c.round = s.clock.round) : s.Keeps { s with clock := c } :=
  .quiet rfl rfl rfl ⟨rfl, rfl, rfl, fun _ => rfl, fun _ => id, fun _ => h⟩

/-! ### The talk map and the balances (R65, R74, R87 to R90) -/

/-- The upkeep ticks, the map planned with them, and what its grants bring. -/
def State.granting (s : State) (p : Params) : State :=
  let ticked := s.tickUpkeep p
  let offered := ticked.dropOffer
  offered.completeMap (planMap offered.homes offered.planner.rotation ticked.reservedSpan).1

theorem Entry.Legal.withBalance {e : Entry} {target doze : Nat} (he : e.Legal target doze) {b : Int}
    (hb : -8 ≤ b ∧ b ≤ 8) : ({ e with balance := b } : Entry).Legal target doze := { he with balance := hb }

theorem Home.keeps_upkeepTick {target doze : Nat} (h : Home) :
    h.Keeps target doze { h with entry := h.entry.upkeepTick } := by
  unfold Entry.upkeepTick
  split
  · exact Home.keeps_entry (fun hl => hl.entry.withBalance (by have := hl.entry.balance; omega)) rfl rfl rfl rfl
  · exact .refl ..

theorem Entry.charged_frame (e : Entry) :
    e.charged = { e with balance := e.charged.balance } := by
  unfold Entry.charged
  split <;> rfl

theorem Entry.charged_balance {e : Entry} (h : -8 ≤ e.balance ∧ e.balance ≤ 8) :
    -8 ≤ e.charged.balance ∧ e.charged.balance ≤ e.balance := by
  unfold Entry.charged
  split
  · simp only
    omega
  · exact ⟨h.1, le_refl _⟩

/-- A charge brings a balance of 8 below it. -/
theorem Entry.charged_below {e : Entry} (hp : e.pollable = true) (h : e.balance ≤ 8) : e.charged.balance ≤ 7 := by
  have polled : e.state = .held ∨ e.state = .active := by
    simp only [Entry.pollable, Bool.and_eq_true, Bool.or_eq_true, beq_iff_eq] at hp
    exact hp.1
  rw [Entry.charged, if_pos polled]
  simp only
  omega

theorem Home.keeps_charged {target doze : Nat} (h : Home) :
    h.Keeps target doze { h with entry := h.entry.charged } := by
  rw [Entry.charged_frame]
  exact Home.keeps_entry
    (fun hl => hl.entry.withBalance (by
      have := hl.entry.balance
      have := Entry.charged_balance this
      omega))
    rfl rfl rfl rfl

theorem Entry.Legal.lessBacklog {e : Entry} {target doze : Nat} (he : e.Legal target doze) (n : Nat) :
    ({ e with backlog := e.backlog.map fun b => b - n } : Entry).Legal target doze :=
  { he with
    backlog := by simpa using he.backlog
    backlogRange := fun m hm => by
      obtain ⟨b, hb, rfl⟩ := Option.map_eq_some_iff.mp hm
      exact (Nat.sub_le ..).trans (he.backlogRange b hb) }

/-- The kinds of entry that a grant of each kind may go to (R65). -/
def Grant.fits (g : Grant) (e : Entry) : Prop :=
  match g.kind with
  | .data | .poll => True
  | .test => e.state = .testing ∨ e.state = .active
  | .ranging => e.state = .ranging ∨ e.state = .active

/-- What a grant changes of a home beside its balance and its backlog. -/
theorem Home.granted_entry (h : Home) (g : Grant) (r : Round) :
    (h.granted g r).entry = { h.entry with
      balance := h.entry.charged.balance, backlog := (h.granted g r).entry.backlog } := by
  unfold Home.granted
  dsimp only
  rw [Entry.charged_frame h.entry]
  cases g.kind
  · rfl
  · rfl
  · dsimp only
    split <;> rfl
  · dsimp only
    split <;> rfl

theorem Home.keeps_granted {target doze : Nat} (h : Home) (g : Grant) (r : Round) (hg : g.fits h.entry) :
    h.Keeps target doze (h.granted g r) := by
  have state : h.entry.charged.state = h.entry.state := by rw [Entry.charged_frame]
  refine h.keeps_charged.trans ?_
  unfold Grant.fits at hg
  unfold Home.granted
  dsimp only
  cases hk : g.kind with
  | data => exact Home.keeps_entry (fun hl => hl.entry.lessBacklog _) rfl rfl rfl rfl
  | poll => exact .refl ..
  | test =>
    rw [hk] at hg
    dsimp only
    split
    · exact Home.keeps_progress ..
    · rename_i ne
      exact Home.keeps_retest _ _ (.inr (state.trans (hg.resolve_left fun e => ne (state.trans e))))
  | ranging =>
    rw [hk] at hg
    dsimp only
    split
    · exact Home.keeps_progress ..
    · rename_i ne
      have active : h.entry.charged.state = .active := state.trans (hg.resolve_left fun e => ne (state.trans e))
      exact Home.keeps_inPlace _ _ (.inr (by rw [active]; exact ⟨rfl, by simp⟩))

/-- A grant of a planned map goes to an entry that may hold it. -/
theorem planMap_fits {homes : Vector Home 64} {p : HomeIdx} {span : Option (SpanKind × Nat)} {g : Grant}
    (h : g ∈ (planMap homes p span).1.grants) : g.fits (homes[g.index.val]).entry := by
  obtain ⟨x, hx, hk⟩ := layout_sound h
  have adm := (fillMap_fills p span).of_empty hx
  unfold Grant.fits
  rw [hk]
  cases x with
  | window n => cases n <;> trivial
  | test =>
    have asks : testRequest homes[g.index.val] = true := adm
    unfold testRequest at asks
    revert asks
    split
    · exact fun _ => .inl ‹_›
    · exact fun _ => .inr ‹_›
    · intro e; cases e
  | ranging a =>
    obtain ⟨c, asks, -⟩ := adm
    unfold rangingRequest at asks
    revert asks
    split
    · exact fun _ => .inl ‹_›
    · exact fun _ => .inr ‹_›
    · intro e; cases e

/-- A home whose balance stands at 8 has a grant in the planned map (R87). -/
theorem planMap_forced {homes : Vector Home 64} {p : HomeIdx} {span : Option (SpanKind × Nat)}
    (hs : (span.map (·.2)).getD 0 ≤ 3238) (h : forcedPoll (homes[i.val]).entry = true) :
    ∃ g ∈ (planMap homes p span).1.grants, g.index = i := by
  obtain ⟨x, hx⟩ := Option.isSome_iff_exists.mp (fillMap_forced hs p h)
  obtain ⟨g, hg, e, -⟩ := layout_complete (span := (span.map (·.2)).getD 0) hx
  exact ⟨g, hg, e⟩

/-- The reserved spans of the two kinds are no longer than the longer discovery span (R62). -/
theorem State.reservedSpan_le (s : State) : (s.reservedSpan.map (·.2)).getD 0 ≤ 3238 := by
  unfold State.reservedSpan
  split
  · decide
  · split
    · cases s.straps.reach <;> decide
    · decide

end Sys2Proof.Machine

/-! The talk map and the header that closes, as moves (R67 to R74, R78). -/

namespace Sys2Proof.Machine

open Sys2Proof

variable {s t u : State} {i : HomeIdx}

/-! ### The grants of a map, home by home -/

/-- What the grants of a map bring to one home. -/
def Home.grantedAll (h : Home) (i : HomeIdx) (l : List Grant) (r : Round) : Home :=
  l.foldl (fun h g => if g.index = i then h.granted g r else h) h

theorem State.home_grants (l : List Grant) (r : Round) (s : State) (i : HomeIdx) :
    (l.foldl (fun s g => s.modHome g.index fun h => h.granted g r) s).home i = (s.home i).grantedAll i l r := by
  induction l generalizing s with
  | nil => rfl
  | cons g l ih =>
    rw [List.foldl_cons, ih, State.home_modHome]
    unfold Home.grantedAll
    rw [List.foldl_cons]
    by_cases e : i = g.index
    · subst e
      simp
    · simp [e, Ne.symm e]

theorem Grant.fits_congr {g : Grant} {e f : Entry} (h : f.state = e.state) : g.fits f ↔ g.fits e := by
  unfold Grant.fits
  rw [h]

theorem Home.granted_state (h : Home) (g : Grant) (r : Round) : (h.granted g r).entry.state = h.entry.state := by
  rw [Home.granted_entry]

theorem Home.keeps_grantedAll {target doze : Nat} (i : HomeIdx) (r : Round) (l : List Grant) (h : Home)
    (hg : ∀ g ∈ l, g.index = i → g.fits h.entry) : h.Keeps target doze (h.grantedAll i l r) := by
  unfold Home.grantedAll
  induction l generalizing h with
  | nil => exact .refl ..
  | cons g l ih =>
    rw [List.foldl_cons]
    obtain ⟨hh, rest⟩ := List.forall_mem_cons.mp hg
    by_cases e : g.index = i
    · rw [if_pos e]
      refine (h.keeps_granted g r (hh e)).trans (ih _ fun x hx ex => ?_)
      exact (Grant.fits_congr (h.granted_state g r)).mpr (rest x hx ex)
    · rw [if_neg e]
      exact ih _ rest

theorem Home.grantedAll_share (i : HomeIdx) (r : Round) (l : List Grant) (h : Home) :
    (h.grantedAll i l r).entry.share = h.entry.share := by
  unfold Home.grantedAll
  induction l generalizing h with
  | nil => rfl
  | cons g l ih =>
    rw [List.foldl_cons, ih]
    split
    · rw [Home.granted_entry]
    · rfl

/-- The grants of a map bring every balance that a tick raised to 8 back below it (R87, R90). -/
theorem Home.grantedAll_balance (i : HomeIdx) (r : Round) (l : List Grant) (h : Home)
    (range : -8 ≤ h.entry.balance ∧ h.entry.balance ≤ 8)
    (full : h.entry.balance = 8 → h.entry.pollable = true ∧ ∃ g ∈ l, g.index = i) :
    -8 ≤ (h.grantedAll i l r).entry.balance ∧ (h.grantedAll i l r).entry.balance ≤ 7 := by
  unfold Home.grantedAll
  induction l generalizing h with
  | nil =>
    refine ⟨range.1, ?_⟩
    have ne : h.entry.balance ≠ 8 := fun e => by simpa using (full e).2
    have := range.2
    simp only [List.foldl_nil]
    omega
  | cons g l ih =>
    rw [List.foldl_cons]
    by_cases e : g.index = i
    · rw [if_pos e]
      have balance : (h.granted g r).entry.balance = h.entry.charged.balance := by rw [Home.granted_entry]
      have charged := Entry.charged_balance range
      have below : (h.granted g r).entry.balance ≠ 8 := by
        rw [balance]
        intro eight
        have := Entry.charged_below (full (by omega)).1 range.2
        omega
      exact ih _ (by rw [balance]; omega) fun eight => absurd eight below
    · rw [if_neg e]
      refine ih _ range fun eight => ?_
      obtain ⟨hp, x, hx, ex⟩ := full eight
      refine ⟨hp, x, (List.mem_cons.mp hx).resolve_left ?_, ex⟩
      rintro rfl
      exact e ex

/-! ### The upkeep ticks and the grants together -/

/-- The entry at an index after the ticks of a map. -/
theorem State.home_tickUpkeep (s : State) (p : Params) (i : HomeIdx) :
    (s.tickUpkeep p).home i = s.home i ∨
      (s.tickUpkeep p).home i = { s.home i with entry := (s.entry i).upkeepTick } := by
  simp only [State.tickUpkeep, State.home, Vector.getElem_mapFinIdx, State.entry]
  exact (ite_eq_or_eq ..).symm

theorem Entry.upkeepTick_frame (e : Entry) : e.upkeepTick = { e with balance := e.upkeepTick.balance } := by
  unfold Entry.upkeepTick
  split <;> rfl

/-- A tick raises only the balance of an entry that polls may go to, and no further than 8. -/
theorem Entry.upkeepTick_balance {e : Entry} (h : -8 ≤ e.balance ∧ e.balance ≤ 7) :
    -8 ≤ e.upkeepTick.balance ∧ e.upkeepTick.balance ≤ 8 ∧
      (e.upkeepTick.balance = 8 → e.upkeepTick.pollable = true) := by
  unfold Entry.upkeepTick
  split
  · rename_i hp
    exact ⟨by simp only; omega, by simp only; omega, fun _ => hp⟩
  · exact ⟨h.1, by omega, fun e => by omega⟩

theorem State.home_granting (s : State) (p : Params) (i : HomeIdx) :
    (s.granting p).home i = ((s.tickUpkeep p).home i).grantedAll i
      (planMap (s.tickUpkeep p).homes (s.tickUpkeep p).planner.rotation (s.tickUpkeep p).reservedSpan).1.grants
      (s.clock.round + 1) := by
  have homes : (s.tickUpkeep p).dropOffer.homes = (s.tickUpkeep p).homes := by
    unfold State.dropOffer
    dsimp only
    split <;> rfl
  have planner : (s.tickUpkeep p).dropOffer.planner = (s.tickUpkeep p).planner := by
    unfold State.dropOffer
    dsimp only
    split <;> rfl
  have clock : (s.tickUpkeep p).dropOffer.clock.round = s.clock.round := by
    unfold State.dropOffer
    dsimp only
    split <;> rfl
  unfold State.granting
  dsimp only
  rw [homes, planner, ← State.home_congr homes i, ← clock]
  exact State.home_grants ..

/-- Fields that neither the grants nor the expectation touch. -/
theorem State.granting_frame (s : State) (p : Params) :
    s.granting p = { s with
      homes := (s.granting p).homes, planner := { s.planner with phase := (s.granting p).planner.phase }
      clock := { s.clock with firstMap := false }, enrol := { s.enrol with offered := false }
      counters := (s.granting p).counters, rx := { s.rx with next := (s.granting p).rx.next } } := by
  have grants (l : List Grant) (r : Round) (v : State) :
      l.foldl (fun s g => s.modHome g.index fun h => h.granted g r) v =
        { v with homes := (l.foldl (fun s g => s.modHome g.index fun h => h.granted g r) v).homes } := by
    induction l generalizing v with
    | nil => rfl
    | cons g l ih =>
      rw [List.foldl_cons, ih]
      rfl
  unfold State.granting State.completeMap
  dsimp only
  rw [grants]
  unfold State.dropOffer
  dsimp only
  split <;> rfl

theorem State.keeps_granting (s : State) (p : Params) : s.Keeps (s.granting p) := by
  let ticked := s.tickUpkeep p
  have tick (i : HomeIdx) : (s.home i).Keeps s.target s.longestDoze (ticked.home i) := by
    rcases s.home_tickUpkeep p i with e | e <;> rw [e]
    · exact .refl ..
    · exact (s.home i).keeps_upkeepTick
  have tickShare (i : HomeIdx) : (ticked.home i).entry.share = (s.entry i).share := by
    rcases s.home_tickUpkeep p i with e | e <;> rw [e]
    · rfl
    · rw [Entry.upkeepTick_frame]
  have frame := s.granting_frame p
  have homes (i : HomeIdx) : (s.home i).Keeps s.target s.longestDoze ((s.granting p).home i) := by
    rw [State.home_granting]
    exact (tick i).trans (Home.keeps_grantedAll _ _ _ _ fun g hg e => by subst e; exact planMap_fits hg)
  have share (i : HomeIdx) : ((s.granting p).entry i).share = (s.entry i).share := by
    rw [State.entry, State.home_granting, Home.grantedAll_share]
    exact tickShare i
  refine ⟨homes, fun hb i => ?_, fun hs => hs.of_homes fun i => .inr ⟨share i, fun e => ?_⟩, fun x => ?_, ?_, ?_⟩
  · rw [State.entry, State.home_granting]
    have range : -8 ≤ (ticked.home i).entry.balance ∧ (ticked.home i).entry.balance ≤ 8 ∧
        ((ticked.home i).entry.balance = 8 → (ticked.home i).entry.pollable = true) := by
      have := hb i
      rcases s.home_tickUpkeep p i with e | e <;> rw [e]
      · exact ⟨this.1, by change (s.entry i).balance ≤ 8; omega, fun e => by
          change (s.entry i).balance = 8 at e; omega⟩
      · exact Entry.upkeepTick_balance this
    refine Home.grantedAll_balance _ _ _ _ ⟨range.1, range.2.1⟩ fun eight => ⟨range.2.2 eight, ?_⟩
    refine planMap_forced (State.reservedSpan_le _) ?_
    have polls : (ticked.homes[i.val]).entry.pollable = true := range.2.2 eight
    have full : (ticked.homes[i.val]).entry.balance = 8 := eight
    simp [forcedPoll, ticked] at polls full ⊢
    exact ⟨polls, full⟩
  · have := (homes i).service
    simp only [State.entry] at e ⊢
    rw [this, e]
  · rw [State.barred, frame]
    exact id
  · rw [frame]
  · rw [frame]
    exact ⟨rfl, rfl, rfl, fun _ => rfl, fun _ => id, fun _ => rfl⟩

/-! ### The header closes (R78, R79) -/

theorem State.keeps_noteMap (s : State) : s.Keeps s.noteMap := by
  unfold State.noteMap
  split
  · rename_i p hp
    refine s.keeps_rogue _ ?_
    rw [hp]
    simp only [Isolation.cands, Probe.mapBuilt]
    split
    · rfl
    · split <;> rfl
  · exact .refl s

theorem State.keeps_directiveSent (s : State) (d : Directive) : s.Keeps (s.directiveSent d) := by
  unfold State.directiveSent
  split
  · exact s.keeps_modProgress _ _
  · refine .ite (.refl s) (.modHome s _ _ (.of_state (fun hl => ?_) rfl rfl rfl) (.inl rfl) rfl)
    exact { hl with progress := by simpa using hl.progress }
  · exact .refl s

theorem State.buildMap_eq (s : State) (p : Params) :
    s.buildMap p =
      let ticked := s.discoveryDue.tickUpkeep p
      let r := planMap ticked.dropOffer.homes ticked.dropOffer.planner.rotation ticked.reservedSpan
      let noted := (s.discoveryDue.granting p).noteMap
      State.closeHeader { noted with planner := { noted.planner with rotation := r.2 } } r.1 := rfl

end Sys2Proof.Machine

/-! What the shared operations leave alone, and the sizes and ranges they keep (R54, R79, R195, R197, R212). -/

namespace Sys2Proof.Machine

open Sys2Proof

variable {s t u : State} {i : HomeIdx}

/-! ### Sizes and ranges -/

/-- The queues within their sizes, a bar list without doubles, and the counters in their range. -/
structure State.Bounded (s : State) : Prop where
  queues : s.QueuesBounded
  bars : s.BarsDistinct
  counters : s.CountersInRange

theorem State.Bounded.of_eq (h : s.Bounded) (bus : t.bus = s.bus) (queue : t.framer.queue = s.framer.queue)
    (bars : t.bars = s.bars) (counters : t.counters = s.counters) : t.Bounded where
  queues :=
    { inbox := by rw [bus]; exact h.queues.inbox
      outbox := by rw [bus]; exact h.queues.outbox
      directives := by rw [queue]; exact h.queues.directives
      bars := by rw [bars]; exact h.queues.bars }
  bars := by unfold State.BarsDistinct; rw [bars]; exact h.bars
  counters c := by rw [State.counter_congr counters]; exact h.counters c

theorem State.Bounded.bump (h : s.Bounded) (c : Counter) : (s.bump c).Bounded where
  queues := ⟨h.queues.inbox, h.queues.outbox, h.queues.directives, h.queues.bars⟩
  bars := h.bars
  counters d := by
    rw [State.counter_bump]
    split
    · exact min_le_right ..
    · exact h.counters d

/-- The port may change where its queues stay within their sizes. -/
theorem State.Bounded.port (h : s.Bounded) (b : Bus) (inbox : b.inbox.length ≤ 8) (outbox : b.outbox.length ≤ 16) :
    State.Bounded { s with bus := b } where
  queues := ⟨inbox, outbox, h.queues.directives, h.queues.bars⟩
  bars := h.bars
  counters := h.counters

theorem State.Bounded.post (h : s.Bounded) (room : s.outRoom = true) (m : OutMsg) : (s.post m).Bounded :=
  h.port _ h.queues.inbox (by
    have : s.bus.outbox.length < 16 := by simpa [State.outRoom] using room
    simp
    omega)

theorem State.Bounded.framer (h : s.Bounded) (f : Framer) (queue : f.queue.length ≤ 32) :
    State.Bounded { s with framer := f } where
  queues := ⟨h.queues.inbox, h.queues.outbox, queue, h.queues.bars⟩
  bars := h.bars
  counters := h.counters

theorem State.Bounded.pushDirective (h : s.Bounded) (room : s.dirRoom = true) (d : Directive) :
    (s.pushDirective d).Bounded := by
  have size : (s.framer.queue ++ [d]).length ≤ 32 := by
    have : s.framer.queue.length < 32 := by simpa [State.dirRoom] using room
    simp
    omega
  have joins := h.framer { s.framer with queue := s.framer.queue ++ [d] } size
  cases d <;> exact joins.of_eq rfl rfl rfl rfl

/-- An addition keeps a list of at most 16 tags at that and free of doubles (R54). -/
theorem barsAfter_length_le {l : List BarEntry} (size : l.length ≤ 16) (e : BarEntry) :
    (barsAfter l e).length ≤ 16 := by
  unfold barsAfter
  split
  · rename_i found
    obtain ⟨x, hx, same⟩ := List.any_eq_true.mp found
    have shorter : (l.filter fun x => x.tag != e.tag).length < l.length :=
      List.length_filter_lt_length_iff_exists.mpr ⟨x, hx, by simpa using same⟩
    simp only [List.length_append, List.length_singleton]
    omega
  · split
    · simp only [List.length_append, List.length_singleton]
      omega
    · simp only [List.length_append, List.length_tail, List.length_singleton]
      omega

theorem barsAfter_distinct {l : List BarEntry} (distinct : (l.map fun e => e.tag).Nodup) (e : BarEntry) :
    ((barsAfter l e).map fun x => x.tag).Nodup := by
  have newest {m : List BarEntry} (sub : m.Sublist l) (new : ∀ x ∈ m, x.tag ≠ e.tag) :
      ((m ++ [e]).map fun x => x.tag).Nodup := by
    rw [List.map_append, List.map_singleton]
    refine List.Nodup.append (distinct.sublist (sub.map _)) (List.nodup_singleton _) ?_
    simpa using new
  unfold barsAfter
  split
  · exact newest List.filter_sublist (by simp)
  · rename_i absent
    have new : ∀ x ∈ l, x.tag ≠ e.tag := by simpa using absent
    split
    · exact newest (.refl l) new
    · exact newest (List.tail_sublist l) fun x hx => new x (List.mem_of_mem_tail hx)

theorem State.Bounded.addBar (h : s.Bounded) (t : Tag) (r : BarReason) (o : Station) : (s.addBar t r o).Bounded := by
  have size := barsAfter_length_le h.queues.bars { tag := t, reason := r, origin := o }
  have distinct := barsAfter_distinct h.bars { tag := t, reason := r, origin := o }
  rw [← State.addBar_bars] at size distinct
  refine ⟨⟨?_, ?_, ?_, size⟩, distinct, fun c => ?_⟩
  · simpa using h.queues.inbox
  · simpa using h.queues.outbox
  · simpa using h.queues.directives
  · unfold State.addBar
    dsimp only
    split
    · exact h.counters c
    · split
      · exact h.counters c
      · rw [State.counter_bump]
        split
        · exact min_le_right ..
        · exact h.counters c

/-! ### What departures, bursts and verdicts leave alone -/

/-- Only the homes, the bar list, the directive queue, the outbox, the Live bank, the light and rogue monitors, the
counters and the frames handed on may change, and the sizes and ranges are kept. -/
structure State.Sweeps (s t : State) : Prop where
  straps : t.straps = s.straps
  clock : t.clock = s.clock
  enrol : t.enrol = s.enrol
  planner : t.planner = s.planner
  rx : t.rx = s.rx
  ring : t.ring = s.ring
  setup : t.setup = s.setup
  waited : t.waited = s.waited
  pending : t.pending = s.pending
  framer : t.framer = { s.framer with queue := t.framer.queue }
  bus : t.bus = { s.bus with outbox := t.bus.outbox }
  banks : t.banks = { s.banks with live := t.banks.live }
  bounded : s.Bounded → t.Bounded

theorem State.Sweeps.refl (s : State) : s.Sweeps s := ⟨rfl, rfl, rfl, rfl, rfl, rfl, rfl, rfl, rfl, rfl, rfl, rfl, id⟩

theorem State.Sweeps.trans (h : s.Sweeps t) (g : t.Sweeps u) : s.Sweeps u where
  straps := g.straps.trans h.straps
  clock := g.clock.trans h.clock
  enrol := g.enrol.trans h.enrol
  planner := g.planner.trans h.planner
  rx := g.rx.trans h.rx
  ring := g.ring.trans h.ring
  setup := g.setup.trans h.setup
  waited := g.waited.trans h.waited
  pending := g.pending.trans h.pending
  framer := by rw [g.framer, h.framer]
  bus := by rw [g.bus, h.bus]
  banks := by rw [g.banks, h.banks]
  bounded := g.bounded ∘ h.bounded

theorem State.Sweeps.ite {c : Prop} [Decidable c] (h : s.Sweeps t) (k : s.Sweeps u) :
    s.Sweeps (if c then t else u) := by
  split
  · exact h
  · exact k

theorem State.Sweeps.foldl {α : Type} {f : State → α → State} (h : ∀ (s : State) a, s.Sweeps (f s a)) (l : List α)
    (s : State) : s.Sweeps (l.foldl f s) := by
  induction l generalizing s with
  | nil => exact .refl s
  | cons a l ih => exact (h s a).trans (ih _)

/-- A change of the homes, the light and rogue monitors, the Live bank and the frames handed on. -/
theorem State.Sweeps.inner (h : t = { s with
      homes := t.homes, light := t.light, rogue := t.rogue, banks := { s.banks with live := t.banks.live }
      toSwitch := t.toSwitch }) : s.Sweeps t := by
  rw [h]
  exact ⟨rfl, rfl, rfl, rfl, rfl, rfl, rfl, rfl, rfl, rfl, rfl, rfl, fun b => b.of_eq rfl rfl rfl rfl⟩

theorem State.Sweeps.bump (h : s.Sweeps t) (c : Counter) : s.Sweeps (t.bump c) :=
  h.trans ⟨rfl, rfl, rfl, rfl, rfl, rfl, rfl, rfl, rfl, rfl, rfl, rfl, fun b => b.bump c⟩

theorem State.Sweeps.bump_if {c : Prop} [Decidable c] (h : s.Sweeps t) (k : Counter) :
    s.Sweeps (if c then t.bump k else t) :=
  .ite (h.bump k) h

theorem State.Sweeps.modHome (h : s.Sweeps t) (i : HomeIdx) (f : Home → Home) : s.Sweeps (t.modHome i f) :=
  h.trans (.inner rfl)

theorem State.Sweeps.modEntry (h : s.Sweeps t) (i : HomeIdx) (f : Entry → Entry) : s.Sweeps (t.modEntry i f) :=
  h.modHome ..

theorem State.Sweeps.modProgress (h : s.Sweeps t) (i : HomeIdx) (f : Progress → Progress) :
    s.Sweeps (t.modProgress i f) :=
  h.modHome ..

theorem State.Sweeps.setHome (h : s.Sweeps t) (i : HomeIdx) (k : Home) : s.Sweeps (t.setHome i k) :=
  h.trans (.inner rfl)

theorem State.Sweeps.setProbes (h : s.Sweeps t) (l : List HomeIdx) : s.Sweeps (t.setProbes l) := h.trans (.inner rfl)

theorem State.Sweeps.rogue (h : s.Sweeps t) (r : Rogue) : s.Sweeps { t with rogue := r } := h.trans (.inner rfl)

theorem State.Sweeps.clearStreaks (h : s.Sweeps t) : s.Sweeps t.clearStreaks := h.rogue _

theorem State.Sweeps.post (h : s.Sweeps t) (room : t.outRoom = true) (m : OutMsg) : s.Sweeps (t.post m) :=
  h.trans ⟨rfl, rfl, rfl, rfl, rfl, rfl, rfl, rfl, rfl, rfl, rfl, rfl, fun b => b.post room m⟩

theorem State.Sweeps.raise (h : s.Sweeps t) (n : Notice) : s.Sweeps (t.raise n) := by
  unfold State.raise
  split
  · exact (h.post ‹_› _).bump _
  · exact h.bump _

theorem State.Sweeps.sendPeer (h : s.Sweeps t) (m : OutMsg) : s.Sweeps (t.sendPeer m) := by
  unfold State.sendPeer
  split
  · exact h.post ‹_› _
  · exact h.bump _

theorem State.Sweeps.pushDirective (h : s.Sweeps t) (room : t.dirRoom = true) (d : Directive) :
    s.Sweeps (t.pushDirective d) := by
  refine h.trans ?_
  cases d <;>
    exact ⟨rfl, rfl, rfl, rfl, rfl, rfl, rfl, rfl, rfl, rfl, rfl, rfl, fun b => b.pushDirective room _⟩

theorem State.Sweeps.offerLeave (h : s.Sweeps t) (d : Directive) : s.Sweeps (t.offerLeave d) := by
  unfold State.offerLeave
  split
  · exact h.pushDirective ‹_› _
  · exact h.bump _

theorem State.Sweeps.offerEnrol (h : s.Sweeps t) (i : HomeIdx) (d : Directive) : s.Sweeps (t.offerEnrol i d) := by
  unfold State.offerEnrol
  split
  · exact h.pushDirective ‹_› _
  · exact (h.modProgress ..).bump _

theorem State.Sweeps.offerWake (h : s.Sweeps t) (i : HomeIdx) : s.Sweeps (t.offerWake i) := by
  unfold State.offerWake
  split
  · exact h.pushDirective ‹_› _
  · exact (h.modHome ..).bump _

theorem State.Sweeps.offerCorrection (h : s.Sweeps t) (i : HomeIdx) (n : Nat) : s.Sweeps (t.offerCorrection i n) := by
  unfold State.offerCorrection
  split
  · exact (h.pushDirective ‹_› _).modEntry ..
  · exact h.bump _

theorem State.Sweeps.addBar (h : s.Sweeps t) (x : Tag) (r : BarReason) (o : Station) : s.Sweeps (t.addBar x r o) := by
  refine h.trans ?_
  have bounded : t.Bounded → (t.addBar x r o).Bounded := fun b => b.addBar x r o
  rw [State.addBar_eq] at bounded ⊢
  exact ⟨rfl, rfl, rfl, rfl, rfl, rfl, rfl, rfl, rfl, rfl, rfl, rfl, bounded⟩

theorem State.Sweeps.flagRecord (h : s.Sweeps t) (i : HomeIdx) (f : RecFlags → RecFlags) :
    s.Sweeps (t.flagRecord i f) := by
  unfold State.flagRecord
  split
  · exact h
  · split
    · exact h
    · exact h.trans (.inner rfl)

theorem State.Sweeps.endUnresolved (h : s.Sweeps t) (q : UnresolvedReason) (r : Round) (k : Nat) (l : List HomeIdx) :
    s.Sweeps (t.endUnresolved q r k l) :=
  ((((h.setProbes []).clearStreaks).rogue _).bump _).raise _

theorem State.Sweeps.dropCandidate (h : s.Sweeps t) (i : HomeIdx) (r : Round) : s.Sweeps (t.dropCandidate i r) := by
  unfold State.dropCandidate
  split
  · exact .ite (.ite (h.endUnresolved ..) (h.rogue _)) h
  · exact h

theorem State.Sweeps.cancelRetest (h : s.Sweeps t) (i : HomeIdx) : s.Sweeps (t.cancelRetest i) := by
  unfold State.cancelRetest
  exact .ite h ((h.modHome ..).raise _)

theorem State.Sweeps.retire (h : s.Sweeps t) (i : HomeIdx) (q : RetireReason) (r : Round) : s.Sweeps (t.retire i q r) :=
  (((h.cancelRetest i).setHome ..).flagRecord ..).dropCandidate ..

theorem State.Sweeps.leaveFor (h : s.Sweeps t) (i : HomeIdx) (q : RetireReason) (r : Round) :
    s.Sweeps (t.leaveFor i q r) :=
  .ite (h.retire ..) (((h.cancelRetest i).setHome ..).dropCandidate ..)

theorem State.Sweeps.endEnrolment (h : s.Sweeps t) (i : HomeIdx) (q : RetireReason) (r : Round) :
    s.Sweeps (t.endEnrolment i q r) :=
  (h.leaveFor ..).offerLeave _

theorem State.Sweeps.failEnrolment (h : s.Sweeps t) (i : HomeIdx) (q : RetireReason) (why : EnrolReason) (r : Round) :
    s.Sweeps (t.failEnrolment i q why r) :=
  (h.endEnrolment ..).raise _

theorem State.Sweeps.muteHome (h : s.Sweeps t) (i : HomeIdx) (q : MuteReason) (r : Round) :
    s.Sweeps (t.muteHome i q r) :=
  ((h.cancelRetest i).modHome ..).dropCandidate ..

theorem State.Sweeps.dozeHome (h : s.Sweeps t) (i : HomeIdx) (n : Nat) : s.Sweeps (t.dozeHome i n) :=
  (h.cancelRetest i).modHome ..

theorem State.Sweeps.wakeHome (h : s.Sweeps t) (i : HomeIdx) : s.Sweeps (t.wakeHome i) := (h.modEntry ..).offerWake i

/-! ### The rogue monitor -/

theorem State.Sweeps.abandon (h : s.Sweeps t) (r : Round) (i : HomeIdx) : s.Sweeps (t.abandon r i) := by
  unfold State.abandon
  split
  · exact h.failEnrolment ..
  · exact h.failEnrolment ..
  · exact h

theorem State.Sweeps.startIsolation (h : s.Sweeps t) (r : Round) : s.Sweeps (t.startIsolation r) := by
  have abandoned := (h.bump .isolationRun).clearStreaks.trans
    (State.Sweeps.foldl (fun s i => (State.Sweeps.refl s).abandon r i) allIdx _)
  unfold State.startIsolation
  dsimp only
  generalize allIdx.foldl (fun s i => s.abandon r i) (t.bump .isolationRun).clearStreaks = v at abandoned
  exact .ite (abandoned.endUnresolved ..) ((abandoned.setProbes _).rogue _)

theorem State.Sweeps.beginStep (h : s.Sweeps t) (k : Nat) (step : IsoStep) (c m : List HomeIdx) :
    s.Sweeps (t.beginStep k step c m) :=
  (h.setProbes m).rogue _

theorem State.Sweeps.narrowTo (h : s.Sweeps t) (r : Round) (k : Nat) (c : List HomeIdx) :
    s.Sweeps (t.narrowTo r k c) := by
  unfold State.narrowTo
  split
  · exact h.endUnresolved ..
  · exact h.beginStep ..
  · exact h.beginStep ..

theorem State.Sweeps.convict (h : s.Sweeps t) (i : HomeIdx) (r : Round) (k : Nat) : s.Sweeps (t.convict i r k) := by
  have flagged := (((h.setProbes []).clearStreaks).rogue
    { ((t.setProbes []).clearStreaks).rogue with iso := .idle }).flagRecord i fun f => { f with convicted := true }
  unfold State.convict
  exact (((State.Sweeps.ite (flagged.endEnrolment ..) (flagged.muteHome ..)).addBar ..).sendPeer _ |>.bump _).raise _

theorem State.Sweeps.stepVerdict (h : s.Sweeps t) (p : Probe) (r : Round) (dirty blank : Bool) :
    s.Sweeps (t.stepVerdict p r dirty blank) := by
  unfold State.stepVerdict
  split
  · exact h.endUnresolved ..
  · split
    · exact .ite (h.endUnresolved ..) (h.narrowTo ..)
    · exact h.narrowTo ..
    · split
      · exact h.endUnresolved ..
      · split
        · exact h.convict ..
        · exact h.endUnresolved ..

theorem State.Sweeps.countDirty (h : s.Sweeps t) (p : Params) (r : Round) (n : Nat) :
    s.Sweeps (t.countDirty p r n) := by
  have declared := (((h.rogue { t.rogue with clean := 0, alarm := true, alarmAge := 0 }).clearStreaks).bump
    .rogueAlarm).raise (.rogueAlarm true r n (p.autoIsolate && t.rogue.iso == .idle) 0)
  exact .ite (h.rogue _) (.ite ((h.rogue _).rogue _) (.ite (declared.startIsolation r) declared))

theorem State.Sweeps.countClean (h : s.Sweeps t) (p : Params) (r : Round) : s.Sweeps (t.countClean p r) := by
  unfold State.countClean
  exact .ite (((h.rogue _).rogue _).clearStreaks.raise _) (h.rogue _)

theorem State.Sweeps.takeRound (h : s.Sweeps t) (r : Round) (n : Nat) (v : RoundVerdict) (k : RoundKind) :
    s.Sweeps (t.takeRound r n v k) := by
  unfold State.takeRound
  split
  · exact h
  · dsimp only
    split
    · exact .ite (h.stepVerdict ..) h
    · exact .ite h (.ite (h.countDirty ..) (h.countClean ..))

theorem State.Sweeps.gain (h : s.Sweeps t) (p : Params) (i : HomeIdx) (r : Round) : s.Sweeps (t.gain p i r) := by
  have scored := h.modEntry i fun e => { e with score := min ((t.entry i).score + 1) 31 }
  unfold State.gain
  exact .ite (((scored.muteHome ..).bump _).raise _) scored

theorem State.Sweeps.decayInTurn (h : s.Sweeps t) (i : HomeIdx) : s.Sweeps (t.decayInTurn i) := by
  unfold State.decayInTurn
  exact .ite (.ite (h.rogue _) ((h.rogue _).modEntry ..)) h

theorem State.Sweeps.gainInTurn (h : s.Sweeps t) (p : Params) (i : HomeIdx) (r : Round) :
    s.Sweeps (t.gainInTurn p i r) :=
  (h.gain p i r).decayInTurn i

theorem State.Sweeps.settleDecays (h : s.Sweeps t) : s.Sweeps t.settleDecays := h.trans (.inner rfl)

theorem State.Sweeps.countBytes (h : s.Sweeps t) (i : HomeIdx) (up : Bool) (n : Nat) :
    s.Sweeps (t.countBytes i up n) := by
  unfold State.countBytes
  split
  · split
    · exact h
    · refine .bump_if (h.trans ?_) _
      exact .inner rfl
  · exact h

theorem State.Sweeps.takePayload (h : s.Sweeps t) (i : HomeIdx) (b : List Byte) (n : Nat) :
    s.Sweeps (t.takePayload i b n) := by
  have passed : s.Sweeps { t with toSwitch := t.toSwitch ++ (parseFrames (n + 1) (padTo n b)).1.map fun b =>
      ({ index := i, bytes := b } : Frame) } := h.trans (.inner rfl)
  exact (State.Sweeps.bump_if passed .upstreamMalformed).countBytes ..

end Sys2Proof.Machine

/-! The close of a round as moves, and what it leaves alone (R97 to R122). -/

namespace Sys2Proof.Machine

open Sys2Proof

variable {s t u : State} {i : HomeIdx}

/-! ### Byte fields -/

theorem natOf_append (bs : List Byte) (b : Byte) : natOf (bs ++ [b]) = natOf bs * 256 + b.toNat := by
  simp [natOf]

theorem natOf_lt (bs : List Byte) : natOf bs < 256 ^ bs.length := by
  induction bs using List.reverseRecOn with
  | nil => simp [natOf]
  | append_singleton bs b ih =>
    rw [natOf_append, List.length_append, List.length_singleton, pow_succ]
    have := b.isLt
    omega

theorem field_lt (bs : List Byte) (off n : Nat) : field bs off n < 256 ^ n :=
  (natOf_lt _).trans_le (Nat.pow_le_pow_right (by decide) (List.length_take_le ..))

/-! ### A close in parts: moves that leave the rest of the part alone -/

/-- Moves that leave alone what a close leaves alone. -/
structure State.Closes (s t : State) : Prop where
  runs : s.Runs t
  sweeps : s.Sweeps t

theorem State.Closes.refl (s : State) : s.Closes s := ⟨.refl, .refl s⟩

theorem State.Closes.trans (h : s.Closes t) (g : t.Closes u) : s.Closes u :=
  ⟨h.runs.trans g.runs, h.sweeps.trans g.sweeps⟩

theorem State.Closes.ite {c : Prop} [Decidable c] (h : s.Closes t) (k : s.Closes u) :
    s.Closes (if c then t else u) := by
  split
  · exact h
  · exact k

theorem State.Keeps.closes (h : s.Keeps t) (g : s.Sweeps t) : s.Closes t := ⟨h.runs, g⟩

theorem State.closes_bump (s : State) (c : Counter) : s.Closes (s.bump c) :=
  (s.keeps_bump c).closes ((State.Sweeps.refl s).bump c)

theorem State.closes_raise (s : State) (n : Notice) : s.Closes (s.raise n) :=
  (s.keeps_raise n).closes ((State.Sweeps.refl s).raise n)

/-- A fold of parts that each need the Setup values, which every part keeps. -/
theorem State.Closes.foldl {α : Type} {p : Params} {f : State → α → State}
    (h : ∀ (s : State) a, s.setup = some p → s.Closes (f s a)) (l : List α) {s : State} (hs : s.setup = some p) :
    s.Closes (l.foldl f s) := by
  induction l generalizing s with
  | nil => exact .refl s
  | cons a l ih =>
    have first := h s a hs
    exact first.trans (ih (first.sweeps.setup.trans hs))

theorem State.longestDoze_eq {p : Params} (h : s.setup = some p) : s.longestDoze = 9 * p.upkeep := by
  simp [State.longestDoze, h]

/-! ### Window verdicts and misses (R97, R98) -/

theorem State.closes_loseHome (s : State) (i : HomeIdx) (r : Round) : s.Closes (s.loseHome i r) := by
  unfold State.loseHome
  dsimp only
  split
  · rename_i active
    have left := s.runs_retire i .lost r (by rw [active]; rfl)
    exact ⟨((left.keeps (State.keeps_offerLeave ..)).keeps (State.keeps_bump ..)).keeps (State.keeps_raise ..),
      ((((State.Sweeps.refl s).retire ..).offerLeave _).bump _).raise _⟩
  · rename_i held
    have left := s.runs_leaveFor i .lost r (by rw [held]; rfl)
    exact ⟨left.keeps (State.keeps_raise ..), ((State.Sweeps.refl s).leaveFor ..).raise _⟩
  · exact .refl s

theorem State.closes_miss (s : State) (i : HomeIdx) (n : Nat) (hn : n ≤ 4) :
    s.Closes (s.modEntry i fun e => { e with miss := n }) :=
  (s.keeps_modEntry i _ (fun hl => { hl with miss := hn }) rfl rfl rfl rfl rfl rfl).closes
    ((State.Sweeps.refl s).modEntry ..)

theorem State.closes_applyWindow (s : State) (o : RoundObs) (blank : Bool) (r : Round) (w : Window) :
    s.Closes (s.applyWindow o blank r w) := by
  have missed : s.Closes (s.modEntry w.index fun e => { e with miss := min (e.miss + 1) 4 }) :=
    s.closes_miss w.index (min ((s.entry w.index).miss + 1) 4) (min_le_right ..)
  unfold State.applyWindow
  exact .ite (.refl s) (.ite (.refl s) (.ite (s.closes_miss _ 0 (by decide)) (.ite (.refl s)
    (.ite (missed.trans (State.closes_loseHome ..)) missed))))

theorem State.closes_applyWindows {p : Params} (hs : s.setup = some p) (o : RoundObs) (blank : Bool) (r : Round)
    (l : List Window) : s.Closes (s.applyWindows o blank r l) :=
  State.Closes.foldl (fun s w _ => s.closes_applyWindow o blank r w) l hs

/-! ### The span and round verdicts (R27, R99 to R102, R114) -/

theorem State.closes_spanCollision (s : State) (x : Expectation) (o : RoundObs) (good : Bool) :
    s.Closes (s.spanCollision x o good) :=
  .ite (s.closes_bump _) (.refl s)

theorem State.closes_light (s : State) (l : Light) : s.Closes { s with light := l } :=
  (s.keeps_outside _ rfl).closes (.inner rfl)

theorem State.closes_applyVerdict (s : State) (v : RoundVerdict) (r : Round) : s.Closes (s.applyVerdict v r) := by
  cases v with
  | blank =>
    have counted := s.closes_bump .blankRound
    exact .ite counted (.ite
      ((counted.trans (State.closes_light _ _)).trans ((State.closes_bump _ _).trans (State.closes_raise _ _)))
      (counted.trans (State.closes_light _ _)))
  | lit => exact .ite ((s.closes_light _).trans (State.closes_raise _ _)) (s.closes_light _)
  | neither => exact .refl s

theorem State.home_clearMarkers (s : State) (r : Round) (i : HomeIdx) :
    ∃ m, (s.clearMarkers r).home i = { s.home i with marker := m } := by
  simp only [State.clearMarkers, State.home, Vector.getElem_map]
  split
  · split
    · exact ⟨.clear, rfl⟩
    · exact ⟨_, rfl⟩
  · exact ⟨_, rfl⟩

theorem State.closes_clearMarkers (s : State) (r : Round) : s.Closes (s.clearMarkers r) := by
  refine State.Keeps.closes (.of_homes (fun i => ?_) (fun i => .inl ?_) (fun i => ?_) rfl rfl
    (.of_eq rfl rfl rfl rfl rfl)) (.inner rfl)
  all_goals obtain ⟨m, hm⟩ := s.home_clearMarkers r i
  · rw [hm]
    exact Home.keeps_marker ..
  · rw [State.entry, hm]
    rfl
  · rw [State.entry, hm]
    rfl

/-! ### Bursts (R111 to R116) -/

theorem EState.measured_of_service {x : EState} (h : x.inService = true ∨ x = .held) :
    x.measured ∧ x ≠ .testing := by
  rcases h with h | rfl
  · revert h
    cases x <;> simp [EState.inService, EState.measured]
  · exact ⟨rfl, by simp⟩

theorem State.closes_offerCorrection (s : State) (i : HomeIdx) (n : Nat) (h : (s.entry i).state.measured)
    (hn : n ≤ s.target) : s.Closes (s.offerCorrection i n) :=
  (s.keeps_offerCorrection i n (fun _ => h) hn).closes ((State.Sweeps.refl s).offerCorrection ..)

theorem State.closes_correctDelay (s : State) (i : HomeIdx) (o : Int)
    (h : (s.entry i).state.inService = true ∨ (s.entry i).state = .held) : s.Closes (s.correctDelay i o) := by
  obtain ⟨measured, settled⟩ := EState.measured_of_service h
  unfold State.correctDelay
  dsimp only
  split
  · have corrected := s.closes_offerCorrection i
      ((((s.entry i).delay.getD 0 : Nat) : Int) - o).toNat measured (by omega)
    exact .ite (corrected.trans (State.closes_bump ..)) corrected
  · have asks : (s.bump .reRangeRequest).Keeps ((s.bump .reRangeRequest).modHome i fun h =>
        match h.inPlace with
        | .placed _ => h
        | _ => { h with
          inPlace := .asked ((((s.target : Nat) : Int) - ((s.entry i).delay.getD 0 : Nat) + o) / 16).toNat }) := by
      refine .modHome _ i _ ?_ ?_ ?_
      · split
        · exact .refl ..
        · exact Home.keeps_inPlace _ _ (.inr ⟨measured, settled⟩)
      · split <;> exact .inl rfl
      · split <;> rfl
    exact (s.closes_bump _).trans (asks.closes ((State.Sweeps.refl _).modHome ..))

theorem State.closes_gainInTurn (s : State) (p : Params) (i : HomeIdx) (r : Round) : s.Closes (s.gainInTurn p i r) :=
  ⟨s.runs_gainInTurn p i r, (State.Sweeps.refl s).gainInTurn p i r⟩

theorem State.closes_applyOffset (s : State) (p : Params) (gains : Bool) (r : Round) (i : HomeIdx) (o : Int)
    (h : (s.entry i).state.inService = true ∨ (s.entry i).state = .held) :
    s.Closes (s.applyOffset p gains r i o) := by
  have corrected := s.closes_correctDelay i o h
  exact .ite (.refl s) (.ite (corrected.trans (State.closes_gainInTurn ..)) corrected)

theorem Entry.Legal.learned {e : Entry} {target doze m : Nat} (he : e.Legal target doze) (hm : m ≤ 255) :
    ({ e with level := e.level.map fun l => (3 * l + m + 2) / 4 } : Entry).Legal target doze :=
  { he with
    level := fun h => by simpa using he.level h
    noLevel := fun h => by simpa using he.noLevel h
    levelRange := fun n hn => by
      obtain ⟨l, hl, rfl⟩ := Option.map_eq_some_iff.mp hn
      have := he.levelRange l hl
      omega }

theorem State.closes_learnLevel (s : State) (w : Window) (b : Byte) : s.Closes (s.learnLevel w b.toNat) := by
  have learns := s.keeps_modEntry w.index (fun e => { e with level := e.level.map fun l => (3 * l + b.toNat + 2) / 4 })
    (fun hl => hl.learned (by have := b.isLt; omega)) rfl rfl rfl rfl rfl rfl
  exact .ite (.refl s) (.ite (s.closes_bump _) (learns.closes ((State.Sweeps.refl s).modEntry ..)))

theorem State.closes_applyWish {p : Params} (hs : s.setup = some p) (i : HomeIdx) (wish : Bool)
    (h : (s.entry i).state = .active) : s.Closes (s.applyWish p i wish) := by
  have reported : s.Closes (s.modEntry i fun e => { e with wish := some wish }) :=
    (s.keeps_modEntry i _ (fun hl => { hl with wish := by simp [h] }) rfl rfl rfl rfl rfl rfl).closes
      ((State.Sweeps.refl s).modEntry ..)
  unfold State.applyWish
  dsimp only
  split
  · split
    · rename_i room
      let v := s.modEntry i fun e => { e with wish := some wish }
      let d := Directive.dozeGranted i (9 * p.upkeep)
      have pushed : s.Closes (v.pushDirective d) :=
        reported.trans ((v.keeps_pushDirective d).closes ((State.Sweeps.refl v).pushDirective room d))
      have state : ((v.pushDirective d).entry i).state = .active := by
        rw [State.pushDirective_entry, State.entry, State.home_modEntry, if_pos rfl]
        exact h
      have longest : 9 * p.upkeep ≤ (v.pushDirective d).longestDoze := by
        rw [State.longestDoze_eq (pushed.sweeps.setup.trans hs)]
      have dozes := State.keeps_dozeHome _ i state longest
      exact (pushed.trans (dozes.closes ((State.Sweeps.refl _).dozeHome ..))).trans (State.closes_bump ..)
    · exact reported.trans (State.closes_bump ..)
  · exact reported

theorem State.closes_applyLine (s : State) (p : Params) (gains : Bool) (r : Round) (w : Window) (b : BurstObs) (o : Int)
    (h : (s.entry w.index).state.inService = true ∨ (s.entry w.index).state = .held) :
    s.Closes (s.applyLine p gains r w b o) :=
  (s.closes_applyOffset p gains r w.index o h).trans (State.closes_learnLevel ..)

theorem headerBacklog_le (h : List Byte) : headerBacklog h ≤ 65535 := Nat.le_of_lt_succ (field_lt h 4 2)

theorem State.keeps_applyBacklog (s : State) (i : HomeIdx) {n : Nat} (hn : n ≤ 65535)
    (h : (s.entry i).state = .active ∨ (s.entry i).state = .dozing) : s.Keeps (s.applyBacklog i n) :=
  s.keeps_modEntry i _ (fun hl => { hl with
    backlog := by rcases h with h | h <;> simp [h]
    backlogRange := fun m hm => by cases hm; exact hn }) rfl rfl rfl rfl rfl rfl

/-- A counter that moves on a condition changes the counters alone. -/
theorem State.bump_if_frame (s : State) (c : Prop) [Decidable c] (k : Counter) :
    (if c then s.bump k else s) = { s with counters := (if c then s.bump k else s).counters } := by
  split <;> rfl

/-- Counting bytes changes the Live bank and the counters alone. -/
theorem State.countBytes_frame (s : State) (i : HomeIdx) (up : Bool) (n : Nat) :
    s.countBytes i up n = { s with
      banks := { s.banks with live := (s.countBytes i up n).banks.live }
      counters := (s.countBytes i up n).counters } := by
  unfold State.countBytes
  split
  · split
    · rfl
    · dsimp only
      rw [State.bump_if_frame]
  · rfl

@[simp] theorem State.countBytes_homes (s : State) (i : HomeIdx) (up : Bool) (n : Nat) :
    (s.countBytes i up n).homes = s.homes := by
  rw [State.countBytes_frame]

@[simp] theorem State.handPayload_homes (s : State) (w : Window) (b : BurstObs) :
    (s.handPayload w b).homes = s.homes := by
  unfold State.handPayload State.takePayload
  split
  · rw [State.countBytes_homes]
    split <;> rfl
  · rfl

/-- The backlog report and the payload of an Active or Dozing home's burst. -/
theorem State.closes_reports (s : State) (w : Window) (b : BurstObs)
    (h : (s.entry w.index).state = .active ∨ (s.entry w.index).state = .dozing) :
    s.Closes ((s.applyBacklog w.index (headerBacklog b.header)).handPayload w b) := by
  have backlog := (s.keeps_applyBacklog w.index (headerBacklog_le b.header) h).closes
    ((State.Sweeps.refl s).modEntry ..)
  exact backlog.trans (.ite ((State.keeps_takePayload ..).closes ((State.Sweeps.refl _).takePayload ..)) (.refl _))

theorem State.entry_reports (s : State) (w : Window) (b : BurstObs) :
    (((s.applyBacklog w.index (headerBacklog b.header)).handPayload w b).entry w.index).state =
      (s.entry w.index).state := by
  rw [State.entry_congr (State.handPayload_homes ..), State.applyBacklog, State.entry, State.home_modEntry, if_pos rfl]

/-- Moves that keep every home in its kind of state keep one in service there. -/
theorem State.applyWish_service (s : State) (p : Params) (i : HomeIdx) (wish : Bool)
    (h : (s.entry i).state = .active) : ((s.applyWish p i wish).entry i).state.inService = true := by
  unfold State.applyWish
  have active : ((s.modEntry i fun e => { e with wish := some wish }).entry i).state = .active := by
    rw [State.entry, State.home_modEntry, if_pos rfl]
    exact h
  dsimp only
  split
  · split
    · rw [State.entry_congr (State.bump_homes ..), State.dozeHome, State.entry, State.home_modHome, if_pos rfl]
      rfl
    · rw [State.entry_congr (State.bump_homes ..), active]
      rfl
  · rw [active]
    rfl

theorem State.closes_applyDecoded {p : Params} (hs : s.setup = some p) (gains : Bool) (r : Round) (w : Window)
    (b : BurstObs) (o : Int) : s.Closes (s.applyDecoded p gains r w b o) := by
  have stale := s.closes_bump .staleBurst
  have line (h : (s.entry w.index).state.inService = true ∨ (s.entry w.index).state = .held) :=
    s.closes_applyLine p gains r w b o h
  unfold State.applyDecoded
  dsimp only
  refine .ite stale ?_
  split
  · rename_i active
    have reports := s.closes_reports w b (.inl active)
    have state := (s.entry_reports w b).trans active
    have wishes := reports.trans (State.closes_applyWish (reports.sweeps.setup.trans hs) w.index
      (headerWish b.header) state)
    have served := State.applyWish_service _ p w.index (headerWish b.header) state
    exact .ite (wishes.trans (State.closes_applyLine _ p gains r w b o (.inl served)))
      (.ite (line (.inl (by rw [active]; rfl))) stale)
  · rename_i dozing
    have reports := s.closes_reports w b (.inr dozing)
    have state := (s.entry_reports w b).trans dozing
    exact .ite (reports.trans (State.closes_applyLine _ p gains r w b o (.inl (by rw [state]; rfl)))) stale
  · rename_i held
    exact .ite (line (.inr held)) stale
  · rename_i muted
    have service : (s.entry w.index).state.inService = true := by rw [muted]; rfl
    have counted : s.Closes (if 0 < headerLength b.header then s.bump .staleBurst else s) := .ite stale (.refl s)
    refine .ite counted (counted.trans (State.closes_applyLine _ p gains r w b o (.inl ?_)))
    split
    · exact service
    · exact service
  · exact .ite (.refl s) stale
  · exact stale

theorem State.closes_applyBurst {p : Params} (hs : s.setup = some p) (gains : Bool) (o : RoundObs) (r : Round)
    (w : Window) : s.Closes (s.applyBurst p gains o r w) := by
  have counted : s.Closes (if w.overlaps o then s.bump .overlap else s) := .ite (s.closes_bump _) (.refl s)
  unfold State.applyBurst
  refine .ite (.refl s) ?_
  dsimp only
  split
  · exact counted.trans (State.closes_bump ..)
  · exact counted.trans (State.closes_applyDecoded (counted.sweeps.setup.trans hs) ..)

end Sys2Proof.Machine

/-! The outcomes of spans and tests, the attribution of light, and the whole close (R30 to R37, R42, R117, R119). -/

namespace Sys2Proof.Machine

open Sys2Proof

variable {s t u : State} {i : HomeIdx}

/-! ### Ranging and test outcomes -/

theorem State.closes_failEnrolment (s : State) (i : HomeIdx) (q : RetireReason) (why : EnrolReason) (r : Round)
    (h : (s.entry i).state.enrolling) : s.Closes (s.failEnrolment i q why r) :=
  ⟨s.runs_failEnrolment i q why r h, (State.Sweeps.refl s).failEnrolment ..⟩

theorem State.closes_modProgress (s : State) (i : HomeIdx) (f : Progress → Progress) : s.Closes (s.modProgress i f) :=
  (s.keeps_modProgress i f).closes ((State.Sweeps.refl s).modProgress ..)

theorem State.closes_failTry (s : State) (i : HomeIdx) (r : Round) (h : (s.entry i).state.enrolling) :
    s.Closes (s.failTry i r) := by
  unfold State.failTry
  split
  · exact .refl s
  · exact .ite (s.closes_failEnrolment i _ _ r h) (s.closes_modProgress ..)

theorem State.closes_failTest (s : State) (i : HomeIdx) (r : Round) (h : (s.entry i).state.enrolling) :
    s.Closes (s.failTest i r) := by
  unfold State.failTest
  split
  · exact .refl s
  · exact .ite (s.closes_failEnrolment i _ _ r h) (s.closes_modProgress ..)

/-- A home found within reach is Testing, and its Set delay is offered (R31). -/
theorem State.closes_ranged (s : State) (i : HomeIdx) {d : Nat} (f : Progress → Progress)
    (h : (s.entry i).state = .ranging) (hd : d ≤ s.target) :
    s.Closes ((s.modHome i fun h => { h with entry := h.entry.tested d, progress := h.progress.map f }).offerEnrol i
      (.setDelay i d)) := by
  have state : (s.home i).entry.state = .ranging := h
  have tested : s.Keeps (s.modHome i fun h => { h with entry := h.entry.tested d, progress := h.progress.map f }) :=
    .modHome s i _
      (Home.keeps_enrolling (fun hl => hl.entry.tested state hd) (.inl state) rfl rfl rfl rfl (by simp) rfl rfl rfl rfl)
      (.inl rfl) rfl
  exact (tested.trans (State.keeps_offerEnrol ..)).closes (((State.Sweeps.refl s).modHome ..).offerEnrol ..)

theorem State.closes_rangingOutcome (s : State) (w : Window) (o : RoundObs) (r : Round) :
    s.Closes (s.rangingOutcome w o r) := by
  unfold State.rangingOutcome
  dsimp only
  split
  · rename_i waits
    have enrolling : (s.entry w.index).state.enrolling := by rw [waits.1]; rfl
    split
    · exact s.closes_failTry w.index r enrolling
    · rename_i rf _
      exact .ite (s.closes_ranged w.index _ waits.1 (Nat.sub_le ..)) (s.closes_failEnrolment _ _ _ r enrolling)
  · exact .refl s

theorem State.modHome_modHome (s : State) (i : HomeIdx) (f g : Home → Home) :
    (s.modHome i f).modHome i g = s.modHome i (g ∘ f) := by
  simp [State.modHome, State.setHome, State.home]

theorem State.closes_endInPlace (s : State) (i : HomeIdx) :
    s.Closes (s.modHome i fun h => { h with inPlace := .idle }) :=
  (State.Keeps.modHome s i _ ((s.home i).keeps_inPlace .idle (.inl rfl)) (.inl rfl) rfl).closes
    ((State.Sweeps.refl s).modHome ..)

/-- The end of a request for ranging in place and the Set delay it brings stand in either order. -/
theorem State.offerCorrection_endInPlace (s : State) (i : HomeIdx) (n : Nat) :
    (s.modHome i fun h => { h with inPlace := .idle }).offerCorrection i n =
      (s.offerCorrection i n).modHome i fun h => { h with inPlace := .idle } := by
  have room : (s.modHome i fun h => { h with inPlace := .idle }).dirRoom = s.dirRoom := rfl
  unfold State.offerCorrection
  rw [room]
  split
  · let v : State := { s with framer := { s.framer with queue := s.framer.queue ++ [.setDelay i n] } }
    have chain (f g k : Home → Home) : ((v.modHome i f).modHome i g).modHome i k = v.modHome i (k ∘ g ∘ f) := by
      rw [State.modHome_modHome, State.modHome_modHome]
      rfl
    let ends (h : Home) : Home := { h with inPlace := .idle }
    let marks (h : Home) : Home := { h with marker := .queued }
    let delays (h : Home) : Home := { h with entry := { h.entry with delay := some n } }
    exact (chain ends marks delays).trans (chain marks delays ends).symm
  · rfl

/-- A home with a request for ranging in place that is placed has a D (R33, R115). -/
theorem State.closes_correctInPlace (s : State) (i : HomeIdx) {r : Round} {n : Nat} (h : (s.home i).inPlace = .placed r)
    (hn : n ≤ s.target) :
    s.Closes ((s.modHome i fun h => { h with inPlace := .idle }).offerCorrection i n) := by
  rw [State.offerCorrection_endInPlace]
  have corrected := s.keeps_offerCorrection i n (fun hl => (hl.inPlace (by rw [h]; simp)).1) hn
  exact (corrected.closes ((State.Sweeps.refl s).offerCorrection ..)).trans (State.closes_endInPlace ..)

theorem State.closes_inPlaceOutcome (s : State) (w : Window) (o : RoundObs) (r : Round) :
    s.Closes (s.inPlaceOutcome w o r) := by
  unfold State.inPlaceOutcome
  dsimp only
  split
  · rename_i placed
    split
    · exact (s.closes_endInPlace _).trans (State.closes_bump ..)
    · exact .ite (s.closes_correctInPlace _ placed.1 (Nat.sub_le ..))
        ((s.closes_correctInPlace _ placed.1 (Nat.zero_le _)).trans (State.closes_bump ..))
  · exact .refl s

theorem State.closes_passTest (s : State) (i : HomeIdx) (e : Nat) (level : Byte) (h : (s.entry i).state = .testing) :
    s.Closes (s.passTest i e level.toNat) := by
  have state : (s.home i).entry.state = .testing := h
  unfold State.passTest
  refine State.Keeps.closes (.trans (.modHome s i _ ?_ (.inl rfl) rfl) (State.keeps_raise ..))
    (((State.Sweeps.refl s).modHome ..).raise _)
  exact Home.keeps_enrolling (fun hl => hl.entry.heldAt state (by have := level.isLt; omega)) (.inr state) rfl rfl rfl
    rfl (by simp) rfl rfl rfl rfl

/-- A misaligned test makes the entry Ranging again (R36). -/
theorem State.closes_rerange (s : State) (i : HomeIdx) (h : (s.entry i).state = .testing) :
    s.Closes (s.modEntry i Entry.reranged) := by
  have state : (s.home i).entry.state = .testing := h
  refine State.Keeps.closes (.modHome s i _ ?_ (.inl rfl) rfl) ((State.Sweeps.refl s).modEntry ..)
  exact Home.keeps_enrolling (fun hl => hl.entry.reranged state) (.inr state) rfl rfl rfl rfl rfl rfl rfl rfl rfl

/-- The level of a passed test is that of a burst. -/
theorem Window.testOutcome_pass {w : Window} {o : RoundObs} {m e level : Nat} {d : Int}
    (h : w.testOutcome o m = .pass e level d) : ∃ b : Byte, level = b.toNat := by
  unfold Window.testOutcome at h
  split at h
  · split at h
    · cases h
    · dsimp only at h
      split at h
      · cases h
      · split at h
        · cases h
          exact ⟨_, rfl⟩
        · cases h
  · cases h

theorem State.closes_enrolTestOutcome (s : State) (p : Params) (w : Window) (o : RoundObs) (r : Round) :
    s.Closes (s.enrolTestOutcome p w o r) := by
  unfold State.enrolTestOutcome
  dsimp only
  split
  · rename_i waits
    have enrolling : (s.entry w.index).state.enrolling := by rw [waits.1]; rfl
    split
    · rename_i passed
      obtain ⟨b, rfl⟩ := Window.testOutcome_pass passed
      exact s.closes_passTest w.index _ b waits.1
    · refine (s.closes_rerange w.index waits.1).trans (State.closes_failTry _ _ r ?_)
      rw [State.entry, State.home_modEntry, if_pos rfl]
      rfl
    all_goals exact s.closes_failTest w.index r enrolling
  · exact .refl s

theorem State.closes_retestOutcome (s : State) (p : Params) (w : Window) (o : RoundObs) (r : Round) :
    s.Closes (s.retestOutcome p w o r) := by
  have ends := State.Keeps.modHome s w.index (fun h => { h with retest := .idle })
    ((s.home w.index).keeps_retest .idle (.inl rfl)) (.inl rfl) rfl
  exact .ite ((ends.trans (State.keeps_raise ..)).closes (((State.Sweeps.refl s).modHome ..).raise _)) (.refl s)

theorem State.closes_takeOutcome (s : State) (p : Params) (o : RoundObs) (r : Round) (w : Window) :
    s.Closes (s.takeOutcome p o r w) := by
  unfold State.takeOutcome
  split
  · exact s.closes_rangingOutcome ..
  · exact s.closes_inPlaceOutcome ..
  · exact s.closes_enrolTestOutcome ..
  · exact s.closes_retestOutcome ..
  · exact .refl s
  · exact .refl s

/-! ### Attribution -/

theorem State.closes_attributeOne (s : State) (p : Params) (l : List Window) (r : Round) (w : Window) (c : Counter) :
    s.Closes (s.attributeOne p l r w c) := by
  have counted := s.closes_bump c
  exact .ite (counted.trans (State.closes_gainInTurn ..)) counted

theorem State.closes_attributeWindow (s : State) (p : Params) (l : List Window) (o : RoundObs) (r : Round)
    (w : Window) :
    s.Closes (s.attributeWindow p l o r w) := by
  have early : s.Closes (if w.earlyLit o then s.attributeOne p l r w .earlyLight else s) :=
    .ite (s.closes_attributeOne ..) (.refl s)
  exact .ite (early.trans (State.closes_attributeOne ..)) early

theorem State.closes_attributeLight {p : Params} (hs : s.setup = some p) (l : List Window) (x : Expectation)
    (o : RoundObs) (r : Round) : s.Closes (s.attributeLight p l x o r) :=
  .ite (.foldl (fun s w _ => s.closes_attributeWindow p l o r w) x.windows hs) (.refl s)

/-! ### The close (R117) -/

theorem State.closes_takeRound (s : State) (r : Round) (n : Nat) (v : RoundVerdict) (k : RoundKind) :
    s.Closes (s.takeRound r n v k) :=
  ⟨s.runs_takeRound r n v k, (State.Sweeps.refl s).takeRound ..⟩

theorem State.closes_settleDecays (s : State) : s.Closes s.settleDecays :=
  s.keeps_settleDecays.closes (State.Sweeps.refl s).settleDecays

theorem State.closes_closeMapped {p : Params} (hs : s.setup = some p) (e : RoundExp) (x : Expectation) (o : RoundObs) :
    s.Closes (s.closeMapped p e x o) := by
  have next {v w : State} (h : s.Closes v) (g : v.setup = some p → v.Closes w) : s.Closes w :=
    h.trans (g (h.sweeps.setup.trans hs))
  unfold State.closeMapped
  dsimp only
  have judged := next (.refl s) fun h =>
    State.closes_applyWindows h o (x.verdict o == .blank) e.round (s.verdictsInOrder x o)
  have verdicts := ((judged.trans (State.closes_spanCollision _ x o e.spanGood)).trans
    (State.closes_applyVerdict _ (x.verdict o) e.round)).trans (State.closes_clearMarkers _ e.round)
  have bursts := next verdicts fun h => State.Closes.foldl
    (fun u w h => State.closes_applyBurst (s := u) h (s.gainsAllowed x) o e.round w) x.windows h
  have outcomes := next bursts fun h => State.Closes.foldl
    (fun u w _ => u.closes_takeOutcome p o e.round w) x.windows h
  have gains := (next outcomes fun h =>
    State.closes_attributeLight h (s.chargeableAt x) x o e.round).trans (State.closes_settleDecays _)
  have late := next gains fun h => State.closes_applyWindows h o (x.verdict o == .blank) e.round
    (s.lossesAfterGains x o)
  have handed := late.trans (State.closes_takeRound _ e.round (x.stray o) (x.verdict o) x.kind)
  exact next handed fun h => State.closes_applyWindows h o (x.verdict o == .blank) e.round
    (s.lossesAfterHand x o)

theorem State.closes_closeUnmapped (s : State) (e : RoundExp) (o : RoundObs) : s.Closes (s.closeUnmapped e o) :=
  ((s.closes_clearMarkers e.round).trans (State.closes_settleDecays _)).trans (State.closes_takeRound ..)

/-- The round that has arrived leaves the list of those that wait, and the rest of the close follows. -/
theorem State.closeRound_cases (s : State) (o : RoundObs) :
    s.closeRound o = s ∨
      ∃ rest, State.Closes { s with rx := { s.rx with closing := rest }, toSwitch := [] } (s.closeRound o) := by
  unfold State.closeRound
  split
  · rename_i e rest p _ hp
    refine .inr ⟨rest, ?_⟩
    dsimp only
    split
    · exact State.closes_closeMapped (by exact hp) ..
    · exact State.closes_closeUnmapped ..
  · exact .inl rfl

theorem State.runs_closeRound (s : State) (o : RoundObs) : s.Runs (s.closeRound o) := by
  rcases s.closeRound_cases o with h | ⟨rest, h⟩
  · rw [h]
  · refine State.Keeps.then ?_ h.runs
    exact .quiet rfl rfl rfl ⟨rfl, rfl, rfl, fun _ => rfl, fun _ => id, fun _ => rfl⟩

end Sys2Proof.Machine

/-! The boundary, the banks, the frames and the drive check as steps: runs of moves that keep the sizes and ranges. -/

namespace Sys2Proof.Machine

open Sys2Proof

variable {s t u : State} {i : HomeIdx}

/-- A run of moves that keeps the sizes of the queues and of the bar list and the ranges of the counters, and leaves the
queue of commands alone. -/
structure State.Steps (s t : State) : Prop where
  runs : s.Runs t
  bounded : s.Bounded → t.Bounded
  pending : t.pending = s.pending

theorem State.Steps.refl (s : State) : s.Steps s := ⟨.refl, id, rfl⟩

theorem State.Steps.trans (h : s.Steps t) (g : t.Steps u) : s.Steps u :=
  ⟨h.runs.trans g.runs, g.bounded ∘ h.bounded, g.pending.trans h.pending⟩

theorem State.Steps.ite {c : Prop} [Decidable c] (h : s.Steps t) (k : s.Steps u) : s.Steps (if c then t else u) := by
  split
  · exact h
  · exact k

theorem State.Closes.steps (h : s.Closes t) : s.Steps t := ⟨h.runs, h.sweeps.bounded, h.sweeps.pending⟩

/-- Moves that leave the port, the queue of directives, the bars and the counters alone. -/
theorem State.Keeps.steps (h : s.Keeps t) (bus : t.bus = s.bus) (queue : t.framer.queue = s.framer.queue)
    (bars : t.bars = s.bars) (counters : t.counters = s.counters) (pending : t.pending = s.pending) : s.Steps t :=
  ⟨h.runs, fun b => b.of_eq bus queue bars counters, pending⟩

theorem State.Steps.bump (h : s.Steps t) (c : Counter) : s.Steps (t.bump c) := h.trans (t.closes_bump c).steps

theorem State.Steps.bump_if {c : Prop} [Decidable c] (h : s.Steps t) (k : Counter) :
    s.Steps (if c then t.bump k else t) :=
  .ite (h.bump k) h

theorem State.Steps.raise (h : s.Steps t) (n : Notice) : s.Steps (t.raise n) := h.trans (t.closes_raise n).steps

theorem State.Steps.foldl {α : Type} {f : State → α → State} (h : ∀ (s : State) a, s.Steps (f s a)) (l : List α)
    (s : State) : s.Steps (l.foldl f s) :=
  ⟨.foldl (fun s a => (h s a).runs) l s, fun b => by
    induction l generalizing s with
    | nil => exact b
    | cons a l ih => exact ih _ ((h s a).bounded b),
    foldl_field State.pending (fun s a => (h s a).pending) l s⟩

theorem State.steps_closeRound (s : State) (o : RoundObs) : s.Steps (s.closeRound o) := by
  refine ⟨s.runs_closeRound o, fun h => ?_, ?_⟩ <;> rcases s.closeRound_cases o with e | ⟨rest, e⟩
  · rwa [e]
  · exact e.sweeps.bounded (h.of_eq rfl rfl rfl rfl)
  · rw [e]
  · exact e.sweeps.pending

/-! ### The banks and the band ring -/

theorem State.steps_advanceRing (s : State) : s.Steps s.advanceRing := by
  refine s.keeps_advanceRing.steps ?_ ?_ ?_ ?_ ?_ <;>
  · unfold State.advanceRing
    split
    · split <;> rfl
    · rfl

theorem State.steps_tickRing (s : State) : s.Steps s.tickRing := by
  refine s.keeps_tickRing.steps ?_ ?_ ?_ ?_ ?_ <;>
  · unfold State.tickRing
    split <;> rfl

theorem State.Bounded.swap (h : s.Bounded) : s.swap.Bounded := by
  rcases s.swap_cases with e | ⟨l, p, plan, hl, hp, ho⟩
  · rwa [e]
  · rw [State.swap_eq hl hp ho]
    dsimp only
    split
    · refine (State.Bounded.bump (s := { s with banks := _, ring := _ }) ?_ .ringRefit).of_eq rfl rfl rfl rfl
      exact h.of_eq rfl rfl rfl rfl
    · exact h.of_eq rfl rfl rfl rfl

theorem State.steps_swap (s : State) : s.Steps s.swap := ⟨.single (.swap s), fun h => h.swap, by simp⟩

theorem State.steps_otherBank (s : State) (b : Banks) (live : b.live = s.banks.live) : s.Steps { s with banks := b } :=
  (s.keeps_otherBank b live).steps rfl rfl rfl rfl rfl

theorem State.steps_holdEpoch (s : State) : s.Steps s.holdEpoch :=
  ((s.steps_otherBank { s.banks with held := true, timer := 0 } rfl).bump _).raise _

theorem State.steps_expireEpoch (s : State) : s.Steps s.expireEpoch :=
  .ite (.ite s.steps_swap s.steps_holdEpoch) (.refl s)

theorem State.steps_completeRating (s : State) : s.Steps s.completeRating := by
  unfold State.completeRating
  split
  · exact (s.steps_otherBank _ (by rfl)).raise _
  · exact .refl s

theorem State.steps_tickRating (s : State) : s.Steps s.tickRating := by
  have rated (b : OtherBank) : s.Steps { s with banks := { s.banks with other := b } } := s.steps_otherBank _ rfl
  unfold State.tickRating
  split
  · split
    · exact rated _
    · split
      · exact rated _
      · exact ((rated _).bump_if _).bump_if _
  · exact .refl s

/-! ### The boundary -/

theorem State.closes_expireApproval (s : State) (i : HomeIdx) : s.Closes (s.expireApproval i) := by
  refine ⟨s.runs_expireApproval i, ?_⟩
  unfold State.expireApproval
  split
  · exact .ite ((State.Sweeps.refl s).failEnrolment ..) (.refl s)
  · exact .refl s

theorem State.closes_confirm (s : State) (i : HomeIdx) : s.Closes (s.modHome i Home.confirm) :=
  (s.keeps_confirm i).closes ((State.Sweeps.refl s).modHome ..)

theorem State.closes_expireDoze (s : State) (i : HomeIdx) : s.Closes (s.expireDoze i) :=
  (s.keeps_expireDoze i).closes (.ite ((State.Sweeps.refl s).wakeHome i) (.refl s))

theorem State.closes_endBackoff (s : State) : s.Closes s.endBackoff := by
  refine ⟨s.runs_endBackoff, ?_⟩
  unfold State.endBackoff
  split
  · exact .ite ((State.Sweeps.refl s).startIsolation _) ((State.Sweeps.refl s).rogue _)
  · exact .refl s

theorem State.steps_catchUp (s : State) : s.Steps s.catchUp := by
  have due (s : State) (i : HomeIdx) : s.Steps (((s.expireApproval i).modHome i Home.confirm).expireDoze i) :=
    (((s.closes_expireApproval i).trans (State.closes_confirm ..)).trans (State.closes_expireDoze ..)).steps
  have events := s.closes_settleDecays.steps.trans (State.Steps.foldl due allIdx s.settleDecays)
  unfold State.catchUp
  dsimp only
  generalize allIdx.foldl (fun s i => ((s.expireApproval i).modHome i Home.confirm).expireDoze i) s.settleDecays = v
    at events
  exact (((events.trans v.closes_endBackoff.steps).trans (State.steps_advanceRing _)).trans
    (State.steps_expireEpoch _)).trans (State.steps_completeRating _)

theorem State.sweeps_reofferEnrol (s : State) (i : HomeIdx) : s.Sweeps (s.reofferEnrol i) := by
  unfold State.reofferEnrol
  split
  · split
    · split
      · rename_i room
        exact State.Sweeps.pushDirective ((State.Sweeps.refl s).modProgress ..) room _
      · exact .refl s
    · exact .refl s
  · exact .refl s

theorem State.sweeps_reofferWake (s : State) (i : HomeIdx) : s.Sweeps (s.reofferWake i) := by
  unfold State.reofferWake
  split
  · rename_i kept
    exact State.Sweeps.pushDirective ((State.Sweeps.refl s).modHome ..) (by simp at kept; exact kept.2) _
  · exact .refl s

theorem State.steps_reoffer (s : State) : s.Steps s.reoffer :=
  (State.Keeps.closes s.keeps_reoffer ((State.Sweeps.foldl State.sweeps_reofferEnrol allIdx s).trans
    (State.Sweeps.foldl State.sweeps_reofferWake allIdx _))).steps

theorem State.steps_tickSilence (s : State) : s.Steps s.tickSilence :=
  .ite ((s.keeps_framer _).steps rfl rfl rfl rfl rfl) (.refl s)

theorem State.steps_tickCounts (s : State) (hold : List HomeIdx) (hs : s.setup ≠ none) :
    s.Steps (s.tickCounts hold) := by
  unfold State.tickCounts
  dsimp only
  refine .trans ?_ (State.steps_reoffer _)
  refine .trans ?_ (State.steps_tickRating _)
  refine .trans ?_ (State.steps_tickRing _)
  refine .trans ?_ ((State.keeps_tickAges _).steps rfl rfl rfl rfl rfl)
  refine .trans ?_ (State.steps_tickSilence _)
  refine State.Keeps.steps ?_ rfl rfl rfl rfl rfl
  refine .of_homes (fun i => ?_) (fun i => .inl ?_) (fun i => ?_) rfl (Isolation.cands_tick _)
    ⟨rfl, rfl, rfl, fun _ => rfl, fun e => absurd e hs, fun e => absurd e hs⟩
  · simpa [State.home] using Home.keeps_tick ..
  all_goals simp [State.entry, State.home, Home.tick]

theorem State.startWaiting_queue (s : State) : s.startWaiting.framer.queue = s.framer.queue := by
  unfold State.startWaiting
  split <;> rfl

theorem State.steps_startWaiting (s : State) : s.Steps s.startWaiting := by
  refine s.keeps_startWaiting.steps ?_ s.startWaiting_queue ?_ ?_ ?_ <;> rw [State.startWaiting_frame]

theorem State.steps_sendIdleHeader (s : State) : s.Steps s.sendIdleHeader :=
  State.Steps.trans ((s.keeps_framer _).steps (by rfl) (by rfl) (by rfl) (by rfl) (by rfl)) (State.steps_startWaiting _)

theorem State.steps_expectUnmapped (s : State) : s.Steps s.expectUnmapped :=
  s.keeps_expectUnmapped.steps rfl rfl rfl rfl rfl

theorem State.steps_clock (s : State) (c : Clock) (h : c.round = s.clock.round) : s.Steps { s with clock := c } :=
  (s.keeps_clock c h).steps rfl rfl rfl rfl rfl

theorem State.steps_beginRound (s : State) : s.Steps s.beginRound :=
  .ite (((s.steps_clock _ (by rfl)).trans (State.steps_sendIdleHeader _)).trans (State.steps_expectUnmapped _))
    (s.steps_clock _ (by rfl))

theorem State.steps_discoveryDue (s : State) : s.Steps s.discoveryDue := by
  unfold State.discoveryDue
  split
  · exact .ite (.bump_if ((s.keeps_outside _ (by rfl)).steps (by rfl) (by rfl) (by rfl) (by rfl) (by rfl)) _) (.refl s)
  · exact .refl s

theorem State.Bounded.dropOffer (h : s.Bounded) : s.dropOffer.Bounded := by
  have dropped : State.Bounded { s with enrol := { s.enrol with offered := false } } := h.of_eq rfl rfl rfl rfl
  unfold State.dropOffer
  dsimp only
  split
  · exact dropped.bump _
  · exact dropped

theorem State.steps_granting (s : State) (p : Params) : s.Steps (s.granting p) := by
  refine ⟨(s.keeps_granting p).runs, fun h => ?_, by rw [State.granting_frame]⟩
  have ticked : (s.tickUpkeep p).Bounded := h.of_eq rfl rfl rfl rfl
  have granted (v : State) (hv : v.Bounded) (m : TalkMap) : (v.completeMap m).Bounded := by
    refine State.Bounded.of_eq (s := m.grants.foldl (fun s g => s.modHome g.index fun h =>
      h.granted g (v.clock.round + 1)) v) ?_ rfl rfl rfl rfl
    exact (State.Sweeps.foldl (f := fun s g => s.modHome g.index fun h => h.granted g (v.clock.round + 1))
      (fun s g => (State.Sweeps.refl s).modHome ..) m.grants v).bounded hv
  exact granted _ ticked.dropOffer _

theorem State.steps_noteMap (s : State) : s.Steps s.noteMap := by
  refine s.keeps_noteMap.steps ?_ ?_ ?_ ?_ ?_ <;>
  · unfold State.noteMap
    split <;> rfl

theorem State.sweeps_directiveSent (s : State) (d : Directive) : s.Sweeps (s.directiveSent d) := by
  unfold State.directiveSent
  split
  · exact (State.Sweeps.refl s).modProgress ..
  · exact .ite (.refl s) ((State.Sweeps.refl s).modHome ..)
  · exact .refl s

theorem State.closes_directiveSent (s : State) (d : Directive) : s.Closes (s.directiveSent d) :=
  (s.keeps_directiveSent d).closes (s.sweeps_directiveSent d)

theorem State.steps_closeHeader (s : State) (m : TalkMap) : s.Steps (s.closeHeader m) := by
  unfold State.closeHeader
  dsimp only
  refine .trans ?_ (State.steps_startWaiting _)
  refine .trans ?_ (.foldl (fun s d => (s.closes_directiveSent d).steps) _ _)
  refine ⟨State.Keeps.runs (.quiet rfl rfl rfl ⟨rfl, rfl, rfl, fun _ => rfl, fun _ => id, fun _ => rfl⟩), fun h => ?_,
    rfl⟩
  refine State.Bounded.of_eq (s := { s with framer := { s.framer with queue := s.framer.queue.drop 8 } })
    (h.framer _ ?_) rfl rfl rfl rfl
  have := h.queues.directives
  simp only [List.length_drop]
  omega

theorem State.steps_buildMap (s : State) (p : Params) : s.Steps (s.buildMap p) := by
  rw [State.buildMap_eq]
  have noted := (s.steps_discoveryDue.trans (State.steps_granting _ p)).trans (State.steps_noteMap _)
  refine (noted.trans ?_).trans (State.steps_closeHeader _ _)
  exact (State.keeps_outside _ _ rfl).steps rfl rfl rfl rfl rfl

theorem State.steps_handMap (s : State) : s.Steps s.handMap := by
  unfold State.handMap
  split
  · exact .ite (s.steps_buildMap _) (.refl s)
  · exact .refl s

theorem State.steps_framer (s : State) (f : Framer) (queue : f.queue = s.framer.queue) :
    s.Steps { s with framer := f } :=
  (s.keeps_framer f).steps rfl queue rfl rfl rfl

theorem State.steps_openBoundary (s : State) (hold : List HomeIdx) : s.Steps (s.openBoundary hold) := by
  unfold State.openBoundary
  split
  · exact s.steps_tickSilence.trans (State.steps_sendIdleHeader _)
  · rename_i p hp
    have owed := s.steps_handMap.trans (State.steps_catchUp _)
    have hs : s.handMap.catchUp.setup ≠ none := by simp [hp]
    generalize s.handMap.catchUp = v at owed hs
    exact ((owed.trans (v.steps_framer _ (by rfl))).trans (State.steps_tickCounts v.endFrame hold hs)).trans
      (State.steps_beginRound _)

theorem State.steps_endIdleFill (s : State) : s.Steps s.endIdleFill :=
  .ite (.ite s.steps_handMap (.ite ((s.steps_openBoundary []).trans (State.steps_handMap _)) (.refl s))) (.refl s)

/-! ### Frames, the drive check and the port's bit times -/

theorem State.steps_handFrame (s : State) (f : Frame) (room : Nat) : s.Steps (s.handFrame f room) :=
  .ite (s.steps_framer _ (by rfl)) (s.steps_framer _ (by rfl))

theorem State.steps_takeFrame (s : State) (index : Byte) (bytes : List Byte) (room : Nat) :
    s.Steps (s.takeFrame index bytes room) := by
  have counted (v : State) (k : Counter) : v.Steps (v.bump k) := (v.closes_bump k).steps
  have billed (v : State) (i : HomeIdx) (up : Bool) (n : Nat) : v.Steps (v.countBytes i up n) :=
    ((v.keeps_countBytes i up n).closes ((State.Sweeps.refl v).countBytes ..)).steps
  unfold State.takeFrame
  split
  · exact .refl s
  split
  · split
    · exact counted ..
    · dsimp only
      split
      · exact (s.steps_handFrame _ _).trans (billed ..)
      · exact (s.steps_handFrame _ _).trans (billed ..)
      · exact counted ..
  · exact counted ..

theorem State.steps_frameSent (s : State) (room : Nat) : s.Steps (s.frameSent room) := by
  unfold State.frameSent
  split
  · exact .refl s
  · split
    · exact .ite (s.steps_framer _ (by rfl)) (s.steps_framer _ (by rfl))
    · exact s.steps_framer _ (by rfl)

theorem State.steps_quietPeriods (s : State) (n : Nat) : s.Steps (s.quietPeriods n) := by
  have grown := s.steps_framer { s.framer with run := min 128 (s.framer.run + n) } rfl
  exact .ite (((grown.trans (State.steps_framer _ _ (by rfl))).bump _).raise _) grown

theorem State.steps_transition (s : State) : s.Steps s.transition := by
  have cleared := s.steps_framer { s.framer with run := 0, silence := false, silenceAge := 0 } rfl
  exact .ite (cleared.raise _) cleared

end Sys2Proof.Machine

/-! Claims, discovery, the bus port and the requests as steps (R24 to R60, R96, R130, R146, R184 to R215). -/

namespace Sys2Proof.Machine

open Sys2Proof

variable {s t u : State} {i : HomeIdx}

/-! ### Claims and bars (R49 to R57) -/

/-- The port's queues, and whether the head has been counted as waiting, stand outside every move. -/
theorem State.keeps_port (s : State) (b : Bus) (w : Bool) : s.Keeps { s with bus := b, waited := w } :=
  s.keeps_outside _ rfl

theorem State.steps_popInbox (s : State) : s.Steps s.popInbox := by
  refine ⟨(s.keeps_port _ false).runs, fun h => ?_, rfl⟩
  refine (h.port { s.bus with inbox := s.bus.inbox.tail } ?_ h.queues.outbox).of_eq rfl rfl rfl rfl
  have := h.queues.inbox
  simp only [List.length_tail]
  omega

theorem State.steps_takePeer (s : State) (k : Nat) {f : State → InMsg → State} (h : ∀ (u : State) m, u.Steps (f u m)) :
    s.Steps (s.takePeer k f) := by
  unfold State.takePeer
  split
  · exact .ite (s.steps_popInbox.trans (h _ _)) (.refl s)
  · exact .refl s

theorem State.closes_endEnrolment (s : State) (i : HomeIdx) (q : RetireReason) (r : Round)
    (h : (s.entry i).state.enrolling) : s.Closes (s.endEnrolment i q r) :=
  ⟨s.runs_endEnrolment i q r h, (State.Sweeps.refl s).endEnrolment ..⟩

theorem State.closes_yieldHome (s : State) (i : HomeIdx) (h : (s.entry i).state.enrolling) :
    s.Closes (s.yieldHome i) :=
  ((s.closes_endEnrolment i .dropped s.clock.round h).trans (State.closes_bump ..)).trans (State.closes_raise ..)

/-- A drop takes an entry in service off and bars its tag (R51). -/
theorem State.closes_dropHome (s : State) (i : HomeIdx) (peer : Station) (k : Nat) (h : (s.entry i).state.inService) :
    s.Closes (s.dropHome i peer k) := by
  let t := (s.entry i).tagVal
  let left := (s.retire i .dropped s.clock.round).offerLeave (.leaveIndex i)
  have departs : s.Departs (left.addBar t .clone peer) i .dropped (some (.leaveIndex i)) :=
    ((s.departs_retire i .dropped s.clock.round (.inl h)).leave (.leaveIndex i) (by simp)).addBar ..
  have bars : left.bars = s.bars := by simp [left]
  have move : s.Move (left.addBar t .clone peer) :=
    .depart departs (by intro e; simp [e, EState.inService] at h) (by intro e; simp [e, EState.inService] at h)
      fun x hx => (State.barred_addBar hx).imp_left fun old => by simpa [State.barred, bars] using old
  have swept : s.Sweeps (left.addBar t .clone peer) := (((State.Sweeps.refl s).retire ..).offerLeave _).addBar ..
  have dropped : s.Closes (left.addBar t .clone peer) := ⟨.single move, swept⟩
  exact (dropped.trans (State.closes_bump ..)).trans (State.closes_raise ..)

theorem State.closes_disputeClaim (s : State) (i : HomeIdx) (t : Tag) (peer : Station) (k : Nat) :
    s.Closes (s.disputeClaim i t peer k) := by
  unfold State.disputeClaim
  dsimp only
  refine State.Closes.trans ?_ (State.closes_raise ..)
  split
  · rename_i room
    exact ((s.keeps_post _).closes ((State.Sweeps.refl s).post room _)).trans (State.closes_bump ..)
  · exact s.closes_bump _

theorem State.closes_peerClaim (s : State) (t : Tag) (k : Nat) (peer : Station) : s.Closes (s.peerClaim t k peer) := by
  unfold State.peerClaim
  split
  · exact .refl s
  · rename_i i _
    split
    · rename_i e
      exact s.closes_yieldHome i (by rw [e]; rfl)
    · rename_i e
      exact s.closes_yieldHome i (by rw [e]; rfl)
    · rename_i e
      exact s.closes_yieldHome i (by rw [e]; rfl)
    · rename_i e
      exact .ite (s.closes_dropHome i peer k (by rw [e]; rfl)) (s.closes_disputeClaim ..)
    · rename_i e
      exact .ite (s.closes_dropHome i peer k (by rw [e]; rfl)) (s.closes_disputeClaim ..)
    · rename_i e
      exact .ite (s.closes_dropHome i peer k (by rw [e]; rfl)) (s.closes_disputeClaim ..)
    · exact .refl s
    · exact .refl s

theorem State.closes_peerCounterClaim (s : State) (t : Tag) (peer : Station) :
    s.Closes (s.peerCounterClaim t peer) := by
  unfold State.peerCounterClaim
  split
  · exact s.closes_bump _
  · split
    · rename_i pending
      exact s.closes_dropHome _ peer 255 pending.1
    · exact s.closes_bump _

theorem State.holder_congr (h : t.homes = s.homes) (x : Tag) : t.holder x = s.holder x := by
  unfold State.holder
  simp only [State.entry_congr h]

theorem State.barTarget_congr (h : t.homes = s.homes) (x : Tag) : t.barTarget x = s.barTarget x := by
  unfold State.barTarget
  simp only [State.holder_congr h, State.entry_congr h]

theorem State.barTarget_some {t : Tag} (h : s.barTarget t = some i) :
    (s.entry i).state.enrolling = true ∧ (s.entry i).tagVal = t := by
  unfold State.barTarget at h
  split at h
  · rename_i j hj
    split at h
    · rename_i e
      cases h
      exact ⟨e, by simp [Entry.tagVal, (State.holder_some hj).2]⟩
    · cases h
  · cases h

/-- A bar ends the enrolment that holds its tag, or goes on the list alone (R55). -/
theorem State.closes_barEnrolment (s : State) (t : Tag) (r : BarReason) (o : Station) :
    (s.barTarget t = none → s.Closes (s.addBar t r o)) ∧
      ∀ i u, s.barTarget t = some i → u = { s.addBar t r o with counters := u.counters } → (s.addBar t r o).Sweeps u →
        s.Closes (u.endEnrolment i .lost s.clock.round) := by
  have added := (State.Sweeps.refl s).addBar t r o
  refine ⟨fun none => ⟨.single (.addBar _ _ _ _ (.inl none)), added⟩, fun i u some eq swept => ?_⟩
  obtain ⟨enrolling, tag⟩ := State.barTarget_some some
  have homes : u.homes = s.homes := by rw [eq]; simp
  have entry : u.entry i = s.entry i := State.entry_congr homes i
  obtain ⟨hv, hr, outside⟩ := EState.enrolling_spec enrolling
  have departs := u.departs_endEnrolment i .lost s.clock.round (.inl (by rw [entry]; exact outside))
  have from_s : s.Departs (u.endEnrolment i .lost s.clock.round) i .lost _ := departs.head (by
    rw [eq, State.addBar_eq])
  refine ⟨.single (.depart from_s hv hr fun x hx => ?_), (added.trans swept).endEnrolment ..⟩
  have bars : u.bars = (s.addBar t r o).bars := by rw [eq]
  have onList : (s.addBar t r o).barred x = true := by simpa [State.barred, bars] using hx
  rw [tag]
  exact State.barred_addBar onList

theorem State.closes_peerBar (s : State) (t : Tag) (r : BarReason) (peer : Station) :
    s.Closes (s.peerBar t r peer) := by
  obtain ⟨alone, ends⟩ := s.closes_barEnrolment t r peer
  have target : ((s.addBar t r peer).bump .barReceived).barTarget t = s.barTarget t :=
    State.barTarget_congr (by simp) t
  unfold State.peerBar
  dsimp only
  rw [target]
  split
  · rename_i i found
    have clock : ((s.addBar t r peer).bump .barReceived).clock.round = s.clock.round := by simp
    rw [clock]
    exact (ends i _ found rfl ((State.Sweeps.refl _).bump _)).trans (State.closes_raise ..)
  · exact (alone ‹_›).trans (State.closes_bump ..)

theorem State.closes_operatorBar (s : State) (t : Tag) : s.Closes (s.operatorBar t) := by
  obtain ⟨alone, ends⟩ := s.closes_barEnrolment t .operator s.straps.station
  have target : (s.addBar t .operator s.straps.station).barTarget t = s.barTarget t :=
    State.barTarget_congr (by simp) t
  unfold State.operatorBar
  dsimp only
  rw [target]
  split
  · rename_i i found
    have clock : (s.addBar t .operator s.straps.station).clock.round = s.clock.round := by simp
    rw [clock]
    exact ends i _ found rfl (.refl _)
  · exact alone ‹_›

theorem State.steps_dropForeign (s : State) : s.Steps s.dropForeign := by
  unfold State.dropForeign
  split
  · exact .ite (s.steps_popInbox.bump _) (.refl s)
  · exact .refl s

/-! ### Discovery (R24 to R29) -/

theorem State.steps_accept (s : State) (i : HomeIdx) (t : Tag) (k : Nat) (arriving : s.rx.arriving.isSome)
    (free : s.barred t = false)
    (h : (s.holder t = some i ∧ (s.entry i).state = .retired) ∨ (s.holder t = none ∧ (s.entry i).state = .vacant)) :
    s.Steps (s.accept i t k) := by
  have swept : s.Sweeps (s.accept i t k) := ((State.Sweeps.refl s).setHome i _).offerEnrol ..
  exact ⟨State.Runs.keeps (.single (.accept s i t k arriving free h)) (State.keeps_offerEnrol _ i (.assign t i)),
    swept.bounded, swept.pending⟩

theorem State.steps_lookupBurst (s : State) (t : Tag) (k : Nat) (arriving : s.rx.arriving.isSome)
    (free : s.barred t = false) : s.Steps (s.lookupBurst t k) := by
  have refused := (State.Steps.refl s).bump .discoveryRefused
  unfold State.lookupBurst
  dsimp only
  split
  · rename_i i found
    split
    · rename_i retired
      exact .ite refused (s.steps_accept i t k arriving free (.inl ⟨found, retired⟩))
    · exact ((State.Steps.refl s).bump _).raise _
  · rename_i none
    split
    · rename_i i lowest
      have vacant : (s.entry i).state = .vacant := by simpa using List.find?_some lowest
      exact .ite refused (s.steps_accept i t k arriving free (.inr ⟨none, vacant⟩))
    · exact refused

theorem State.steps_markSpanGood (s : State) : s.Steps s.markSpanGood := by
  refine State.Keeps.steps (.quiet rfl rfl rfl ⟨rfl, rfl, rfl, fun _ => rfl, fun _ none => ?_, fun _ => rfl⟩)
    rfl rfl rfl rfl rfl
  show s.rx.arriving.map _ = _
  rw [none]
  rfl

theorem State.steps_takeDiscovery (s : State) (arrival : Nat) (body : List Byte) :
    s.Steps (s.takeDiscovery arrival body) := by
  have marked := s.steps_markSpanGood
  unfold State.takeDiscovery
  split
  · rename_i passes
    have arriving : s.markSpanGood.rx.arriving.isSome := by
      have span : s.discoverySpan = true := by simp at passes; exact passes.1.1
      unfold State.discoverySpan at span
      show (s.rx.arriving.map _).isSome = true
      cases e : s.rx.arriving with
      | none => rw [e] at span; cases span
      | some _ => rfl
    dsimp only
    split
    · exact marked
    · split
      · exact marked.bump _
      · split
        · exact marked.bump _
        · rename_i free
          exact marked.trans (State.steps_lookupBurst _ _ _ arriving (by simpa using free))
  · exact .refl s

/-! ### The bus port (R185 to R200) -/

/-- A change of the port that leaves the sizes of its queues within their bounds. -/
theorem State.steps_port (s : State) (b : Bus) (inbox : s.bus.inbox.length ≤ 8 → b.inbox.length ≤ 8)
    (outbox : s.bus.outbox.length ≤ 16 → b.outbox.length ≤ 16) : s.Steps { s with bus := b } :=
  ⟨(s.keeps_port b s.waited).runs, fun h => h.port b (inbox h.queues.inbox) (outbox h.queues.outbox), rfl⟩

theorem State.steps_passTimes (s : State) (l : List BitTime) : s.Steps (s.passTimes l) := by
  unfold State.passTimes
  rw [Bus.foldl_pass]
  exact s.steps_port _ id id

theorem State.steps_resetIdle (s : State) : s.Steps s.resetIdle := s.steps_port _ id id

theorem State.steps_receive (s : State) (m : BusMessage) : s.Steps (s.receive m) := by
  have idle := s.steps_resetIdle
  unfold State.receive
  dsimp only
  refine .ite idle (.ite ?_ (.ite (idle.bump _) (.ite (idle.bump _) (.ite ?_ (.ite idle ?_)))))
  · exact (idle.trans (State.steps_port _ { s.resetIdle.bus with ready := false } id id)).bump _
  · exact (idle.trans (State.steps_port _ { s.resetIdle.bus with listenOnly := true } id id)).bump _
  · split
    · exact idle.bump _
    · rename_i room
      refine (idle.trans (State.steps_port _ _ (fun _ => ?_) (fun h => by exact h))).bump _
      simp only [List.length_append, List.length_singleton]
      omega

theorem State.steps_clockStops (s : State) : s.Steps s.clockStops := .bump_if s.steps_resetIdle _

theorem State.steps_dropOut (s : State) (k : Nat) : s.Steps (s.dropOut k) :=
  s.steps_port _ id fun h => (List.length_eraseIdx_le ..).trans h

theorem State.steps_beginHead (s : State) (bits : List Bool) : s.Steps (s.beginHead bits) := by
  have idle := s.steps_resetIdle
  have sets (k : Nat) (m : OutMsg) (b : Bool) : s.Steps { s.resetIdle with bus := { s.resetIdle.bus with
      outbox := s.resetIdle.bus.outbox.set k m, sending := b } } :=
    idle.trans (State.steps_port _ _ id fun h => by simpa using h)
  unfold State.beginHead
  split
  · exact .refl s
  · split
    · exact .refl s
    · split
      · exact .refl s
      · dsimp only
        split
        · exact sets ..
        · exact (sets _ _ s.resetIdle.bus.sending).bump _
        · exact (idle.trans (State.steps_dropOut _ _)).bump _

theorem State.steps_sendStart (s : State) (l : List BitTime) (bits : List Bool) : s.Steps (s.sendStart l bits) :=
  .ite (.refl s) ((s.steps_passTimes l).trans (State.steps_beginHead _ bits))

theorem State.steps_passTakeSlot (s : State) (taken : Bool) : s.Steps (s.passTakeSlot taken) := by
  unfold State.passTakeSlot
  split
  · split
    · exact .refl s
    · have sent := ((s.steps_dropOut ‹_›).trans (State.steps_resetIdle _)).bump .messagesSent
      exact .ite sent (sent.bump _)
  · exact .refl s

end Sys2Proof.Machine

/-! The requests and the whole dispatch as steps, and what every step keeps. -/

namespace Sys2Proof.Machine

open Sys2Proof

variable {s t u : State} {i : HomeIdx}

/-! ### Requests (R202) -/

/-- The effect of a reply is a step of the part as it stands once the answer has joined the outbox. -/
structure Reply.Acts (r : Reply) (u : State) : Prop where
  steps : ∀ m, (u.post m).Steps (r.effect (u.post m))

theorem Reply.acts_refuse (c : OutcomeCode) (u : State) : (Reply.refuse c).Acts u := ⟨fun _ => .refl _⟩

theorem Reply.acts_refuseCounted (c : OutcomeCode) (k : Counter) (u : State) : (Reply.refuseCounted c k).Acts u :=
  ⟨fun _ => (State.Steps.refl _).bump k⟩

theorem Reply.Acts.ite {c : Prop} [Decidable c] {q r : Reply} (h : q.Acts u) (k : r.Acts u) :
    Reply.Acts (if c then q else r) u := by
  split
  · exact h
  · exact k

theorem onIndex_acts {n : Nat} {f : HomeIdx → Reply} (h : ∀ i, (f i).Acts u) : (onIndex n f).Acts u := by
  unfold onIndex
  split
  · exact h _
  · exact Reply.acts_refuse ..

theorem State.steps_waitForRoom (s : State) : s.Steps s.waitForRoom :=
  .ite (.refl s) (State.Steps.bump ((s.keeps_port s.bus true).steps rfl rfl rfl rfl rfl) _)

/-- An answer joins an outbox that has room, and the effect follows. -/
theorem State.steps_answerTo (s : State) (room : s.outRoom = true) (m : InMsg) {r : Reply} (h : r.Acts s) :
    s.Steps (s.answerTo m r) := by
  have posted : s.Steps (s.post (answerMessage m.sender m.kind r.code r.data)) :=
    ⟨(s.keeps_post _).runs, fun b => b.post room _, rfl⟩
  exact (posted.trans (h.steps _)).bump _

theorem State.steps_takeRequest (s : State) (kind : Nat) (good : Nat → Bool) (admits : Bool)
    {own : State → List Byte → Reply} (h : ∀ (u : State) b, (own u b).Acts u) :
    s.Steps (s.takeRequest kind good admits own) := by
  unfold State.takeRequest
  split
  · exact .refl s
  · split
    · split
      · rename_i room
        refine s.steps_popInbox.trans (State.steps_answerTo s.popInbox room _ ?_)
        exact .ite (Reply.acts_refuseCounted ..) (.ite (Reply.acts_refuseCounted ..) (h _ _))
      · exact s.steps_waitForRoom
    · exact .refl s

theorem State.steps_takeUnknown (s : State) : s.Steps s.takeUnknown := by
  unfold State.takeUnknown
  split
  · exact .refl s
  · split
    · exact .refl s
    · split
      · rename_i room
        exact s.steps_popInbox.trans (State.steps_answerTo s.popInbox room _ (Reply.acts_refuseCounted ..))
      · exact s.steps_waitForRoom

/-! ### Requests on one home -/

theorem heldReply_acts {body : List Byte} {effect : HomeIdx → State → State}
    (h : ∀ i m, (u.entry i).state = .held → (u.post m).Steps (effect i (u.post m))) :
    (heldReply u body effect).Acts u := by
  refine onIndex_acts fun i => ?_
  split
  · exact Reply.acts_refuse ..
  · rename_i held
    split
    · exact Reply.acts_refuse ..
    · exact ⟨fun m => h i m (by simpa using held)⟩

theorem State.steps_removeHome (s : State) (i : HomeIdx) (hv : (s.entry i).state ≠ .vacant)
    (hr : (s.entry i).state ≠ .retired) : s.Steps (s.removeHome i) := by
  unfold State.removeHome
  split
  · exact (s.closes_endEnrolment i _ _ ‹_›).steps
  · rename_i outside
    have served : (s.entry i).state.inService = true := by
      revert hv hr outside
      cases (s.entry i).state <;> simp [EState.enrolling, EState.inService]
    have left := s.runs_retire i .removed s.clock.round served
    have swept := ((State.Sweeps.refl s).retire i .removed s.clock.round).offerLeave (.leaveIndex i)
    exact ⟨left.keeps (State.keeps_offerLeave ..), swept.bounded, swept.pending⟩

theorem removeHomeReply_acts (u : State) (body : List Byte) : (removeHomeReply u body).Acts u := by
  refine onIndex_acts fun i => ?_
  dsimp only
  split
  · exact Reply.acts_refuse ..
  · rename_i stays
    push Not at stays
    exact .ite (Reply.acts_refuse ..) ⟨fun m => State.steps_removeHome (u.post m) i stays.1 stays.2⟩

theorem State.steps_approveHome (s : State) (i : HomeIdx) (h : (s.entry i).state = .held) :
    s.Steps (s.approveHome i) := by
  have approved : s.Steps ((s.modHome i Home.approved).makeRecord i) := by
    refine ⟨.single (.approve s i h), fun b => ?_, ?_⟩ <;> rw [State.makeRecord_frame]
    · exact b.of_eq rfl rfl rfl rfl
    · rfl
  exact approved.trans ((State.keeps_sendPeer ..).closes ((State.Sweeps.refl _).sendPeer _)).steps

theorem retestReply_acts (u : State) (body : List Byte) : (retestReply u body).Acts u := by
  refine onIndex_acts fun i => ?_
  split
  · exact Reply.acts_refuse ..
  · rename_i idle
    push Not at idle
    refine ⟨fun m => State.Keeps.steps (.modHome (u.post m) i (fun h => { h with retest := .asked }) ?_ (.inl rfl) rfl)
      rfl rfl rfl rfl rfl⟩
    exact Home.keeps_retest _ _ (.inr idle.1)

theorem State.shareSumWith_eq (s : State) (i : HomeIdx) (e : Entry) :
    (s.modEntry i fun _ => e).shareSum = s.shareSumWith i e.share := by
  unfold State.shareSum State.shareSumWith
  congr 2
  funext j
  rw [State.entry, State.home_modEntry]
  split <;> rfl

theorem clampTo_weight (v : Nat) : 1 ≤ clampTo 1 16 v ∧ clampTo 1 16 v ≤ 16 := clampTo_bounds (by decide) v

theorem State.keeps_setShare (s : State) (i : HomeIdx) {g w : Nat} (hg : g ≤ 1000) (hw : 1 ≤ w ∧ w ≤ 16)
    (served : (s.entry i).state.inService = true) (limit : s.shareSumWith i g ≤ 2400) :
    s.Keeps (s.modEntry i fun e => { e with share := g, weight := w }) := by
  have entry (j : HomeIdx) : (s.modEntry i fun e => { e with share := g, weight := w }).entry j =
      if j = i then { s.entry i with share := g, weight := w } else s.entry j := by
    rw [State.entry, State.home_modEntry]
    split <;> rfl
  refine ⟨fun j => ?_, fun hb j => ?_, fun hs => ⟨fun j hj => ?_, ?_⟩, fun _ => id, rfl, .of_eq rfl rfl rfl rfl rfl⟩
  · rw [State.home_modEntry]
    split
    · rename_i e
      subst e
      exact Home.keeps_entry (fun hl => { hl.entry with share := hg, weight := hw }) rfl rfl rfl rfl
    · exact .refl ..
  · rw [entry]
    split
    · exact hb i
    · exact hb j
  · rw [entry] at hj ⊢
    split
    · rename_i e
      simp [e, served] at hj
    · rename_i ne
      simp only [if_neg ne] at hj
      exact hs.outside j hj
  · exact (s.shareSumWith_eq i { s.entry i with share := g, weight := w }).le.trans limit

theorem setShareReply_acts (u : State) (body : List Byte) : (setShareReply u body).Acts u := by
  refine onIndex_acts fun i => ?_
  dsimp only
  split
  · exact Reply.acts_refuse ..
  · rename_i served
    split
    · exact Reply.acts_refuse ..
    · rename_i limit
      have served : (u.entry i).state.inService = true := by simpa using served
      exact ⟨fun m => (State.keeps_setShare (u.post m) i (min_le_right ..) (clampTo_weight _) served
        (not_lt.mp limit)).steps rfl rfl rfl rfl rfl⟩

theorem wakeHomeReply_acts (u : State) (body : List Byte) : (wakeHomeReply u body).Acts u := by
  refine onIndex_acts fun i => ?_
  split
  · exact Reply.acts_refuse ..
  · rename_i dozing
    have dozing : (u.entry i).state = .dozing := by simpa using dozing
    exact ⟨fun m => (State.Keeps.closes (State.keeps_wakeHome (u.post m) i dozing)
      ((State.Sweeps.refl _).wakeHome i)).steps⟩

theorem releaseMuteReply_acts (u : State) (body : List Byte) : (releaseMuteReply u body).Acts u := by
  refine onIndex_acts fun i => ?_
  split
  · exact Reply.acts_refuse ..
  · rename_i muted
    have muted : (u.entry i).state = .muted := by simpa using muted
    exact ⟨fun m => (State.keeps_released (u.post m) i muted).steps rfl rfl rfl rfl rfl⟩

theorem startIsolationReply_acts (u : State) (body : List Byte) : (startIsolationReply u body).Acts u := by
  unfold startIsolationReply
  split
  · exact Reply.acts_refuse ..
  · rename_i idle
    push Not at idle
    refine ⟨fun m => State.Closes.steps ⟨State.runs_startIsolation ?_ _, (State.Sweeps.refl _).startIsolation _⟩⟩
    show u.rogue.iso.cands = none
    rw [idle.2]
    rfl

/-! ### Requests on the banks, the bar list and the part -/

theorem loadReply_acts (u : State) (clamped : Bool) (f : Plan → Plan) : (loadReply u clamped f).Acts u := by
  refine .ite (Reply.acts_refuse ..) ⟨fun m => ?_⟩
  show (u.post m).Steps ((u.post m).loadPlan f)
  unfold State.loadPlan
  split
  · exact State.steps_otherBank _ _ (by rfl)
  · exact State.steps_otherBank _ _ (by rfl)
  · exact .refl _

theorem loadRingReply_acts (u : State) (body : List Byte) : (loadRingReply u body).Acts u :=
  .ite (Reply.acts_refuseCounted ..) (loadReply_acts ..)

theorem closeEpochReply_acts (u : State) (body : List Byte) : (closeEpochReply u body).Acts u :=
  .ite ⟨fun _ => State.steps_swap _⟩ (Reply.acts_refuse ..)

theorem usageReply_acts (u : State) (body : List Byte) (data : HomeIdx → UsageRecord → List Byte) :
    (usageReply u body data).Acts u := by
  refine onIndex_acts fun i => ?_
  split
  · exact Reply.acts_refuse ..
  · exact Reply.acts_refuse ..
  · exact Reply.acts_refuse ..
  · split
    · exact Reply.acts_refuse ..
    · exact ⟨fun _ => .refl _⟩

theorem releaseBankReply_acts (u : State) (body : List Byte) : (releaseBankReply u body).Acts u := by
  unfold releaseBankReply
  split
  · refine ⟨fun m => ?_⟩
    have emptied := (u.post m).steps_otherBank { (u.post m).banks with other := .empty } rfl
    exact .ite (emptied.trans (State.steps_swap _)) emptied
  · exact Reply.acts_refuse ..

theorem State.steps_bars (s : State) {l : List BarEntry} (sub : l.Sublist s.bars) : s.Steps { s with bars := l } := by
  refine ⟨State.Keeps.runs (.of_same_homes rfl (fun x hx => ?_) rfl (.of_eq rfl rfl rfl rfl rfl)), fun h => ?_, rfl⟩
  · obtain ⟨e, he, same⟩ := List.any_eq_true.mp hx
    exact List.any_eq_true.mpr ⟨e, sub.subset he, same⟩
  · exact ⟨⟨h.queues.inbox, h.queues.outbox, h.queues.directives, sub.length_le.trans h.queues.bars⟩,
      h.bars.sublist (sub.map _), h.counters⟩

theorem clearBarReply_acts (u : State) (body : List Byte) : (clearBarReply u body).Acts u :=
  .ite ⟨fun _ => State.steps_bars _ (List.nil_sublist _)⟩
    (.ite ⟨fun _ => State.steps_bars _ List.filter_sublist⟩ (Reply.acts_refuse ..))

theorem readBarListReply_acts (u : State) (body : List Byte) : (readBarListReply u body).Acts u :=
  .ite (Reply.acts_refuse ..) ⟨fun _ => .refl _⟩

theorem State.counter_clearGroup (s : State) (first n : Nat) (c : Counter) :
    (s.clearGroup first n).counter c =
      if first ≤ (Counter.pos c).val ∧ (Counter.pos c).val < first + n then 0 else s.counter c := by
  simp [State.clearGroup, State.counter]

theorem readCountersReply_acts (u : State) (body : List Byte) : (readCountersReply u body).Acts u := by
  unfold readCountersReply
  dsimp only
  split
  · exact Reply.acts_refuse ..
  · rename_i first n _
    refine ⟨fun m => ?_⟩
    show (u.post m).Steps ((if byteAt body 1 = 0 then id else fun s => s.clearGroup first n) (u.post m))
    split
    · exact .refl _
    · refine ⟨(State.keeps_outside _ _ (by rfl)).runs, fun h => ⟨?_, h.bars, fun c => ?_⟩, rfl⟩
      · exact ⟨h.queues.inbox, h.queues.outbox, h.queues.directives, h.queues.bars⟩
      rw [State.counter_clearGroup]
      split
      · exact Nat.zero_le _
      · exact h.counters c

theorem setupReply_acts (u : State) (body : List Byte) : (setupReply u body).Acts u := by
  unfold setupReply
  split
  · exact Reply.acts_refuse ..
  · rename_i unset
    refine ⟨fun m => ⟨.single (.setup (u.post m) body unset), fun h => ?_, ?_⟩⟩
    · have silence := (State.steps_tickSilence (u.post m)).bounded h
      refine (State.steps_expectUnmapped _).bounded ((State.steps_sendIdleHeader _).bounded ?_)
      exact silence.of_eq rfl rfl rfl rfl
    · show ((u.post m).acceptSetup _).pending = _
      rw [State.acceptSetup_frame]

theorem State.steps_restartClock (s : State) : s.Steps s.restartClock :=
  .ite (((s.steps_clock { s.clock with idleLeft := 7, firstMap := true, headerOpen := false } rfl).trans
    (State.steps_sendIdleHeader _)).trans (State.steps_expectUnmapped _)) (s.steps_clock _ rfl)

theorem State.steps_restartTree (s : State) : s.Steps s.restartTree := by
  have cleared : s.Steps s.restartHomes.restartBlocks :=
    ⟨.single (.restart s), fun h => (h.framer { s.framer with queue := [] } (by simp)).of_eq rfl rfl rfl rfl,
      rfl⟩
  have clock := cleared.trans (State.steps_restartClock _)
  exact .ite (clock.trans (State.steps_swap _)) (.ite clock (clock.trans (State.steps_holdEpoch _)))

/-! ### FULL_RESET -/

theorem State.counter_afterReset (station : Station) (reach : Reach) (c : Counter) :
    (State.afterReset station reach).counter c = 0 := by
  simp [State.counter, State.afterReset, State.reset]

/-- A part right after a full reset is within every size and range. -/
theorem State.bounded_afterReset (station : Station) (reach : Reach) : (State.afterReset station reach).Bounded where
  queues := ⟨Nat.zero_le _, Nat.zero_le _, Nat.zero_le _, Nat.zero_le _⟩
  bars := List.nodup_nil
  counters c := by
    rw [State.counter_afterReset]
    exact Nat.zero_le _

/-! ### The dispatch -/

/-- Every command runs to a next state by moves that keep the sizes and the ranges. -/
theorem exec_steps (c : Instr) (s : State) : ∃ t, exec c s = .next t ∧ s.Steps t := by
  have request (kind : Nat) (good : Nat → Bool) (admits : Bool) {own : State → List Byte → Reply}
      (h : ∀ (u : State) b, (own u b).Acts u) := s.steps_takeRequest kind good admits h
  have peer (k : Nat) {f : State → InMsg → State} (h : ∀ (u : State) m, u.Steps (f u m)) := s.steps_takePeer k h
  have malformed (u : State) := (u.closes_bump .peerMalformed).steps
  cases c with
  | fullReset station reach =>
    exact ⟨_, rfl, .single (.reset s station reach),
      fun _ => (State.bounded_afterReset station reach).of_eq rfl rfl rfl rfl, rfl⟩
  | roundBoundary part =>
    cases part with
    | whole => exact ⟨_, rfl, (s.steps_openBoundary []).trans (State.steps_handMap _)⟩
    | opening => exact ⟨_, rfl, s.steps_openBoundary []⟩
    | openingHolding l => exact ⟨_, rfl, s.steps_openBoundary l⟩
    | map => exact ⟨_, rfl, s.steps_handMap⟩
  | ratingComplete => exact ⟨_, rfl, s.steps_completeRating⟩
  | idleFillEnd => exact ⟨_, rfl, s.steps_endIdleFill⟩
  | discoveryDue => exact ⟨_, rfl, s.steps_discoveryDue⟩
  | discoveryBurst arrival body => exact ⟨_, rfl, s.steps_takeDiscovery arrival body⟩
  | roundClose o => exact ⟨_, rfl, s.steps_closeRound o⟩
  | approvalTimeout i => exact ⟨_, rfl, (s.closes_expireApproval i).steps⟩
  | claimWindowExpiry i => exact ⟨_, rfl, (s.closes_confirm i).steps⟩
  | dozeExpiry i => exact ⟨_, rfl, (s.closes_expireDoze i).steps⟩
  | backoffExpiry => exact ⟨_, rfl, s.closes_endBackoff.steps⟩
  | epochTimerExpiry => exact ⟨_, rfl, s.steps_expireEpoch⟩
  | ringSegmentAdvance => exact ⟨_, rfl, s.steps_advanceRing⟩
  | transmitSilenceDeclared n => exact ⟨_, rfl, s.steps_quietPeriods n⟩
  | transmitSilenceClear => exact ⟨_, rfl, s.steps_transition⟩
  | downstreamFrame index bytes room => exact ⟨_, rfl, s.steps_takeFrame index bytes room⟩
  | downstreamFrameSent room => exact ⟨_, rfl, s.steps_frameSent room⟩
  | messageReceived m => exact ⟨_, rfl, (s.steps_passTimes m.before).trans (State.steps_receive _ m)⟩
  | messageSendStart before bits => exact ⟨_, rfl, s.steps_sendStart before bits⟩
  | takeSlot taken => exact ⟨_, rfl, s.steps_passTakeSlot taken⟩
  | clockStopsBeforeTakeSlot => exact ⟨_, rfl, s.steps_clockStops⟩
  | claim =>
    refine ⟨_, rfl, peer 8 fun u m => ?_⟩
    split
    · exact (u.closes_peerClaim ..).steps
    · exact malformed u
  | counterClaim =>
    refine ⟨_, rfl, peer 9 fun u m => ?_⟩
    split
    · exact (u.closes_peerCounterClaim ..).steps
    · exact malformed u
  | bar =>
    refine ⟨_, rfl, peer 10 fun u m => ?_⟩
    split
    · exact (u.closes_peerBar ..).steps
    · exact malformed u
  | foreignMessage => exact ⟨_, rfl, s.steps_dropForeign⟩
  | unknownKind => exact ⟨_, rfl, s.steps_takeUnknown⟩
  | setup => exact ⟨_, rfl, request _ _ _ setupReply_acts⟩
  | queryStatus => exact ⟨_, rfl, request _ _ _ fun _ _ => ⟨fun _ => .refl _⟩⟩
  | readCounters => exact ⟨_, rfl, request _ _ _ readCountersReply_acts⟩
  | treeRestart => exact ⟨_, rfl, request _ _ _ fun _ _ => ⟨fun _ => State.steps_restartTree _⟩⟩
  | readHome => exact ⟨_, rfl, request _ _ _ fun u b => onIndex_acts fun _ => ⟨fun _ => .refl _⟩⟩
  | removeHome => exact ⟨_, rfl, request _ _ _ removeHomeReply_acts⟩
  | approve =>
    exact ⟨_, rfl, request _ _ _ fun u b => heldReply_acts fun i m h => State.steps_approveHome (u.post m) i h⟩
  | deny =>
    refine ⟨_, rfl, request _ _ _ fun u b => heldReply_acts fun i m h => ?_⟩
    refine (State.closes_endEnrolment (u.post m) i _ _ ?_).steps
    show (u.entry i).state.enrolling = true
    rw [h]
    rfl
  | retest => exact ⟨_, rfl, request _ _ _ retestReply_acts⟩
  | addBar => exact ⟨_, rfl, request _ _ _ fun u b => ⟨fun m => (State.closes_operatorBar (u.post m) _).steps⟩⟩
  | clearBar => exact ⟨_, rfl, request _ _ _ clearBarReply_acts⟩
  | readBarList => exact ⟨_, rfl, request _ _ _ readBarListReply_acts⟩
  | setShare => exact ⟨_, rfl, request _ _ _ setShareReply_acts⟩
  | wakeHome => exact ⟨_, rfl, request _ _ _ wakeHomeReply_acts⟩
  | startIsolation => exact ⟨_, rfl, request _ _ _ startIsolationReply_acts⟩
  | releaseMute => exact ⟨_, rfl, request _ _ _ releaseMuteReply_acts⟩
  | loadRates => exact ⟨_, rfl, request _ _ _ fun u b => loadReply_acts ..⟩
  | loadRing => exact ⟨_, rfl, request _ _ _ loadRingReply_acts⟩
  | closeEpoch => exact ⟨_, rfl, request _ _ _ closeEpochReply_acts⟩
  | readUsageSummary => exact ⟨_, rfl, request _ _ _ fun u b => usageReply_acts ..⟩
  | readUsageVolumes => exact ⟨_, rfl, request _ _ _ fun u b => usageReply_acts ..⟩
  | releaseBank => exact ⟨_, rfl, request _ _ _ releaseBankReply_acts⟩

/-- One step is a run of moves. -/
theorem step_runs (h : step s = .next t) : s.Runs t ∧ (s.Bounded → t.Bounded) := by
  unfold step at h
  split at h
  · cases h
    exact ⟨.refl, id⟩
  · rename_i c rest _
    obtain ⟨v, hv, steps⟩ := exec_steps c { s with pending := rest }
    rw [hv] at h
    cases h
    refine ⟨State.Keeps.then (s.keeps_outside _ (by rfl)) steps.runs, fun b => steps.bounded ?_⟩
    exact b.of_eq rfl rfl rfl rfl

/-! ### What runs keep -/

theorem State.Runs.keeps_law {law : State → Prop} (move : ∀ {s t : State}, s.Move t → law s → law t) (h : s.Runs t)
    (hs : law s) : law t := by
  induction h with
  | refl => exact hs
  | tail _ m ih => exact move m ih

/-- A law that each move keeps on a legal home table. -/
theorem State.Runs.keeps_legal_law {law : State → Prop}
    (move : ∀ {s t : State}, s.Move t → s.HomesLegal → law s → law t) (h : s.Runs t) (hl : s.HomesLegal) (hs : law s) :
    law t :=
  (h.keeps_law (law := fun s => s.HomesLegal ∧ law s) (fun m hm => ⟨m.homesLegal hm.1, move m hm.1 hm.2⟩) ⟨hl, hs⟩).2

/-- Settles O54: every command keeps the sizes and ranges, by `exec_steps`. -/
theorem stepsKeepQueuesAndCounters : Obligations.StepsKeepQueuesAndCounters := by
  intro s t queues bars counters h
  obtain ⟨queues, bars, counters⟩ := (step_runs h).2 ⟨queues, bars, counters⟩
  exact ⟨queues, bars, counters⟩

/-- Settles O55: every move keeps the balances; the map is one move, whose grants take back what its ticks add. -/
theorem stepsKeepBalancesBelowEight : Obligations.StepsKeepBalancesBelowEight := fun _ _ hs h =>
  (step_runs h).1.keeps_law (law := State.BalancesBelowEight) (fun m => m.balances) hs

/-- Settles O56: every move keeps the share limit. -/
theorem stepsKeepShareLimit : Obligations.StepsKeepShareLimit := fun _ _ hs h =>
  (step_runs h).1.keeps_law (fun m => m.shares) hs

/-- Settles O57: every move keeps the home table legal. -/
theorem stepsKeepHomeTableLegal : Obligations.StepsKeepHomeTableLegal := fun _ _ hs h =>
  (step_runs h).1.keeps_law (fun m => m.homesLegal) hs

/-- Settles O58: every move keeps the tags of a legal home table unique, and barred tags out of enrolment. -/
theorem stepsKeepTagsUniqueAndBarred : Obligations.StepsKeepTagsUniqueAndBarred := by
  intro s t legal unique h
  have runs := (step_runs h).1
  refine ⟨runs.keeps_legal_law (fun m => m.tagsUnique) legal unique, fun free => ?_⟩
  exact (runs.keeps_legal_law (law := fun s => s.TagsUnique ∧ s.NoBarredEnrolling)
    (fun m hl hu => ⟨m.tagsUnique hl hu.1, m.noBarredEnrolling hl hu.1 hu.2⟩) legal ⟨unique, free⟩).2

/-- Settles O59: every move keeps billing sound on a legal home table. -/
theorem stepsKeepBillingSound : Obligations.StepsKeepBillingSound := fun _ _ legal sound h =>
  (step_runs h).1.keeps_legal_law (fun m => m.billingSound) legal sound

/-- Settles O2: no command stops, and none touches the queue of commands. -/
theorem commandsCompleteAndKeepQueue : Obligations.CommandsCompleteAndKeepQueue := fun c s =>
  (exec_steps c s).imp fun _ h => ⟨h.1, h.2.pending⟩

end Sys2Proof.Machine

/-! The step, the full reset, and requests in general (R1, R202 to R206, R215). -/

namespace Sys2Proof.Machine

open Sys2Proof

variable {s t : State} {m : InMsg} {i : HomeIdx}

/-- Settles O1: `step` takes the front of a queue that holds a command. -/
theorem stepTakesFrontCommand : Obligations.StepTakesFrontCommand := fun _ _ _ => rfl

/-! ### FULL_RESET -/

theorem State.home_afterReset (station : Station) (reach : Reach) (i : HomeIdx) :
    (State.afterReset station reach).home i = Home.vacant := by
  simp [State.home, State.afterReset, State.reset]

/-- Settles O3: each block of `State.afterReset` is the block of `State.reset`. -/
theorem fullResetLeavesPartUnset : Obligations.FullResetLeavesPartUnset := by
  intro station reach s
  refine ⟨_, rfl, rfl, rfl, rfl, rfl, rfl, rfl, State.home_afterReset station reach, rfl, rfl, rfl, rfl, rfl, rfl, rfl,
    rfl, rfl, rfl, rfl, rfl, rfl, rfl, rfl, rfl, ?_, rfl, rfl, State.counter_afterReset station reach⟩
  exact beq_iff_eq

theorem State.Blank.entry (h : s.Blank) (i : HomeIdx) : s.entry i = .vacant := congrArg Home.entry (h.homes i)

theorem State.Blank.laws (h : s.Blank) :
    s.TagsUnique ∧ s.BalancesBelowEight ∧ s.NoBarredEnrolling ∧ s.SharesInRange := by
  refine ⟨fun i _ _ hi => absurd (by rw [h.entry]; rfl) hi, fun i => ?_, fun i _ e => ?_, fun i _ => ?_, ?_⟩
  · rw [h.entry]
    decide
  · rw [h.entry] at e
    cases e
  · rw [h.entry]
    rfl
  · simp [State.shareSum, h.entry, Entry.vacant]

/-- Settles O60: a reset leaves a blank part. -/
theorem resetMeetsEveryLaw : Obligations.ResetMeetsEveryLaw := by
  refine ⟨rfl, fun station reach before s hs => ?_⟩
  obtain ⟨st, rc, p, n, rfl⟩ : ∃ st rc p n, s = { State.afterReset st rc with pending := p, restarts := n } := by
    rcases hs with rfl | hs
    · exact ⟨0, .short, [], 0, rfl⟩
    · cases hs
      exact ⟨station, reach, _, _, rfl⟩
  have bounded := (State.bounded_afterReset st rc).of_eq
    (t := { State.afterReset st rc with pending := p, restarts := n }) rfl rfl rfl rfl
  have blank := State.blank_reset st rc p n
  obtain ⟨tags, balances, bars, shares⟩ := blank.laws
  exact ⟨bounded.queues, bounded.bars, bounded.counters, tags, balances, bars, shares, blank.homesLegal,
    blank.billingSound⟩

/-! ### Requests at the head -/

/-- The part once a request has left the inbox and its answer has joined the outbox. -/
def State.answered (s : State) (m : InMsg) (c : OutcomeCode) (data : List Byte) : State :=
  { s with bus := s.bus.answered m c data, waited := false }

/-- A request's own effect follows its answer, and the request is counted after it. -/
theorem State.answerTo_effect (s : State) (m : InMsg) (c : OutcomeCode) (data : List Byte) (f : State → State) :
    s.popInbox.answerTo m (.done c data f) = (f (s.answered m c data)).bump .requestsTaken := rfl

theorem exists_of_head (h : s.bus.inbox.head? = some m) : ∃ rest, s.bus.inbox = m :: rest := by
  cases e : s.bus.inbox with
  | nil => rw [e] at h; cases h
  | cons a rest =>
    rw [e] at h
    cases h
    exact ⟨rest, rfl⟩

/-- Every request command takes the request of its kind at the head. -/
theorem exec_requestCommands :
    ∀ q ∈ requestCommands, ∃ own, ∀ s, exec q.1 s = .next (s.takeRequest q.2.1 q.2.2.1 q.2.2.2 own) := by
  simp only [requestCommands, List.forall_mem_cons, List.not_mem_nil, false_imp_iff, implies_true, and_true]
  exact ⟨⟨_, fun _ => rfl⟩,
    ⟨_, fun _ => rfl⟩, ⟨_, fun _ => rfl⟩, ⟨_, fun _ => rfl⟩, ⟨_, fun _ => rfl⟩, ⟨_, fun _ => rfl⟩,
    ⟨_, fun _ => rfl⟩, ⟨_, fun _ => rfl⟩, ⟨_, fun _ => rfl⟩, ⟨_, fun _ => rfl⟩, ⟨_, fun _ => rfl⟩, ⟨_, fun _ => rfl⟩,
    ⟨_, fun _ => rfl⟩, ⟨_, fun _ => rfl⟩, ⟨_, fun _ => rfl⟩, ⟨_, fun _ => rfl⟩, ⟨_, fun _ => rfl⟩, ⟨_, fun _ => rfl⟩,
    ⟨_, fun _ => rfl⟩, ⟨_, fun _ => rfl⟩, ⟨_, fun _ => rfl⟩, ⟨_, fun _ => rfl⟩⟩

section
variable {kind : Nat} {good : Nat → Bool} {admits : Bool} {own : State → List Byte → Reply}

theorem State.outRoom_eq_false (h : 16 ≤ s.bus.outbox.length) : s.outRoom = false := by
  simp [State.outRoom, h]

theorem State.outRoom_eq_true (h : s.bus.outbox.length < 16) : s.outRoom = true := by
  simp [State.outRoom, h]

theorem State.takeRequest_of_full (h : s.bus.inbox.head? = some m) (hk : m.kind.toNat = kind)
    (full : 16 ≤ s.bus.outbox.length) : s.takeRequest kind good admits own = s.waitForRoom := by
  obtain ⟨rest, e⟩ := exists_of_head h
  simp [State.takeRequest, e, hk, State.outRoom_eq_false full]

/-- A request that finds room is answered by the checks of its length and of the Unset state, then by its own rule. -/
theorem State.takeRequest_of_room (h : s.bus.inbox.head? = some m) (hk : m.kind.toNat = kind)
    (room : s.bus.outbox.length < 16) :
    s.takeRequest kind good admits own =
      s.popInbox.answerTo m (requestReply (good m.body.length) admits s.popInbox (own s.popInbox m.body)) := by
  obtain ⟨rest, e⟩ := exists_of_head h
  simp [State.takeRequest, e, hk, State.outRoom_eq_true room]

end

/-- Settles O6: every request command takes a request by `State.takeRequest`, which waits for room. -/
theorem requestWaitsForOutboxRoom : Obligations.RequestWaitsForOutboxRoom := by
  intro q hq s m head kind full
  obtain ⟨own, takes⟩ := exec_requestCommands q hq
  refine ⟨_, takes s, ?_⟩
  rw [State.takeRequest_of_full head kind full]
  unfold State.waitForRoom
  split
  · rename_i waited
    refine ⟨?_, .of_eq rfl⟩
    rw [← waited]
  · exact ⟨rfl, (State.gained_bump .requestWaited).base rfl⟩

/-- A counted refusal changes the port and the handler's counters alone. -/
theorem State.refusedCounted (s : State) (m : InMsg) (c : OutcomeCode) (k : Counter) :
    s.popInbox.answerTo m (.refuseCounted c k) =
        { s with
          bus := s.bus.answered m c [], waited := false
          counters := (s.popInbox.answerTo m (.refuseCounted c k)).counters } ∧
      s.Gained (s.popInbox.answerTo m (.refuseCounted c k)) [k, .requestsTaken] :=
  ⟨rfl, (((State.gained_bump k).bump .requestsTaken).perm (.swap ..)).base rfl⟩

/-- Settles O7: the two checks come before the request's own rule. -/
theorem misfitRequestsAreRefused : Obligations.MisfitRequestsAreRefused := by
  intro q hq s m head kind room
  obtain ⟨own, takes⟩ := exec_requestCommands q hq
  refine ⟨fun short => ⟨_, takes s, ?_⟩, fun good unset none => ⟨_, takes s, ?_⟩⟩ <;>
    rw [State.takeRequest_of_room head kind room]
  · rw [requestReply, short]
    exact s.refusedCounted m .badLength .badLength
  · rw [requestReply, good, unset, show s.popInbox.setup = Option.none from none]
    exact s.refusedCounted m .notSet .notSet

theorem knownKind_iff (k : Nat) :
    knownKind k = true ↔ (1 ≤ k ∧ k ≤ 5) ∨ (8 ≤ k ∧ k ≤ 10) ∨ k = 16 ∨ (20 ≤ k ∧ k ≤ 41) ∨ (48 ≤ k ∧ k ≤ 55) := by
  simp only [knownKind, isAnswerOrNotice, isPeer, isRequest, Bool.or_eq_true, Bool.and_eq_true, decide_eq_true_eq,
    beq_iff_eq]
  omega

theorem isAnswerOrNotice_iff (k : Nat) :
    isAnswerOrNotice k = true ↔ (1 ≤ k ∧ k ≤ 5) ∨ k = 16 ∨ (48 ≤ k ∧ k ≤ 55) := by
  simp only [isAnswerOrNotice, Bool.or_eq_true, Bool.and_eq_true, decide_eq_true_eq, beq_iff_eq]
  omega

/-- Settles O8: the model's lists of kinds are those of the formats. -/
theorem otherHeadsAreAnsweredOrDiscarded : Obligations.OtherHeadsAreAnsweredOrDiscarded := by
  intro s m head k given
  obtain ⟨rest, inbox⟩ := exists_of_head head
  refine ⟨fun unknown room => ⟨_, rfl, ?_⟩, fun foreign => ⟨_, rfl, ?_⟩⟩
  · have unknown : knownKind m.kind.toNat = false := by
      rw [← Bool.not_eq_true, knownKind_iff]
      exact unknown
    have taken : s.takeUnknown = s.popInbox.answerTo m (.refuseCounted .badKind .badKind) := by
      simp [State.takeUnknown, inbox, unknown, State.outRoom_eq_true room]
    rw [taken]
    exact s.refusedCounted m .badKind .badKind
  · have foreign : isAnswerOrNotice m.kind.toNat = true := (isAnswerOrNotice_iff _).mpr foreign
    have dropped : s.dropForeign = s.popInbox.bump .foreignMessage := by
      simp [State.dropForeign, inbox, foreign]
    rw [dropped]
    exact ⟨rfl, (State.gained_bump .foreignMessage).base rfl⟩

/-! ### SETUP (R209, R210) -/

/-- A request that is refused by its own rule. -/
theorem answers_of_refuse {c : Instr} {r : Reply} {k : OutcomeCode} (h : exec c s = .next (s.popInbox.answerTo m r))
    (hr : r = .refuse k) : ∃ t, exec c s = .next t ∧ s.Answers t m k [] :=
  ⟨_, h, hr ▸ State.answers_refuse m k⟩

theorem exec_setup_of_asks (h : s.Asks m 20 16) :
    exec .setup s = .next (s.popInbox.answerTo m (setupReply s.popInbox m.body)) :=
  congrArg Host.Outcome.next (State.takeRequest_eq h rfl (.inr rfl))

theorem State.startWaiting_framer (s : State) :
    s.startWaiting.framer = { s.framer with
      sending := if s.framer.sending = none then s.framer.waiting else s.framer.sending
      waiting := if s.framer.sending = none then none else s.framer.waiting } := by
  unfold State.startWaiting
  rcases hf : s.framer with ⟨queue, run, silence, age, _ | sent, _ | held, header⟩ <;> simp [hf]

theorem State.sendIdleHeader_framer {dark : List HomeIdx} (h : s.darkSet = dark) :
    s.sendIdleHeader.framer = { s.framer with
      header := some { round := s.clock.round, idleFill := true, dark, map := none, directives := [] }
      sending := if s.framer.sending = none then s.framer.waiting else s.framer.sending
      waiting := if s.framer.sending = none then none else s.framer.waiting } :=
  h ▸ State.startWaiting_framer _

theorem State.tickSilence_framer (s : State) :
    s.tickSilence.framer = { s.framer with
      silenceAge := if s.framer.silence then s.framer.silenceAge + 1 else s.framer.silenceAge } := by
  unfold State.tickSilence
  split <;> rfl

@[simp] theorem State.tickSilence_homes (s : State) : s.tickSilence.homes = s.homes := by
  unfold State.tickSilence
  split <;> rfl

theorem State.darkSet_congr (h : t.homes = s.homes) : t.darkSet = s.darkSet := by
  simp only [State.darkSet, State.entry_congr h]

theorem State.acceptSetup_framer (s : State) (p : Params) :
    (s.acceptSetup p).framer = { s.framer with
      header := some { round := 0, idleFill := true, dark := s.darkSet, map := none, directives := [] }
      silenceAge := if s.framer.silence then s.framer.silenceAge + 1 else s.framer.silenceAge
      sending := if s.framer.sending = none then s.framer.waiting else s.framer.sending
      waiting := if s.framer.sending = none then none else s.framer.waiting } := by
  unfold State.acceptSetup State.expectUnmapped
  dsimp only
  rw [State.sendIdleHeader_framer (dark := s.darkSet)]
  · dsimp only
    rw [State.tickSilence_framer]
  · exact State.darkSet_congr s.tickSilence_homes

theorem bool_toNat (b : Bool) : b.toNat = if b then 1 else 0 := by cases b <;> rfl

theorem Params.bytes_eq (p : Params) :
    p.bytes =
      bytesOf 2 p.upkeep ++ bytesOf 2 p.period ++ bytesOf 4 p.epoch ++ bytesOf 1 p.stray ++ bytesOf 1 p.dirtyLen
        ++ bytesOf 1 p.cleanLen ++ bytesOf 1 p.errMax ++ bytesOf 1 p.misLim
        ++ bytesOf 1 (if p.autoIsolate then 1 else 0) ++ bytesOf 1 p.report.toNat := by
  rw [Params.bytes, bool_toNat]

/-- Settles O4: the acceptance follows the answer. -/
theorem setupStartsThePart : Obligations.SetupStartsThePart := by
  intro s m asks
  have runs := exec_setup_of_asks asks
  refine ⟨fun set => answers_of_refuse runs ?_, fun unset => ⟨_, runs, ?_⟩⟩
  · obtain ⟨p, hp⟩ := Option.isSome_iff_exists.mp set
    rw [setupReply, show s.popInbox.setup = some p from hp]
  · rw [setupReply, show s.popInbox.setup = none from unset]
    dsimp only
    rw [State.answerTo_effect, State.acceptSetup_frame, State.acceptSetup_framer]
    refine ⟨rfl, rfl, rfl, rfl, rfl, rfl, rfl, rfl, fun i => by simp [State.liveRecord], rfl, rfl, rfl, ?_,
      ((State.Gained.of_eq rfl).bump .requestsTaken).congr rfl, rfl⟩
    exact congrArg (s.bus.answered m _) (Params.bytes_eq _)

theorem setupValue_eq (mask bit default : Nat) {lo hi : Nat} (h : lo ≤ hi) (v : Nat) :
    (setupValue mask bit default lo hi v).1 = if mask.testBit bit then default else nearest lo hi v := by
  unfold setupValue nearest clampTo
  split
  · rfl
  · dsimp only
    split_ifs <;> omega

/-- The second part of a Setup value says whether a carried value was replaced. -/
theorem setupValue_moved (mask bit default : Nat) {lo hi : Nat} (h : lo ≤ hi) (v : Nat) :
    (setupValue mask bit default lo hi v).2 = true ↔ mask.testBit bit = false ∧ (v < lo ∨ hi < v) := by
  unfold setupValue clampTo
  split <;> rename_i masked
  · simp [masked]
  · simp only [Bool.not_eq_true] at masked
    simp only [masked, bne_iff_ne, true_and]
    omega

theorem byteAt_le (b : List Byte) (n : Nat) : byteAt b n ≤ 255 := Nat.le_of_lt_succ (field_lt b n 1)

/-- Settles O5: each value is `setupValue` of its range. -/
theorem setupValuesLieInRange : Obligations.SetupValuesLieInRange := by
  intro body
  refine ⟨setupValue_bounds (by decide) (by decide) .., setupValue_bounds (by decide) (by decide) ..,
    setupValue_bounds (by decide) (by decide) .., setupValue_bounds (by decide) (by decide) ..,
    setupValue_bounds (by decide) (by decide) .., setupValue_bounds (by decide) (by decide) ..,
    (setupValue_bounds (by decide) (by decide) ..).2, setupValue_bounds (by decide) (by decide) ..,
    setupValue_eq _ _ _ (by decide) _, setupValue_eq _ _ _ (by decide) _, setupValue_eq _ _ _ (by decide) _,
    setupValue_eq _ _ _ (by decide) _, setupValue_eq _ _ _ (by decide) _, setupValue_eq _ _ _ (by decide) _,
    setupValue_eq _ _ _ (by decide) _, setupValue_eq _ _ _ (by decide) _, decide_eq_true_iff, ?_, ?_⟩
  · exact Nat.mod_eq_of_lt (by omega)
  · have errMax : ¬ (byteAt body 11 < 0 ∨ 255 < byteAt body 11) := by
      have := byteAt_le body 11
      omega
    simp only [setupParams, Bool.or_eq_true, decide_eq_true_eq, setupValue_moved _ _ _ (show 4 ≤ 256 by decide),
      setupValue_moved _ _ _ (show 8 ≤ 1024 by decide), setupValue_moved _ _ _ (show 2000 ≤ 4294967295 by decide),
      setupValue_moved _ _ _ (show 1 ≤ 255 by decide), setupValue_moved _ _ _ (show 2 ≤ 16 by decide),
      setupValue_moved _ _ _ (show 4 ≤ 64 by decide), setupValue_moved _ _ _ (show 0 ≤ 255 by decide),
      setupValue_moved _ _ _ (show 4 ≤ 31 by decide), errMax, and_false, or_false, or_assoc]

end Sys2Proof.Machine

/-! Requests on one home (R17, R40 to R42, R76, R96, R146). -/

namespace Sys2Proof.Machine

open Sys2Proof

variable {s t : State} {m : InMsg} {i : HomeIdx}

/-! ### Requests on an index -/

theorem onIndex_of_gt {n : Nat} (h : 63 < n) (f : HomeIdx → Reply) : onIndex n f = .refuse .badIndex := by
  simp [onIndex, indexOf, show ¬ n < 64 by omega]

theorem onIndex_of_eq {n : Nat} (h : n = i.val) (f : HomeIdx → Reply) : onIndex n f = f i := by
  subst h
  simp [onIndex, indexOf]

/-- What an executed request leaves. -/
theorem exec_of_done {c : Instr} {r : Reply} {k : OutcomeCode} {data : List Byte} {f : State → State}
    (h : exec c s = .next (s.popInbox.answerTo m r)) (hr : r = .done k data f) :
    exec c s = .next ((f (s.answered m k data)).bump .requestsTaken) := by
  subst hr
  exact h

/-- A home that a request departs has departed from the part as it was before the answer. -/
theorem State.Departs.of_answered {k : OutcomeCode} {data : List Byte} {q : RetireReason} {l : Option Directive}
    (h : (s.answered m k data).Departs t i q l) : s.Departs t i q l := h.head rfl

theorem State.partingMessages_congr (hh : t.homes = s.homes) (hr : t.rogue = s.rogue) (hs : t.setup = s.setup)
    (i : HomeIdx) (round : Round) : t.partingMessages i round = s.partingMessages i round := by
  simp only [State.partingMessages, State.cancelMessages, State.home_congr hh, State.entry_congr hh, hr,
    State.reportStation_congr hs]

theorem Entry.leaveDirective_of_tag {e : Entry} {x : Tag} (h : e.tag = some x) (i : HomeIdx) :
    e.leaveDirective i = if e.state = .ranging then .leaveTag x else .leaveIndex i := by
  simp [Entry.leaveDirective, Entry.tagVal, h]

/-! ### What a departure counts -/

/-- The counters a notice may move. -/
def noticeCounters : List Counter := [.noticesQueued, .noticeDropped]

theorem State.counter_raise {c : Counter} (hc : c ∉ noticeCounters) (n : Notice) :
    (s.raise n).counter c = s.counter c := by
  rw [State.counter_congr (State.raise_counters _ n), State.counter_bump]
  simp only [noticeCounters, List.mem_cons, not_or] at hc
  split_ifs with full e e <;> first | exact absurd e hc.1 | exact absurd e hc.2.1 | rfl

theorem State.counter_cancelRetest {c : Counter} (hc : c ∉ noticeCounters) (i : HomeIdx) :
    (s.cancelRetest i).counter c = s.counter c := by
  unfold State.cancelRetest
  split
  · rfl
  · exact State.counter_raise hc _

theorem State.counter_endUnresolved {c : Counter} (hc : c ∉ noticeCounters) (hu : c ≠ .rogueUnresolved)
    (why : UnresolvedReason) (round : Round) (steps : Nat) (left : List HomeIdx) :
    (s.endUnresolved why round steps left).counter c = s.counter c :=
  (State.counter_raise hc _).trans ((State.counter_bump ..).trans (if_neg hu))

/-- A part that is not Probing has no candidate to drop. -/
theorem State.dropCandidate_of_idle (h : s.rogue.iso.cands = none) (i : HomeIdx) (round : Round) :
    s.dropCandidate i round = s := by
  unfold State.dropCandidate
  split
  · rename_i e
    rw [e] at h
    cases h
  · rfl

theorem State.counter_dropCandidate {c : Counter} (hc : c ∉ noticeCounters)
    (hu : c ≠ .rogueUnresolved ∨ s.rogue.iso.cands = none) (i : HomeIdx) (round : Round) :
    (s.dropCandidate i round).counter c = s.counter c := by
  rcases hu with hu | idle
  · unfold State.dropCandidate
    split
    · split
      · dsimp only
        split
        · exact State.counter_endUnresolved hc hu ..
        · rfl
      · rfl
    · rfl
  · rw [State.dropCandidate_of_idle idle]

theorem State.counter_retire {c : Counter} (hc : c ∉ noticeCounters)
    (hu : c ≠ .rogueUnresolved ∨ s.rogue.iso.cands = none) (i : HomeIdx) (q : RetireReason) (round : Round) :
    (s.retire i q round).counter c = s.counter c :=
  (State.counter_dropCandidate hc (hu.imp_right fun idle => by simpa using idle) ..).trans
    ((State.counter_congr (State.flagRecord_counters ..) c).trans (State.counter_cancelRetest hc i))

theorem State.counter_leaveFor {c : Counter} (hc : c ∉ noticeCounters)
    (hu : c ≠ .rogueUnresolved ∨ s.rogue.iso.cands = none) (i : HomeIdx) (q : RetireReason) (round : Round) :
    (s.leaveFor i q round).counter c = s.counter c := by
  unfold State.leaveFor
  split
  · exact State.counter_retire hc hu ..
  · exact (State.counter_dropCandidate hc (hu.imp_right fun idle => by simpa using idle) ..).trans
      (State.counter_cancelRetest hc i)

theorem State.counter_offerLeave_of_full (h : 32 ≤ s.framer.queue.length) (d : Directive) :
    (s.offerLeave d).counter .leaveDropped = min (s.counter .leaveDropped + 1) counterMax := by
  rw [State.offerLeave, if_neg (by simpa [State.dirRoom] using h), State.counter_bump, if_pos rfl]

theorem State.counter_offerLeave {c : Counter} (hc : c ≠ .leaveDropped) (d : Directive) :
    (s.offerLeave d).counter c = s.counter c := by
  unfold State.offerLeave
  split
  · exact State.counter_congr (State.pushDirective_counters _ d) c
  · rw [State.counter_bump, if_neg hc]

theorem State.counter_endEnrolment {c : Counter} (hc : c ∉ noticeCounters)
    (hu : c ≠ .rogueUnresolved ∨ s.rogue.iso.cands = none) (hl : c ≠ .leaveDropped) (i : HomeIdx) (q : RetireReason)
    (round : Round) : (s.endEnrolment i q round).counter c = s.counter c :=
  (State.counter_offerLeave hl _).trans (State.counter_leaveFor hc hu ..)

theorem State.counter_failEnrolment {c : Counter} (hc : c ∉ noticeCounters)
    (hu : c ≠ .rogueUnresolved ∨ s.rogue.iso.cands = none) (hl : c ≠ .leaveDropped) (i : HomeIdx) (q : RetireReason)
    (why : EnrolReason) (round : Round) : (s.failEnrolment i q why round).counter c = s.counter c :=
  (State.counter_raise hc _).trans (State.counter_endEnrolment hc hu hl ..)

/-! ### REMOVE_HOME (R17) -/

theorem exec_removeHome_of_asks (h : s.Asks m 25 9) (hset : s.setup.isSome) :
    exec .removeHome s = .next (s.popInbox.answerTo m (removeHomeReply s.popInbox m.body)) :=
  congrArg Host.Outcome.next (State.takeRequest_eq h rfl (.inl hset))

/-- A removal takes an entry that is neither Vacant nor Retired off, with its Leave. -/
theorem State.departs_removeHome {x : Tag} (hv : (s.entry i).state ≠ .vacant) (hr : (s.entry i).state ≠ .retired)
    (tag : (s.entry i).tag = some x) :
    s.Departs (s.removeHome i) i .removed
      (some (if (s.entry i).state = .ranging then .leaveTag x else .leaveIndex i)) := by
  unfold State.removeHome
  split
  · rename_i enrolling
    rw [← Entry.leaveDirective_of_tag tag]
    exact s.departs_endEnrolment i _ _ (.inl (EState.enrolling_spec enrolling).2.2)
  · rename_i outside
    have served : (s.entry i).state.inService = true := by
      revert hv hr outside
      cases (s.entry i).state <;> simp [EState.enrolling, EState.inService]
    have notRanging : (s.entry i).state ≠ .ranging := fun e => by simp [e, EState.inService] at served
    rw [if_neg notRanging]
    exact (s.departs_retire i _ _ (.inl served)).leave _ (by simp)

theorem State.removeHome_bus (s : State) (i : HomeIdx) :
    (s.removeHome i).bus = s.bus.offered (s.partingMessages i s.clock.round) := by
  unfold State.removeHome
  split
  · exact State.endEnrolment_bus ..
  · rw [State.offerLeave_bus, State.retire_bus]

@[simp] theorem State.removeHome_bars (s : State) (i : HomeIdx) : (s.removeHome i).bars = s.bars := by
  unfold State.removeHome
  split <;> simp

@[simp] theorem State.removeHome_waited (s : State) (i : HomeIdx) : (s.removeHome i).waited = s.waited := by
  unfold State.removeHome
  split <;> simp

theorem State.counter_removeHome_of_full (h : 32 ≤ s.framer.queue.length) (i : HomeIdx) :
    (s.removeHome i).counter .leaveDropped = min (s.counter .leaveDropped + 1) counterMax := by
  unfold State.removeHome
  split
  · rw [State.endEnrolment, State.counter_offerLeave_of_full (by simpa using h),
      State.counter_leaveFor (by decide) (.inl (by decide))]
  · rw [State.counter_offerLeave_of_full (by simpa using h),
      State.counter_retire (by decide) (.inl (by decide))]

/-- Settles O13: the checks in order, then the departure after the answer. -/
theorem removeHomeTakesHomeOff : Obligations.RemoveHomeTakesHomeOff := by
  intro s m asks set
  have runs := exec_removeHome_of_asks asks set
  refine ⟨fun big => answers_of_refuse runs (onIndex_of_gt big _), fun i index => ?_⟩
  have reply := onIndex_of_eq index (i := i) fun i =>
    let e := s.popInbox.entry i
    if e.state = .vacant ∨ e.state = .retired then .refuse .badState
    else if e.tag ≠ some (tagAt m.body 1) then .refuse .tagMismatch
    else .done .ok [] fun s => s.removeHome i
  refine ⟨fun gone => answers_of_refuse runs (reply.trans (if_pos gone)), fun hv hr other => ?_, fun hv hr tag => ?_⟩
  · exact answers_of_refuse runs (reply.trans ((if_neg (not_or.mpr ⟨hv, hr⟩)).trans (if_pos other)))
  · refine ⟨_, exec_of_done runs (reply.trans ((if_neg (not_or.mpr ⟨hv, hr⟩)).trans (if_neg (not_not.mpr tag)))), ?_⟩
    let a := s.answered m .ok []
    have departs : a.Departs (a.removeHome i) i .removed _ := State.departs_removeHome hv hr tag
    refine ⟨departs.of_answered.bump _, a.removeHome_bars i, a.removeHome_waited i, ?_, fun full => ?_⟩
    · exact (a.removeHome_bus i).trans (congrArg _ (State.partingMessages_congr rfl rfl rfl i s.clock.round))
    · exact (State.counter_bump ..).trans (a.counter_removeHome_of_full full i)

/-! ### APPROVE and DENY (R40, R41) -/

theorem exec_approve_of_asks (h : s.Asks m 26 9) (hset : s.setup.isSome) :
    exec .approve s = .next (s.popInbox.answerTo m (approveReply s.popInbox m.body)) :=
  congrArg Host.Outcome.next (State.takeRequest_eq h rfl (.inl hset))

theorem exec_deny_of_asks (h : s.Asks m 27 9) (hset : s.setup.isSome) :
    exec .deny s = .next (s.popInbox.answerTo m (denyReply s.popInbox m.body)) :=
  congrArg Host.Outcome.next (State.takeRequest_eq h rfl (.inl hset))

section
variable {body : List Byte} {effect : HomeIdx → State → State}

theorem heldReply_of_gt (h : 63 < byteAt body 0) : heldReply s body effect = .refuse .badIndex := onIndex_of_gt h _

theorem heldReply_of_state (h : byteAt body 0 = i.val) (hs : (s.entry i).state ≠ .held) :
    heldReply s body effect = .refuse .badState := (onIndex_of_eq h _).trans (if_pos hs)

theorem heldReply_of_other (h : byteAt body 0 = i.val) (hs : (s.entry i).state = .held)
    (other : (s.entry i).tag ≠ some (tagAt body 1)) : heldReply s body effect = .refuse .tagMismatch :=
  (onIndex_of_eq h _).trans ((if_neg (not_not.mpr hs)).trans (if_pos other))

theorem heldReply_of_tag (h : byteAt body 0 = i.val) (hs : (s.entry i).state = .held)
    (tag : (s.entry i).tag = some (tagAt body 1)) : heldReply s body effect = .done .ok [] (effect i) :=
  (onIndex_of_eq h _).trans ((if_neg (not_not.mpr hs)).trans (if_neg (not_not.mpr tag)))

end

/-- A peer message that finds no room is counted. -/
theorem State.gained_sendPeer (s : State) (o : OutMsg) :
    s.Gained (s.sendPeer o) (if s.bus.outbox.length < 16 then [] else [.claimUnsent]) := by
  unfold State.sendPeer
  split_ifs with room free free
  · exact .of_eq rfl
  · exact absurd (of_decide_eq_true room) free
  · exact absurd (decide_eq_true free) room
  · exact State.gained_bump _

theorem State.approveHome_eq (s : State) (i : HomeIdx) :
    s.approveHome i = ((s.modHome i Home.approved).makeRecord i).sendPeer
      (claimMessage (s.entry i).tagVal s.straps.station i) := by
  have tag : ((s.modHome i Home.approved).entry i).tagVal = (s.entry i).tagVal := by
    rw [State.entry, State.home_modHome, if_pos rfl]
    rfl
  rw [← tag]
  rfl

theorem State.approveHome_frame (s : State) (i : HomeIdx) :
    s.approveHome i = { s with
      homes := (s.modHome i Home.approved).homes, banks := { s.banks with live := (s.approveHome i).banks.live }
      bus := (s.approveHome i).bus, counters := (s.approveHome i).counters } := by
  rw [State.approveHome_eq, State.sendPeer_eq, State.makeRecord_frame]
  rfl

theorem State.approveHome_home (s : State) (i j : HomeIdx) :
    (s.approveHome i).home j = if j = i then Home.approved (s.home i) else s.home j := by
  rw [State.home_congr (s := s.modHome i Home.approved) (by rw [State.approveHome_frame]), State.home_modHome]

theorem State.approveHome_bus (s : State) (i : HomeIdx) :
    (s.approveHome i).bus = s.bus.offered [claimMessage (s.entry i).tagVal s.straps.station i] := by
  rw [State.approveHome_eq, State.sendPeer_bus, State.makeRecord_frame]
  rfl

theorem State.gained_approveHome (s : State) (i : HomeIdx) :
    s.Gained (s.approveHome i) (if s.bus.outbox.length < 16 then [] else [.claimUnsent]) := by
  have sent := ((s.modHome i Home.approved).makeRecord i).gained_sendPeer
    (claimMessage (s.entry i).tagVal s.straps.station i)
  rw [← State.approveHome_eq, State.makeRecord_frame] at sent
  exact sent.base rfl

/-- An approval continues the record its index has, or makes a Partial one. -/
theorem State.approveHome_liveRecord (s : State) (i j : HomeIdx) :
    (s.approveHome i).liveRecord j =
      if j = i ∧ s.banks.live.isSome then
        (s.liveRecord i).or
          (some (.fresh (s.entry i).tagVal s.clock.round { RecFlags.clear with partialEpoch := true }))
      else s.liveRecord j := by
  have banks : (s.approveHome i).banks = ((s.modHome i Home.approved).makeRecord i).banks := by
    rw [State.approveHome_eq, State.sendPeer_banks]
  rw [State.liveRecord_congr banks]
  by_cases live : s.banks.live.isSome
  · rw [State.liveRecord_makeRecord (s := s.modHome i Home.approved) live, State.entry, State.home_modHome, if_pos rfl]
    simp only [live, and_true]
    rfl
  · have none : s.banks.live = none := by simpa using live
    simp [State.makeRecord, State.liveRecord, none]

/-- Settles O14: the Held entry is approved and its record made, and the Claim follows. -/
theorem approveBringsHomeIntoService : Obligations.ApproveBringsHomeIntoService := by
  intro s m asks set
  have runs := exec_approve_of_asks asks set
  refine ⟨fun big => answers_of_refuse runs (heldReply_of_gt big), fun i index =>
    ⟨fun other => answers_of_refuse runs (heldReply_of_state index other),
      fun held other => answers_of_refuse runs (heldReply_of_other index held other), fun held tag =>
      ⟨_, exec_of_done runs (heldReply_of_tag index held tag), ?_⟩⟩⟩
  let a := s.answered m .ok []
  have tagVal : (a.entry i).tagVal = tagAt m.body 1 := congrArg (Option.getD · 0) tag
  have record := a.approveHome_liveRecord i
  refine ⟨(a.approveHome_home i i).trans (if_pos rfl),
    fun j hj => ⟨(a.approveHome_home i j).trans (if_neg hj), (record j).trans (if_neg fun e => hj e.1)⟩,
    fun r hr => ?_, fun live none => ?_, ?_, ?_, ?_⟩
  · refine (record i).trans ?_
    rw [show a.liveRecord i = some r from hr]
    exact ite_id (some r)
  · refine (record i).trans ((if_pos ⟨rfl, live⟩).trans ?_)
    rw [show a.liveRecord i = Option.none from none, tagVal]
    rfl
  · refine (a.approveHome_bus i).trans ?_
    rw [tagVal]
    rfl
  · have sent := ((a.gained_approveHome i).bump .requestsTaken).base (u := s) rfl
    have room : a.bus.outbox.length < 16 ↔ s.bus.outbox.length < 15 := by
      simp only [a, State.answered, Bus.answered, List.length_append, List.length_singleton]
      omega
    simp only [room] at sent
    split_ifs at sent ⊢ with free
    · exact sent
    · exact sent.perm (.swap ..)
  · show (a.approveHome i).bump .requestsTaken = _
    rw [State.approveHome_frame]
    rfl

/-- Settles O15: the enrolment ends after the answer. -/
theorem denyEndsEnrolment : Obligations.DenyEndsEnrolment := by
  intro s m asks set
  have runs := exec_deny_of_asks asks set
  refine ⟨fun big => answers_of_refuse runs (heldReply_of_gt big), fun i index =>
    ⟨fun other => answers_of_refuse runs (heldReply_of_state index other),
      fun held other => answers_of_refuse runs (heldReply_of_other index held other), fun held tag =>
      ⟨_, exec_of_done runs (heldReply_of_tag index held tag), ?_⟩⟩⟩
  let a := s.answered m .ok []
  have departs := a.departs_endEnrolment i .removed s.clock.round
    (.inl (by rw [show (a.entry i).state = .held from held]; rfl))
  have leave : (a.entry i).leaveDirective i = .leaveIndex i :=
    if_neg (by rw [show (a.entry i).state = .held from held]; decide)
  rw [leave] at departs
  exact ⟨departs.of_answered.bump _, State.endEnrolment_bars .., State.endEnrolment_waited ..,
    (a.endEnrolment_bus ..).trans (congrArg _ (State.partingMessages_congr rfl rfl rfl i _))⟩

/-! ### RETEST (R42) -/

theorem exec_retest_of_asks (h : s.Asks m 28 1) (hset : s.setup.isSome) :
    exec .retest s = .next (s.popInbox.answerTo m (retestReply s.popInbox m.body)) :=
  congrArg Host.Outcome.next (State.takeRequest_eq h rfl (.inl hset))

/-- A request that changes one home alone, after its answer. -/
theorem State.answered_modHome (s : State) (m : InMsg) (k : OutcomeCode) (data : List Byte) (i : HomeIdx)
    (f : Home → Home) {t : State} (e : t = ((s.answered m k data).modHome i f).bump .requestsTaken) :
    t.home i = f (s.home i) ∧ (∀ j, j ≠ i → t.home j = s.home j) ∧ s.Gained t [.requestsTaken] ∧
      t = { s with homes := t.homes, bus := s.bus.answered m k data, counters := t.counters, waited := false } := by
  subst e
  refine ⟨(State.home_modHome _ i i f).trans (if_pos rfl), fun j hj => (State.home_modHome _ i j f).trans (if_neg hj),
    (State.gained_bump _).base rfl, rfl⟩

/-- Settles O16. -/
theorem retestBecomesPending : Obligations.RetestBecomesPending := by
  intro s m asks set
  have runs := exec_retest_of_asks asks set
  refine ⟨fun big => answers_of_refuse runs (onIndex_of_gt big _), fun i index => ?_⟩
  have reply : retestReply s.popInbox m.body = _ := onIndex_of_eq index (i := i) _
  refine ⟨fun busy => answers_of_refuse runs (reply.trans (if_pos busy)), fun active idle =>
    ⟨_, exec_of_done runs (reply.trans (if_neg ?_)), s.answered_modHome m .ok [] i _ rfl⟩⟩
  exact not_or.mpr ⟨not_not.mpr active, not_not.mpr idle⟩

/-! ### RELEASE_MUTE (R146) -/

theorem exec_releaseMute_of_asks (h : s.Asks m 35 1) (hset : s.setup.isSome) :
    exec .releaseMute s = .next (s.popInbox.answerTo m (releaseMuteReply s.popInbox m.body)) :=
  congrArg Host.Outcome.next (State.takeRequest_eq h rfl (.inl hset))

/-- Settles O19. -/
theorem releaseMuteReturnsHome : Obligations.ReleaseMuteReturnsHome := by
  intro s m asks set
  have runs := exec_releaseMute_of_asks asks set
  refine ⟨fun big => answers_of_refuse runs (onIndex_of_gt big _), fun i index => ?_⟩
  have reply : releaseMuteReply s.popInbox m.body = _ := onIndex_of_eq index (i := i) _
  exact ⟨fun other => answers_of_refuse runs (reply.trans (if_pos other)), fun muted =>
    ⟨_, exec_of_done runs (reply.trans (if_neg (not_not.mpr muted))), s.answered_modHome m .ok [] i _ rfl⟩⟩

/-! ### SET_SHARE (R76, R77) -/

theorem exec_setShare_of_asks (h : s.Asks m 32 4) (hset : s.setup.isSome) :
    exec .setShare s = .next (s.popInbox.answerTo m (setShareReply s.popInbox m.body)) :=
  congrArg Host.Outcome.next (State.takeRequest_eq h rfl (.inl hset))

theorem State.shareSumWith_add (s : State) (i : HomeIdx) (g : Nat) :
    s.shareSumWith i g + (s.entry i).share = s.shareSum + g := by
  have sum (f : HomeIdx → Nat) : (allIdx.map f).sum = ∑ j, f j := (Fin.sum_univ_def f).symm
  have split (f : HomeIdx → Nat) := (Finset.add_sum_erase Finset.univ f (Finset.mem_univ i)).symm
  have rest : ∑ j ∈ Finset.univ.erase i, (if j = i then g else (s.entry j).share) =
      ∑ j ∈ Finset.univ.erase i, (s.entry j).share :=
    Finset.sum_congr rfl fun j hj => if_neg (Finset.ne_of_mem_erase hj)
  rw [State.shareSumWith, State.shareSum, sum, sum, split, split fun j => (s.entry j).share, rest, if_pos rfl]
  omega

/-- Settles O17: the share limit compares the sum with the entry's share replaced. -/
theorem setShareTakesValuesWithinLimit : Obligations.SetShareTakesValuesWithinLimit := by
  intro s m asks set g w
  have runs := exec_setShare_of_asks asks set
  have weight : clampTo 1 16 (byteAt m.body 3) = w := rfl
  refine ⟨fun big => answers_of_refuse runs (onIndex_of_gt big _), fun i index => ?_⟩
  have reply : setShareReply s.popInbox m.body = _ := onIndex_of_eq index (i := i) _
  have sum : s.popInbox.shareSumWith i g + (s.entry i).share = s.shareSum + g := s.shareSumWith_add i g
  have limit : 2400 < s.popInbox.shareSumWith i g ↔ 2400 + (s.entry i).share < s.shareSum + g := by omega
  refine ⟨fun outside => answers_of_refuse runs (reply.trans (if_pos ?_)), fun served beyond =>
    answers_of_refuse runs (reply.trans ((if_neg ?_).trans (if_pos (limit.mpr beyond)))), fun served within =>
    ⟨_, exec_of_done runs (reply.trans ((if_neg ?_).trans (if_neg (limit.not.mpr within.not_gt)))),
      s.answered_modHome m _ _ i _ rfl⟩⟩
  · exact congrArg not outside
  · simp [show (s.popInbox.entry i).state.inService = true from served]
  · simp [show (s.popInbox.entry i).state.inService = true from served]

/-! ### WAKE_HOME and DOZE_EXPIRY (R95, R96) -/

theorem exec_wakeHome_of_asks (h : s.Asks m 33 1) (hset : s.setup.isSome) :
    exec .wakeHome s = .next (s.popInbox.answerTo m (wakeHomeReply s.popInbox m.body)) :=
  congrArg Host.Outcome.next (State.takeRequest_eq h rfl (.inl hset))

/-- A woken home, and the Wake that the queue takes or the planner keeps. -/
theorem State.wakeHome_spec (s : State) (i : HomeIdx) :
    (s.wakeHome i).home i = wokenHome s i ∧ (∀ j, j ≠ i → (s.wakeHome i).home j = s.home j) ∧
      s.Gained (s.wakeHome i) (if s.framer.queue.length < 32 then [] else [.directiveWait]) ∧
      s.wakeHome i = { s with
        homes := (s.wakeHome i).homes, framer := { s.framer with queue := joined s.framer.queue (.wake i) }
        counters := (s.wakeHome i).counters } := by
  by_cases room : s.framer.queue.length < 32
  · have queued : s.wakeHome i = (s.modEntry i Entry.woken).pushDirective (.wake i) :=
      if_pos (decide_eq_true room)
    have home (j : HomeIdx) : (s.wakeHome i).home j = (s.modEntry i Entry.woken).home j := by
      rw [queued]
      rfl
    refine ⟨?_, fun j hj => ?_, ?_, ?_⟩
    · rw [home, State.home_modEntry, if_pos rfl, wokenHome, decide_eq_false (not_le.mpr room), Bool.or_false]
      rfl
    · rw [home, State.home_modEntry, if_neg hj]
    · rw [if_pos room, queued]
      exact .of_eq rfl
    · rw [joined, if_pos room, queued]
      rfl
  · have kept : s.wakeHome i =
        ((s.modEntry i Entry.woken).modHome i fun h => { h with keptWake := true }).bump .directiveWait :=
      if_neg fun e => room (of_decide_eq_true e)
    have home (j : HomeIdx) : (s.wakeHome i).home j =
        ((s.modEntry i Entry.woken).modHome i fun h => { h with keptWake := true }).home j := by
      rw [kept]
      rfl
    refine ⟨?_, fun j hj => ?_, ?_, ?_⟩
    · rw [home, State.home_modHome, if_pos rfl, State.home_modEntry, if_pos rfl, wokenHome,
        decide_eq_true (not_lt.mp room), Bool.or_true]
      rfl
    · rw [home, State.home_modHome, if_neg hj, State.home_modEntry, if_neg hj]
    · rw [if_neg room, kept]
      exact (State.gained_bump _).base rfl
    · rw [joined, if_neg room, kept]
      rfl

/-- Settles O18: the request and the expiry both wake the home. -/
theorem dozeEndsByRequestOrExpiry : Obligations.DozeEndsByRequestOrExpiry := by
  intro s i
  refine ⟨fun m asks set => ?_, fun dozing ended => ⟨s.wakeHome i, ?_, s.wakeHome_spec i⟩, fun other => ?_⟩
  · have runs := exec_wakeHome_of_asks asks set
    refine ⟨fun big => answers_of_refuse runs (onIndex_of_gt big _), fun index other => ?_, fun index dozing => ?_⟩
    · exact answers_of_refuse runs ((onIndex_of_eq index _).trans (if_pos other))
    · refine ⟨_, exec_of_done runs ((onIndex_of_eq index _).trans (if_neg (not_not.mpr dozing))), ?_⟩
      let a := s.answered m .ok []
      obtain ⟨home, others, gained, frame⟩ := a.wakeHome_spec i
      refine ⟨home, others, ?_, ?_⟩
      · have counted := (gained.bump .requestsTaken).base (u := s) rfl
        split_ifs with room
        · rwa [if_pos (show a.framer.queue.length < 32 from room)] at counted
        · rw [if_neg (show ¬ a.framer.queue.length < 32 from room)] at counted
          exact counted.perm (.swap ..)
      · show (a.wakeHome i).bump .requestsTaken = _
        rw [frame]
        rfl
  · exact congrArg Host.Outcome.next (if_pos ⟨dozing, ended⟩)
  · exact congrArg Host.Outcome.next (if_neg fun e => other.elim (· e.1) (· e.2))

end Sys2Proof.Machine

/-! The claim unit: claims, counter-claims and the bar list (R49 to R60). -/

namespace Sys2Proof.Machine

open Sys2Proof

variable {s t : State} {m : InMsg} {i : HomeIdx} {x : Tag}

/-! ### The lookup of a tag (R4) -/

theorem State.holder_eq_some_iff : s.holder x = some i ↔ s.Finds x i := by
  have found : s.holder x = some i ↔
      ((s.entry i).state ≠ .vacant ∧ (s.entry i).tag = some x) ∧
        ∀ j, j < i → ¬ ((s.entry j).state ≠ .vacant ∧ (s.entry j).tag = some x) := by
    rw [State.holder, allIdx, ← Fin.find?_eq_find?_finRange, Fin.find?_eq_some_iff]
    simp
  rw [found]
  refine ⟨fun ⟨⟨state, holds⟩, lowest⟩ => ⟨state, holds, fun j hj => ?_⟩,
    fun ⟨state, holds, lowest⟩ => ⟨⟨state, holds⟩, fun j hj other => ?_⟩⟩
  · by_contra other
    push Not at other
    exact lowest j hj other
  · exact (lowest j hj).elim other.1 (absurd other.2)

theorem State.holder_eq_none_iff : s.holder x = none ↔ s.NotHeld x := by
  refine ⟨fun none => State.holder_none none, fun free => ?_⟩
  by_contra held
  obtain ⟨i, hi⟩ := Option.ne_none_iff_exists'.mp held
  obtain ⟨state, holds⟩ := State.holder_some hi
  exact (free i).elim state (absurd holds)

theorem State.Finds.tagVal (h : s.Finds x i) : (s.entry i).tagVal = x := congrArg (Option.getD · 0) h.holds

/-- The target of a bar: the enrolment that holds its tag. -/
theorem State.Finds.barTarget (h : s.Finds x i) :
    s.barTarget x = if (s.entry i).state.enrolling then some i else none := by
  rw [State.barTarget, State.holder_eq_some_iff.mpr h]

theorem State.barTarget_none (h : s.NotHeld x ∨ ∃ i, s.Finds x i ∧ (s.entry i).state.enrolling = false) :
    s.barTarget x = none := by
  rcases h with free | ⟨i, finds, outside⟩
  · rw [State.barTarget, State.holder_eq_none_iff.mpr free]
  · rw [finds.barTarget, if_neg (by simp [outside])]

/-! ### The bar list (R54) -/

theorem barsAfter_getLast? (l : List BarEntry) (e : BarEntry) : (barsAfter l e).getLast? = some e := by
  unfold barsAfter
  split
  · simp
  · split <;> simp

theorem State.gained_addBar (s : State) (x : Tag) (r : BarReason) (o : Station) :
    s.Gained (s.addBar x r o) (if s.barred x then [] else if s.bars.length < 16 then [] else [.barEvicted]) := by
  unfold State.addBar
  dsimp only
  split
  · exact .of_eq rfl
  · split
    · exact .of_eq rfl
    · exact (State.gained_bump _).base rfl

/-- An addition counts an eviction where the tag is new and the list full. -/
theorem evictions_eq (on : Bool) (n : Nat) :
    (if on then [] else if n < 16 then [] else [Counter.barEvicted]) =
      if on = true ∨ n < 16 then [] else [.barEvicted] := by
  by_cases h : on = true <;> simp [h]

/-- Settles O20. -/
theorem barListAdditionPlacesNewest : Obligations.BarListAdditionPlacesNewest := by
  intro s x r o
  have bars := s.addBar_bars x r o
  refine ⟨bars, s.addBar_eq x r o, s.gained_addBar x r o, fun on => ?_, fun size => ?_, fun distinct => ?_, ?_⟩
  · obtain ⟨e, he, same⟩ := List.any_eq_true.mp on
    have shorter : (s.bars.filter fun e => e.tag != x).length < s.bars.length :=
      List.length_filter_lt_length_iff_exists.mpr ⟨e, he, by simpa using same⟩
    have moved : (s.addBar x r o).bars = s.bars.filter (fun e => e.tag != x) ++
        [{ tag := x, reason := r, origin := o }] := bars.trans (if_pos on)
    rw [moved, List.length_append, List.length_singleton]
    exact shorter
  · rw [bars]
    exact barsAfter_length_le size _
  · rw [State.BarsDistinct, bars]
    exact barsAfter_distinct distinct _
  · rw [bars, barsAfter_getLast?]

/-! ### ADD_BAR and CLEAR_BAR (R58, R59) -/

theorem exec_addBar_of_asks (h : s.Asks m 29 8) :
    exec .addBar s = .next (s.popInbox.answerTo m (addBarReply s.popInbox m.body)) :=
  congrArg Host.Outcome.next (State.takeRequest_eq h rfl (.inr rfl))

theorem exec_clearBar_of_asks (h : s.Asks m 30 9) :
    exec .clearBar s = .next (s.popInbox.answerTo m (clearBarReply s.popInbox m.body)) :=
  congrArg Host.Outcome.next (State.takeRequest_eq h rfl (.inr rfl))

/-- A bar with no enrolment to end only joins the list. -/
theorem State.operatorBar_of_none (h : s.barTarget x = none) :
    s.operatorBar x = s.addBar x .operator s.straps.station := by
  have target : (s.addBar x .operator s.straps.station).barTarget x = none :=
    (State.barTarget_congr (by simp) x).trans h
  rw [State.operatorBar, target]

theorem State.operatorBar_of_some (h : s.barTarget x = some i) :
    s.operatorBar x = (s.addBar x .operator s.straps.station).endEnrolment i .lost s.clock.round := by
  have target : (s.addBar x .operator s.straps.station).barTarget x = some i :=
    (State.barTarget_congr (by simp) x).trans h
  rw [State.operatorBar, target, State.addBar_clock]

@[simp] theorem State.operatorBar_bars (s : State) (x : Tag) :
    (s.operatorBar x).bars = barsAfter s.bars { tag := x, reason := .operator, origin := s.straps.station } := by
  rw [← State.addBar_bars]
  cases h : s.barTarget x with
  | none => rw [State.operatorBar_of_none h]
  | some i => rw [State.operatorBar_of_some h, State.endEnrolment_bars]

/-- An enrolment that ends after its tag has joined the bar list has departed from the part before. -/
theorem State.departs_barred {u : State} (hu : u = { s with bars := u.bars, counters := u.counters })
    (finds : s.Finds x i) (enrolling : (s.entry i).state.enrolling) (round : Round) :
    s.Departs (u.endEnrolment i .lost round) i .lost
      (some (if (s.entry i).state = .ranging then .leaveTag x else .leaveIndex i)) := by
  have entry : u.entry i = s.entry i := State.entry_congr (by rw [hu]) i
  have departs := u.departs_endEnrolment i .lost round
    (.inl (by rw [entry]; exact (EState.enrolling_spec enrolling).2.2))
  rw [entry, Entry.leaveDirective_of_tag finds.holds] at departs
  exact departs.head (by rw [hu])

theorem addBarBytes_eq (index : Option HomeIdx) (evicted : Option Tag) :
    addBarBytes index evicted =
      bytesOf 1 ((if index.isSome then 2 else 0) + if evicted.isSome then 1 else 0)
        ++ bytesOf 1 (match index with | some i => i.val | none => 0)
        ++ bytesOf 8 (match evicted with | some t => t.toNat | none => 0) := by
  cases index <;> cases evicted <;> rfl

theorem State.wouldEvict_eq (s : State) (x : Tag) :
    s.wouldEvict x = if s.barred x = true ∨ s.bars.length < 16 then none else s.bars.head?.map fun e => e.tag := by
  unfold State.wouldEvict
  by_cases on : s.barred x = true <;> simp [on]

/-- Settles O21. -/
theorem addBarBarsTagAndEndsEnrolment : Obligations.AddBarBarsTagAndEndsEnrolment := by
  intro s m asks tag on evicted data
  have bytes (index : Option HomeIdx) : addBarBytes index (s.popInbox.wouldEvict tag) = data index := by
    rw [addBarBytes_eq, State.wouldEvict_eq]
    rfl
  let a (index : Option HomeIdx) := s.answered m .ok (data index)
  have runs (index : Option HomeIdx) (target : s.barTarget tag = index) :
      exec .addBar s = .next (((a index).operatorBar tag).bump .requestsTaken) := by
    refine exec_of_done (f := fun u => u.operatorBar tag) (exec_addBar_of_asks asks) ?_
    rw [← bytes, ← target]
    rfl
  refine ⟨_, runs _ rfl, State.operatorBar_bars _ tag, fun i finds enrolling => ?_, fun free => ?_⟩
  · have target : s.barTarget tag = some i := finds.barTarget.trans (if_pos enrolling)
    have ended : (a (some i)).operatorBar tag = _ := State.operatorBar_of_some target
    rw [target, show _ = _ from ended]
    have departs := State.departs_barred (s := a (some i)) (u := (a (some i)).addBar tag .operator s.straps.station)
      (by rw [State.addBar_eq]) ⟨finds.1, finds.2, finds.3⟩ enrolling s.clock.round
    refine ⟨departs.of_answered.bump _, ?_⟩
    · refine (State.endEnrolment_bus ..).trans ?_
      rw [State.partingMessages_congr (s := s) (by rw [State.addBar_eq]; rfl) (by rw [State.addBar_eq]; rfl)
        (by rw [State.addBar_eq]; rfl), State.addBar_bus]
      rfl
  · have target : s.barTarget tag = none := State.barTarget_none free
    have alone : (a none).operatorBar tag = _ := State.operatorBar_of_none target
    rw [target, show _ = _ from alone]
    refine ⟨?_, ?_⟩
    · rw [State.addBar_eq]
      rfl
    · have gained := (((a none).gained_addBar tag .operator s.straps.station).bump .requestsTaken).base (u := s) rfl
      rw [evictions_eq] at gained
      split_ifs with evicts
      · rwa [if_pos (show (a none).barred tag = true ∨ (a none).bars.length < 16 from evicts)] at gained
      · rw [if_neg (show ¬ ((a none).barred tag = true ∨ (a none).bars.length < 16) from evicts)] at gained
        exact gained.perm (.swap ..)

/-- Settles O22. -/
theorem clearBarRemovesTag : Obligations.ClearBarRemovesTag := by
  intro s m asks tag
  have runs := exec_clearBar_of_asks asks
  have gained (b : List BarEntry) :
      s.Gained ({ s.answered m .ok [] with bars := b }.bump .requestsTaken) [.requestsTaken] :=
    (State.gained_bump _).base rfl
  refine ⟨fun all => ⟨_, exec_of_done runs (if_pos all), gained _, rfl⟩, fun one on => ?_, fun one off => ?_⟩
  · refine ⟨_, exec_of_done runs ((if_neg (not_not.mpr one)).trans (if_pos on)), gained _, rfl, ?_⟩
    simp [State.barred, tag]
  · exact answers_of_refuse runs ((if_neg (not_not.mpr one)).trans (if_neg (Bool.eq_false_iff.mp off)))

/-! ### Peer messages at the head -/

/-- A peer message of its kind at the head is removed and dealt with. -/
theorem State.takePeer_of_head {kind : Nat} (h : s.bus.inbox.head? = some m) (hk : m.kind.toNat = kind)
    (f : State → InMsg → State) : s.takePeer kind f = f s.popInbox m := by
  obtain ⟨rest, e⟩ := exists_of_head h
  simp [State.takePeer, e, hk]

/-- A malformed peer message is counted, and nothing else. -/
theorem State.gained_malformed (s : State) :
    s.Gained (s.popInbox.bump .peerMalformed) [.peerMalformed] ∧
      s.popInbox.bump .peerMalformed =
        { s with
          bus := { s.bus with inbox := s.bus.inbox.tail }, counters := (s.popInbox.bump .peerMalformed).counters
          waited := false } :=
  ⟨(State.gained_bump _).base rfl, rfl⟩

/-- A home that departs once a message has been removed has departed from the part before. -/
theorem State.Departs.of_popInbox {q : RetireReason} {l : Option Directive} (h : s.popInbox.Departs t i q l) :
    s.Departs t i q l := h.head rfl

theorem State.counter_addBar {c : Counter} (hc : c ≠ .barEvicted) (x : Tag) (r : BarReason) (o : Station) :
    (s.addBar x r o).counter c = s.counter c := by
  rw [s.gained_addBar x r o c, if_neg]
  split_ifs <;> simp [hc]

/-! ### BAR (R57) -/

theorem State.peerBar_of_none {r : BarReason} {o : Station} (h : s.barTarget x = none) :
    s.peerBar x r o = (s.addBar x r o).bump .barReceived := by
  have target : ((s.addBar x r o).bump .barReceived).barTarget x = none :=
    (State.barTarget_congr (by simp) x).trans h
  rw [State.peerBar, target]

theorem State.peerBar_of_some {r : BarReason} {o : Station} (h : s.barTarget x = some i) :
    s.peerBar x r o = ((s.addBar x r o).bump .barReceived).failEnrolment i .lost .barred s.clock.round := by
  have target : ((s.addBar x r o).bump .barReceived).barTarget x = some i :=
    (State.barTarget_congr (by simp) x).trans h
  rw [State.peerBar, target, State.bump_clock, State.addBar_clock]

theorem State.peerBar_bars (s : State) (x : Tag) (r : BarReason) (o : Station) :
    (s.peerBar x r o).bars = barsAfter s.bars { tag := x, reason := r, origin := o } := by
  rw [← State.addBar_bars]
  cases h : s.barTarget x with
  | none => rw [State.peerBar_of_none h, State.bump_bars]
  | some i => rw [State.peerBar_of_some h, State.failEnrolment_bars, State.bump_bars]

theorem State.counter_peerBar (s : State) (x : Tag) (r : BarReason) (o : Station) :
    (s.peerBar x r o).counter .barReceived = min (s.counter .barReceived + 1) counterMax := by
  have counted : ((s.addBar x r o).bump .barReceived).counter .barReceived =
      min (s.counter .barReceived + 1) counterMax := by
    rw [State.counter_bump, if_pos rfl, State.counter_addBar (by decide)]
  cases h : s.barTarget x with
  | none => rw [State.peerBar_of_none h, counted]
  | some i => rw [State.peerBar_of_some h, State.counter_failEnrolment (by decide) (.inl (by decide)) (by decide),
      counted]

theorem barReasonOf_eq_some {n : Nat} {r : BarReason}
    (h : n = (match r with | .rogue => 1 | .clone => 2 | .operator => 3)) : barReasonOf n = some r := by
  cases r <;> rw [h] <;> rfl

theorem barReasonOf_eq_none {n : Nat} (h : ¬ (1 ≤ n ∧ n ≤ 3)) : barReasonOf n = none := by
  unfold barReasonOf
  split <;> first | rfl | omega

theorem exec_bar_of_body {r : BarReason} (h : s.bus.inbox.head? = some m) (hk : m.kind.toNat = 10)
    (hb : barBody m = some (x, r)) : exec .bar s = .next (s.popInbox.peerBar x r m.sender) := by
  refine congrArg Host.Outcome.next ((State.takePeer_of_head h hk _).trans ?_)
  rw [hb]

theorem exec_bar_of_malformed (h : s.bus.inbox.head? = some m) (hk : m.kind.toNat = 10) (hb : barBody m = none) :
    exec .bar s = .next (s.popInbox.bump .peerMalformed) := by
  refine congrArg Host.Outcome.next ((State.takePeer_of_head h hk _).trans ?_)
  rw [hb]

/-- What a departure tells does not depend on the port, the bar list and the counters. -/
theorem State.failEnrolment_told {u : State} {b : Bus} {w : Bool}
    (hu : u = { s with bars := u.bars, counters := u.counters, bus := b, waited := w }) (finds : s.Finds x i)
    (q : RetireReason) (why : EnrolReason) (round : Round) :
    (u.failEnrolment i q why round).bus = b.offered
      (s.partingMessages i round ++ [(Notice.enrollFailed i x why).message s.reportStation]) := by
  have entry : u.entry i = s.entry i := State.entry_congr (by rw [hu]) i
  rw [State.failEnrolment_bus, entry, finds.tagVal, State.reportStation_congr (s := s) (by rw [hu]),
    State.partingMessages_congr (s := s) (by rw [hu]) (by rw [hu]) (by rw [hu])]
  rw [hu]

/-- Settles O23. -/
theorem peerBarIsApplied : Obligations.PeerBarIsApplied := by
  intro s m head kind port formed tag evicts
  refine ⟨fun r good code => ?_, fun bad => ?_⟩
  · have body : barBody m = some (tag, r) := by
      rw [barBody, if_pos good, barReasonOf_eq_some code]
      rfl
    let a := s.popInbox
    refine ⟨_, exec_bar_of_body head kind body, a.peerBar_bars tag r m.sender, a.counter_peerBar tag r m.sender,
      fun i finds enrolling => ?_, fun free => ?_⟩
    · have target : s.popInbox.barTarget tag = some i := finds.barTarget.trans (if_pos enrolling)
      have added : (a.addBar tag r m.sender).bump .barReceived = { a with
          bars := ((a.addBar tag r m.sender).bump .barReceived).bars
          counters := ((a.addBar tag r m.sender).bump .barReceived).counters } := by
        rw [State.addBar_eq]
        rfl
      have departs := State.departs_barred added ⟨finds.1, finds.2, finds.3⟩ enrolling s.clock.round
      rw [State.peerBar_of_some target]
      exact ⟨departs.of_popInbox.raise _, State.failEnrolment_told (s := s) (w := false) added finds ..⟩
    · have target : s.popInbox.barTarget tag = none := State.barTarget_none (s := s) free
      rw [State.peerBar_of_none target]
      refine ⟨?_, ?_⟩
      · rw [State.addBar_eq]
        rfl
      · have gained := ((a.gained_addBar tag r m.sender).bump .barReceived).base (u := s) rfl
        split_ifs with evicted
        · rw [if_neg (show ¬ a.barred tag = true from Bool.eq_false_iff.mp evicted.1),
            if_neg (show ¬ a.bars.length < 16 from evicted.2.not_gt)] at gained
          exact gained.perm (.swap ..)
        · rw [evictions_eq, if_pos] at gained
          · exact gained
          · show s.barred tag = true ∨ s.bars.length < 16
            by_contra full
            push Not at full
            exact evicted ⟨Bool.eq_false_iff.mpr full.1, full.2⟩
  · have body : barBody m = none := by
      unfold barBody
      split
      · rename_i good
        rw [barReasonOf_eq_none fun code => bad ⟨good, code⟩]
        rfl
      · rfl
    exact ⟨_, exec_bar_of_malformed head kind body, s.gained_malformed⟩

/-! ### CLAIM and COUNTER_CLAIM (R49 to R53) -/

theorem exec_claim_of_body {k : Nat} (h : s.bus.inbox.head? = some m) (hk : m.kind.toNat = 8)
    (hb : claimBody m = some (x, k)) : exec .claim s = .next (s.popInbox.peerClaim x k m.sender) := by
  refine congrArg Host.Outcome.next ((State.takePeer_of_head h hk _).trans ?_)
  rw [hb]

theorem exec_claim_of_malformed (h : s.bus.inbox.head? = some m) (hk : m.kind.toNat = 8) (hb : claimBody m = none) :
    exec .claim s = .next (s.popInbox.bump .peerMalformed) := by
  refine congrArg Host.Outcome.next ((State.takePeer_of_head h hk _).trans ?_)
  rw [hb]

theorem exec_counterClaim_of_body (h : s.bus.inbox.head? = some m) (hk : m.kind.toNat = 9)
    (hb : counterClaimBody m = some x) : exec .counterClaim s = .next (s.popInbox.peerCounterClaim x m.sender) := by
  refine congrArg Host.Outcome.next ((State.takePeer_of_head h hk _).trans ?_)
  rw [hb]

theorem exec_counterClaim_of_malformed (h : s.bus.inbox.head? = some m) (hk : m.kind.toNat = 9)
    (hb : counterClaimBody m = none) : exec .counterClaim s = .next (s.popInbox.bump .peerMalformed) := by
  refine congrArg Host.Outcome.next ((State.takePeer_of_head h hk _).trans ?_)
  rw [hb]

/-- A Claim by the local holding of its tag. -/
theorem State.Finds.peerClaim (h : s.Finds x i) (k : Nat) (peer : Station) :
    s.peerClaim x k peer =
      if (s.entry i).state.enrolling then s.yieldHome i
      else if (s.entry i).state.inService then
        if (s.entry i).claim = some .pending ∧ peer < s.straps.station then s.dropHome i peer k
        else s.disputeClaim i x peer k
      else s := by
  rw [State.peerClaim, State.holder_eq_some_iff.mpr h]
  dsimp only
  cases (s.entry i).state <;> rfl

/-- The home that a Clone is dropped with: its Leave, its bar, its count and its notice (R51). -/
theorem State.dropHome_spec (s : State) (finds : s.Finds x i) (served : (s.entry i).state.inService) (peer : Station)
    (k : Nat) :
    s.Departs (s.dropHome i peer k) i .dropped (some (.leaveIndex i)) ∧
      (s.dropHome i peer k).bars = barsAfter s.bars { tag := x, reason := .clone, origin := peer } ∧
      (s.dropHome i peer k).counter .cloneDrop = min (s.counter .cloneDrop + 1) counterMax ∧
      (s.dropHome i peer k).bus = s.bus.offered
        (s.partingMessages i s.clock.round ++
          [(Notice.duplicateTag x i .retired peer k).message s.reportStation]) := by
  let left := (s.retire i .dropped s.clock.round).offerLeave (.leaveIndex i)
  have drop : s.dropHome i peer k =
      ((left.addBar x .clone peer).bump .cloneDrop).raise (.duplicateTag x i .retired peer k) := by
    rw [State.dropHome, finds.tagVal]
  rw [drop]
  refine ⟨((((s.departs_retire i _ _ (.inl served)).leave _ (by simp)).addBar ..).bump _).raise _, ?_, ?_, ?_⟩
  · rw [State.raise_bars, State.bump_bars, State.addBar_bars]
    simp [left]
  · rw [State.counter_raise (by decide), State.counter_bump, if_pos rfl, State.counter_addBar (by decide),
      State.counter_offerLeave (by decide), State.counter_retire (by decide) (.inl (by decide))]
  · rw [State.raise_bus, State.reportStation_congr (s := s) (by simp [left]), ← Bus.offered_append,
      ← State.retire_bus s i .dropped]
    simp [left]

/-- An entry that yields leaves with its notice (R50). -/
theorem State.yieldHome_spec (s : State) (finds : s.Finds x i) (enrolling : (s.entry i).state.enrolling) :
    s.Departs (s.yieldHome i) i .dropped
        (some (if (s.entry i).state = .ranging then .leaveTag x else .leaveIndex i)) ∧
      (s.yieldHome i).bars = s.bars ∧
      (s.yieldHome i).counter .localYield = min (s.counter .localYield + 1) counterMax ∧
      (s.yieldHome i).bus = s.bus.offered
        (s.partingMessages i s.clock.round ++
          [(Notice.enrollFailed i x .claimed).message s.reportStation]) := by
  have yields : s.yieldHome i =
      ((s.endEnrolment i .dropped s.clock.round).bump .localYield).raise (.enrollFailed i x .claimed) := by
    rw [State.yieldHome, finds.tagVal]
  have departs := s.departs_endEnrolment i .dropped s.clock.round (.inl (EState.enrolling_spec enrolling).2.2)
  rw [Entry.leaveDirective_of_tag finds.holds] at departs
  rw [yields]
  refine ⟨(departs.bump _).raise _, ?_, ?_, ?_⟩
  · simp
  · rw [State.counter_raise (by decide), State.counter_bump, if_pos rfl,
      State.counter_endEnrolment (by decide) (.inl (by decide)) (by decide)]
  · rw [State.raise_bus, State.reportStation_congr (s := s) (by simp), ← Bus.offered_append,
      ← State.endEnrolment_bus s i .dropped]
    simp

/-- The Counter-claim of a disputed claim joins the outbox, or is counted as unsent (R52). -/
def State.offerCounterClaim (s : State) (x : Tag) (peer : Station) : State :=
  if s.outRoom then (s.post (counterClaimMessage x s.straps.station peer)).bump .counterClaimsSent
  else s.bump .claimUnsent

theorem State.disputeClaim_eq (s : State) (i : HomeIdx) (x : Tag) (peer : Station) (k : Nat) :
    s.disputeClaim i x peer k =
      (s.offerCounterClaim x peer).raise (.duplicateTag x i (s.entry i).state peer k) := rfl

theorem State.offerCounterClaim_frame (s : State) (x : Tag) (peer : Station) :
    s.offerCounterClaim x peer = { s with
      bus := s.bus.offered [counterClaimMessage x s.straps.station peer]
      counters := (s.offerCounterClaim x peer).counters } := by
  rw [← State.sendPeer_bus]
  unfold State.offerCounterClaim State.sendPeer
  split <;> rfl

theorem State.gained_offerCounterClaim (s : State) (x : Tag) (peer : Station) :
    s.Gained (s.offerCounterClaim x peer)
      [if s.bus.outbox.length < 16 then .counterClaimsSent else .claimUnsent] := by
  unfold State.offerCounterClaim State.outRoom
  by_cases room : s.bus.outbox.length < 16
  · rw [if_pos (decide_eq_true room), if_pos room]
    exact (State.gained_bump _).base rfl
  · rw [if_neg (fun e => room (of_decide_eq_true e)), if_neg room]
    exact State.gained_bump _

/-- A claim that is disputed offers the Counter-claim and the notice (R52). -/
theorem State.disputeClaim_spec (s : State) (i : HomeIdx) (x : Tag) (peer : Station) (k : Nat) :
    s.disputeClaim i x peer k = { s with
        bus := (s.disputeClaim i x peer k).bus, counters := (s.disputeClaim i x peer k).counters } ∧
      (s.disputeClaim i x peer k).bus = s.bus.offered
        [counterClaimMessage x s.straps.station peer,
          (Notice.duplicateTag x i (s.entry i).state peer k).message s.reportStation] ∧
      s.Gained (s.disputeClaim i x peer k)
        (if s.bus.outbox.length < 15 then [.counterClaimsSent, .noticesQueued]
         else if s.bus.outbox.length < 16 then [.counterClaimsSent, .noticeDropped]
         else [.claimUnsent, .noticeDropped]) := by
  rw [State.disputeClaim_eq]
  refine ⟨?_, ?_, ?_⟩
  · rw [State.raise_eq, State.offerCounterClaim_frame]
  · rw [State.raise_bus, State.offerCounterClaim_frame]
    exact Bus.offered_append ..
  · have counted := ((s.gained_offerCounterClaim x peer).bump (if (s.offerCounterClaim x peer).bus.outbox.length < 16
      then .noticesQueued else .noticeDropped)).congr
      (State.raise_counters (s.offerCounterClaim x peer) (.duplicateTag x i (s.entry i).state peer k))
    have size : (s.offerCounterClaim x peer).bus.outbox.length =
        if s.bus.outbox.length < 16 then s.bus.outbox.length + 1 else s.bus.outbox.length := by
      rw [State.offerCounterClaim_frame]
      simp only [Bus.offered, List.length_append, List.length_take, List.length_singleton]
      split <;> omega
    rw [size] at counted
    split_ifs at counted ⊢ <;> first | omega | exact counted.perm (.swap ..)

theorem EState.not_enrolling_of_inService {st : EState} (h : st.inService = true) : ¬ st.enrolling = true := by
  cases st <;> simp_all [EState.inService, EState.enrolling]

theorem State.Finds.popInbox (h : s.Finds x i) : s.popInbox.Finds x i := ⟨h.1, h.2, h.3⟩

/-- Settles O24. -/
theorem claimIsDecidedByLocalHolding : Obligations.ClaimIsDecidedByLocalHolding := by
  intro s m head kind port formed tag peerIndex told
  have body (good : formed) : claimBody m = some (tag, peerIndex) := if_pos good
  have runs (good : formed) := exec_claim_of_body head kind (body good)
  refine ⟨fun good free => ?_, fun i good finds => ?_, fun bad =>
    ⟨_, exec_claim_of_malformed head kind (if_neg bad), s.gained_malformed⟩⟩
  · rw [runs good]
    refine congrArg Host.Outcome.next ?_
    show _ = s.popInbox
    rcases free with free | ⟨i, finds, retired⟩
    · rw [State.peerClaim, (State.holder_eq_none_iff (s := s.popInbox)).mpr free]
    · rw [finds.popInbox.peerClaim, show (s.popInbox.entry i).state = .retired from retired]
      rfl
  have claimed := (runs good).trans (congrArg Host.Outcome.next (finds.popInbox.peerClaim peerIndex m.sender))
  refine ⟨fun enrolling => ⟨_, claimed.trans (congrArg _ (if_pos enrolling)), ?_⟩, fun served pending lower =>
    ⟨_, claimed.trans (congrArg _ (if_neg ?_ |>.trans (if_pos served |>.trans (if_pos ⟨pending, lower⟩)))), ?_⟩,
    fun served other => ⟨_, claimed.trans (congrArg _ (if_neg ?_ |>.trans (if_pos served |>.trans (if_neg ?_)))), ?_⟩⟩
  · obtain ⟨departs, bars, counted, bus⟩ := s.popInbox.yieldHome_spec finds.popInbox enrolling
    exact ⟨departs.of_popInbox, bars, counted, bus⟩
  · exact EState.not_enrolling_of_inService served
  · obtain ⟨departs, bars, counted, bus⟩ := s.popInbox.dropHome_spec finds.popInbox served m.sender peerIndex
    exact ⟨departs.of_popInbox, bars, counted, bus⟩
  · exact EState.not_enrolling_of_inService served
  · exact fun both => other.elim (· both.1) (· both.2)
  · obtain ⟨frame, bus, gained⟩ := s.popInbox.disputeClaim_spec i tag m.sender peerIndex
    exact ⟨frame, bus, gained.base rfl⟩

/-- Settles O25. -/
theorem counterClaimDropsPendingEntry : Obligations.CounterClaimDropsPendingEntry := by
  intro s m head kind port formed tag
  have runs (good : formed) := exec_counterClaim_of_body head kind (x := tag) (if_pos good)
  have ignored : s.Gained (s.popInbox.bump .counterClaimsIgnored) [.counterClaimsIgnored] :=
    (State.gained_bump _).base rfl
  refine ⟨fun i good finds served pending => ?_, fun good free => ⟨_, (runs good).trans (congrArg _ ?_), ignored, rfl⟩,
    fun bad => ⟨_, exec_counterClaim_of_malformed head kind (if_neg bad), s.gained_malformed⟩⟩
  · have dropped : s.popInbox.peerCounterClaim tag m.sender = s.popInbox.dropHome i m.sender 255 := by
      rw [State.peerCounterClaim, State.holder_eq_some_iff.mpr finds.popInbox]
      exact if_pos ⟨served, pending⟩
    obtain ⟨departs, bars, counted, bus⟩ := s.popInbox.dropHome_spec finds.popInbox served m.sender 255
    rw [← dropped] at departs bars counted bus
    exact ⟨_, runs good, departs.of_popInbox, bars, counted, bus⟩
  · rcases free with free | ⟨i, finds, other⟩
    · rw [State.peerCounterClaim, (State.holder_eq_none_iff (s := s.popInbox)).mpr free]
    · rw [State.peerCounterClaim, State.holder_eq_some_iff.mpr finds.popInbox]
      exact if_neg fun both => other.elim (Bool.eq_false_iff.mp · both.1) (· both.2)

end Sys2Proof.Machine

/-! The epoch banks: swap, hold, release, ring and usage reads (R155 to R158, R169, R173 to R182). -/

namespace Sys2Proof.Machine

open Sys2Proof

variable {s t u : State} {m : InMsg} {i : HomeIdx} {l : LiveBank} {p : Params} {plan : Plan} {r : Ring}

/-! ### The swap as the statements word it (R174) -/

theorem State.liveRecord_of_live (hl : s.banks.live = some l) (i : HomeIdx) : s.liveRecord i = l.records[i.val] := by
  rw [State.liveRecord, hl]
  rfl

theorem State.closingRing_of_ring (hr : s.ring = some r) : s.closingRing = r := by
  rw [State.closingRing, hr]
  rfl

theorem Entry.swapRecord_eq (e : Entry) (round : Round) :
    e.swapRecord round =
      if e.state.inService then
        some
          { tag := e.tagVal, start := round, stop := none, up := Vector.replicate 4 0, down := Vector.replicate 4 0
            charge := none
            flags := { RecFlags.clear with convicted := decide (e.mute = some .convicted) } }
      else none := by
  have convicted : (e.mute == some .convicted) = decide (e.mute = some .convicted) := beq_eq_decide ..
  rw [← convicted]
  rfl

theorem State.swaps_swap (hl : s.banks.live = some l) (hp : s.setup = some p)
    (ho : s.banks.other.openingPlan l.plan = some plan) (hr : s.ring = some r) :
    s.Swaps s.swap p l plan (openingRing s.banks.other l.plan r).1 := by
  have banks := State.swap_banks hl hp ho
  refine ⟨⟨_, _, congrArg Banks.other banks, rfl, rfl, rfl, rfl, fun i => ?_⟩,
    ⟨_, congrArg Banks.live banks, rfl, rfl, fun i => ?_⟩, congrArg Banks.liveId banks,
    ⟨congrArg Banks.timer banks, congrArg Banks.held banks⟩, ?_, State.swap_home hl hp ho⟩
  · rw [State.liveRecord_of_live hl]
    exact Vector.getElem_map ..
  · rw [← Entry.swapRecord_eq]
    exact Vector.getElem_map ..
  · rw [State.swap_ring hl hp ho, State.closingRing_of_ring hr]

/-- A swap of a part whose clock, homes and Live bank are those of another is a swap of the other. -/
theorem State.Swaps.base {ring : Ring} (h : u.Swaps t p l plan ring) (clock : u.clock = s.clock)
    (homes : u.homes = s.homes) (live : u.banks.live = s.banks.live) (id : u.banks.liveId = s.banks.liveId) :
    s.Swaps t p l plan ring := by
  have record (i : HomeIdx) : u.liveRecord i = s.liveRecord i := by rw [State.liveRecord, live]; rfl
  have home := State.home_congr homes
  have entry := State.entry_congr homes
  obtain ⟨closed, opened, flips, timer, ring, homes⟩ := h
  simp only [clock, record, home, entry, id] at closed opened flips homes
  exact ⟨closed, opened, flips, timer, ring, homes⟩

theorem State.Swaps.of_answered {ring : Ring} {k : OutcomeCode} {data : List Byte}
    (h : (s.answered m k data).Swaps t p l plan ring) : s.Swaps t p l plan ring := h.base rfl rfl rfl rfl

theorem State.Swaps.bump {ring : Ring} (h : s.Swaps t p l plan ring) (c : Counter) :
    s.Swaps (t.bump c) p l plan ring := ⟨h.1, h.2, h.3, h.4, h.5, h.6⟩

theorem OtherBank.openingPlan_isSome (o : OtherBank) (closing : Plan) :
    (o.openingPlan closing).isSome = o.free := by
  cases o <;> rfl

theorem OtherBank.free_of_openingPlan {o : OtherBank} {closing : Plan} (h : o.openingPlan closing = some plan) :
    o.free = true := by
  rw [← o.openingPlan_isSome closing, h]
  rfl

/-- A held epoch (R175). -/
theorem State.holdEpoch_spec (s : State) :
    s.holdEpoch = { s with
        banks := { s.banks with held := true, timer := 0 }
        bus := s.bus.offered
          [(Notice.epochHeld s.banks.liveId s.banks.other.code s.clock.round).message s.reportStation]
        counters := s.holdEpoch.counters } ∧
      s.Gained s.holdEpoch
        (if s.bus.outbox.length < 16 then [.epochHeld, .noticesQueued] else [.epochHeld, .noticeDropped]) := by
  let v := { s with banks := { s.banks with held := true, timer := 0 } }.bump .epochHeld
  let notice : Notice := .epochHeld s.banks.liveId s.banks.other.code s.clock.round
  have held : s.holdEpoch = v.raise notice := rfl
  have counted : s.Gained v [.epochHeld] := (State.gained_bump _).base rfl
  have told := (counted.bump (if s.bus.outbox.length < 16 then .noticesQueued else .noticeDropped)).congr
    (State.raise_counters v notice)
  rw [held]
  refine ⟨?_, ?_⟩
  · rw [State.raise_eq, State.raise_bus]
    rfl
  · split_ifs at told ⊢ <;> exact told.perm (.swap ..)

/-! ### CLOSE_EPOCH and EPOCH_TIMER_EXPIRY (R175, R176) -/

theorem exec_closeEpoch_of_asks (h : s.Asks m 38 0) (hset : s.setup.isSome) :
    exec .closeEpoch s = .next (s.popInbox.answerTo m (closeEpochReply s.popInbox m.body)) :=
  congrArg Host.Outcome.next (State.takeRequest_eq h rfl (.inl hset))

/-- A swap that follows an answer. -/
theorem State.gained_answered_swap {k : OutcomeCode} {data : List Byte} (hl : s.banks.live = some l)
    (hp : s.setup = some p) (ho : s.banks.other.openingPlan l.plan = some plan) (hr : s.ring = some r) :
    s.Gained ((s.answered m k data).swap.bump .requestsTaken)
      (if (openingRing s.banks.other l.plan r).2 then [.ringRefit, .requestsTaken] else [.requestsTaken]) := by
  have swapped := ((State.swap_gained (s := s.answered m k data) hl hp ho).bump .requestsTaken).base (u := s) rfl
  rw [State.closingRing_of_ring (s := s.answered m k data) hr] at swapped
  split_ifs with refit
  · rw [if_pos (by exact refit)] at swapped
    exact swapped.perm (.swap ..)
  · rwa [if_neg (by exact refit)] at swapped

theorem State.epochDue_eq (s : State) :
    s.epochDue = true ↔ s.banks.live.isSome ∧ s.banks.timer = 0 ∧ s.banks.held = false := by
  simp [State.epochDue, and_assoc]

/-- Settles O33. -/
theorem epochClosesBySwapOrIsHeld : Obligations.EpochClosesBySwapOrIsHeld := by
  intro s p l r hp hl hr
  have set : s.setup.isSome := by rw [hp]; rfl
  refine ⟨fun m asks => ⟨fun busy => answers_of_refuse (exec_closeEpoch_of_asks asks set)
      (if_neg (Bool.eq_false_iff.mp busy)), fun plan ho =>
      ⟨_, exec_of_done (exec_closeEpoch_of_asks asks set) (if_pos (OtherBank.free_of_openingPlan ho)), ?_,
        State.gained_answered_swap hl hp ho hr, ?_⟩⟩, fun ended open_ => ?_, fun other => ?_⟩
  · exact (State.Swaps.of_answered (State.swaps_swap (s := s.answered m _ _) hl hp ho hr)).bump _
  · rw [State.swap_frame]
    rfl
  · have due : s.epochDue = true := s.epochDue_eq.mpr ⟨by rw [hl]; rfl, ended, open_⟩
    refine ⟨fun plan ho => ⟨s.swap, ?_, State.swaps_swap hl hp ho hr, ?_, ?_⟩, fun busy => ⟨s.holdEpoch, ?_, ?_⟩⟩
    · exact congrArg Host.Outcome.next ((if_pos due).trans (if_pos (OtherBank.free_of_openingPlan ho)))
    · rw [← State.closingRing_of_ring hr]
      exact State.swap_gained hl hp ho
    · exact s.swap_frame
    · exact congrArg Host.Outcome.next ((if_pos due).trans (if_neg (Bool.eq_false_iff.mp busy)))
    · have report : s.reportStation = p.report := by rw [State.reportStation, hp]
      rw [← report]
      exact s.holdEpoch_spec
  · refine congrArg Host.Outcome.next (if_neg fun due => ?_)
    obtain ⟨-, ended, notHeld⟩ := s.epochDue_eq.mp due
    exact other.elim (· ended) (by simp [notHeld])

/-! ### RELEASE_BANK (R182) -/

theorem exec_releaseBank_of_asks (h : s.Asks m 41 0) (hset : s.setup.isSome) :
    exec .releaseBank s = .next (s.popInbox.answerTo m (releaseBankReply s.popInbox m.body)) :=
  congrArg Host.Outcome.next (State.takeRequest_eq h rfl (.inl hset))

theorem releaseBankReply_of_done {b : ClosedBank} (h : s.banks.other = .done b) (body : List Byte) :
    releaseBankReply s body =
      .done .ok (bytesOf 1 s.banks.held.toNat ++ bytesOf 5 (if s.banks.held then s.clock.round.toNat else 0))
        State.releaseBank := by
  rw [releaseBankReply, h]

theorem releaseBankReply_of_not_done (h : ∀ b, s.banks.other ≠ .done b) (body : List Byte) :
    releaseBankReply s body = .refuse .notDone := by
  unfold releaseBankReply
  split
  · exact absurd ‹_› (h _)
  · rfl

/-- The bank that is released is Empty. -/
def State.freed (s : State) : State := { s with banks := { s.banks with other := .empty } }

theorem State.releaseBank_of_not_held (h : s.banks.held = false) : s.releaseBank = s.freed :=
  if_neg (Bool.eq_false_iff.mp h)

theorem State.releaseBank_of_held (h : s.banks.held = true) : s.releaseBank = s.freed.swap := if_pos h

/-- Settles O34. -/
theorem releaseBankEmptiesAndSwapsIfHeld : Obligations.ReleaseBankEmptiesAndSwapsIfHeld := by
  intro s m p l r asks hp hl hr
  have set : s.setup.isSome := by rw [hp]; rfl
  have runs := exec_releaseBank_of_asks asks set
  refine ⟨fun notDone => answers_of_refuse runs (releaseBankReply_of_not_done notDone m.body), fun b done => ?_⟩
  have reply := releaseBankReply_of_done (s := s.popInbox) done m.body
  refine ⟨fun notHeld => ?_, fun held => ?_⟩
  · have banks : s.popInbox.banks.held = false := notHeld
    rw [banks] at reply
    refine ⟨_, exec_of_done runs reply, ?_⟩
    rw [State.releaseBank_of_not_held (by exact notHeld)]
    exact ⟨(State.gained_bump _).base rfl, rfl⟩
  · have banks : s.popInbox.banks.held = true := held
    rw [banks] at reply
    refine ⟨_, exec_of_done runs reply, ?_⟩
    let a := (s.answered m .ok (bytesOf 1 1 ++ bytesOf 5 s.clock.round.toNat)).freed
    have free : a.banks.other.openingPlan l.plan = some l.plan := rfl
    rw [State.releaseBank_of_held (by exact held)]
    have swaps : s.Swaps a.swap p l l.plan _ :=
      (State.swaps_swap (s := a) hl hp free hr).base rfl rfl rfl rfl
    refine ⟨swaps.bump _, ?_, ?_⟩
    · exact ((State.swap_gained (s := a) hl hp free).bump .requestsTaken).base rfl
    · rw [State.swap_frame]
      rfl

/-! ### Rating and the ring (R156, R178) -/

theorem ClosedBank.count_all (b : ClosedBank) :
    (b.count fun _ => true) = allIdx.countP fun i => (b.records[i.val]).isSome := by
  simp [ClosedBank.count, Option.any_true]

/-- Settles O36. -/
theorem ratingCompletesAndRingAdvances : Obligations.RatingCompletesAndRingAdvances := by
  intro s
  refine ⟨fun b position rated => ⟨s.completeRating, rfl, ?_⟩, fun other => congrArg Host.Outcome.next ?_,
    fun r l hr hl => congrArg Host.Outcome.next ?_, fun b done empty => ?_, fun other => ?_⟩
  · let v := { s with banks := { s.banks with other := .done b } }
    let notice : Notice := .epochClosed s.banks.liveId.flip b.start b.stop
      (allIdx.countP fun i => (b.records[i.val]).isSome) (b.count fun r => r.flags.saturated)
      (b.count fun r => r.flags.clamped)
    have completed : s.completeRating = v.raise notice := by
      rw [State.completeRating, rated]
      dsimp only
      rw [ClosedBank.count_all]
    rw [completed]
    refine ⟨?_, ?_⟩
    · rw [State.raise_eq, State.raise_bus]
      rfl
    · have told := (State.gained_raise (s := v) notice).base (u := s) rfl
      split_ifs at told ⊢ <;> exact told
  · unfold State.completeRating
    split
    · exact absurd ‹_› (other _ _)
    · rfl
  · rw [State.advanceRing, hr, hl]
    rfl
  · rw [State.tickRating, empty]
  · unfold State.tickRating
    split
    · exact absurd ‹_› (other _ _ _)
    · rfl

/-- Settles O32. -/
theorem openingRingFollowsPlan : Obligations.OpeningRingFollowsPlan := by
  intro closing p r now
  have settled : r.settled closing = now := rfl
  refine ⟨rfl, fun given => ?_, fun cont seg within => ?_, fun cont seg beyond => ?_, fun cont seg => ?_⟩ <;>
    simp only [openingRing, settled]
  · rw [if_neg (by simp [given])]
    rfl
  · rw [if_pos cont, Ring.fit, if_pos seg, if_pos within]
  · rw [if_pos cont, Ring.fit, if_pos seg, if_neg beyond.not_gt]
    rfl
  · rw [if_pos cont, Ring.fit, if_neg seg.not_gt]

end Sys2Proof.Machine

/-! Usage reads and LoadRing (R169, R180, R181). -/

namespace Sys2Proof.Machine

open Sys2Proof

variable {s t u : State} {m : InMsg} {i : HomeIdx} {l : LiveBank} {base : Plan}

/-! ### READ_USAGE_SUMMARY and READ_USAGE_VOLUMES (R180, R181) -/

section
variable {data : HomeIdx → UsageRecord → List Byte} {body : List Byte}

theorem usageReply_of_rating {b : ClosedBank} {position : Option HomeIdx} {done : Bool} (h : byteAt body 0 = i.val)
    (hb : s.banks.other = .rating b position done) : usageReply s body data = .refuse .bankBusy := by
  rw [usageReply, onIndex_of_eq h, hb]

theorem usageReply_of_open (h : byteAt body 0 = i.val)
    (hb : s.banks.other = .empty ∨ ∃ p, s.banks.other = .ready p) :
    usageReply s body data = .refuse .notDone := by
  rcases hb with hb | ⟨p, hb⟩ <;> rw [usageReply, onIndex_of_eq h, hb]

theorem usageReply_of_absent {b : ClosedBank} (h : byteAt body 0 = i.val) (hb : s.banks.other = .done b)
    (hr : b.records[i.val] = none) : usageReply s body data = .refuse .absent := by
  rw [usageReply, onIndex_of_eq h, hb]
  dsimp only
  rw [hr]

theorem usageReply_of_record {b : ClosedBank} {r : UsageRecord} (h : byteAt body 0 = i.val)
    (hb : s.banks.other = .done b) (hr : b.records[i.val] = some r) :
    usageReply s body data =
      .done .ok (bytesOf 1 s.banks.liveId.flip.code ++ bytesOf 1 i.val ++ bytesOf 8 r.tag.toNat ++ data i r) id := by
  rw [usageReply, onIndex_of_eq h, hb]
  dsimp only
  rw [hr]

end

theorem exec_readUsageSummary_of_asks (h : s.Asks m 39 1) (hset : s.setup.isSome) :
    exec .readUsageSummary s =
      .next (s.popInbox.answerTo m (usageReply s.popInbox m.body fun _ r => r.summaryBytes)) :=
  congrArg Host.Outcome.next (State.takeRequest_eq h rfl (.inl hset))

theorem exec_readUsageVolumes_of_asks (h : s.Asks m 40 2) (hset : s.setup.isSome) :
    exec .readUsageVolumes s =
      .next (s.popInbox.answerTo m (usageReply s.popInbox m.body fun _ r => r.volumeBytes (byteAt m.body 1))) :=
  congrArg Host.Outcome.next (State.takeRequest_eq h rfl (.inl hset))

theorem UsageRecord.volumeBytes_eq (r : UsageRecord) (direction : Nat) :
    r.volumeBytes direction =
      bytesOf 1 (if direction = 0 then 0 else 1)
        ++ ((if direction = 0 then r.up else r.down).toList.flatMap (bytesOf 5)) := by
  by_cases h : direction = 0 <;> simp [UsageRecord.volumeBytes, h]

/-- Settles O12: both reads answer by `usageReply`, each with its own data. -/
theorem usageReadsComeFromDoneBank : Obligations.UsageReadsComeFromDoneBank := by
  intro s m c data set bit flags asked
  have runs : exec c s = .next (s.popInbox.answerTo m (usageReply s.popInbox m.body fun _ r => data r)) := by
    rcases asked with ⟨asks, rfl, rfl⟩ | ⟨asks, rfl, rfl⟩
    · exact exec_readUsageSummary_of_asks asks set
    · refine (exec_readUsageVolumes_of_asks asks set).trans ?_
      simp only [UsageRecord.volumeBytes_eq]
  have refused {k : OutcomeCode} (h : usageReply s.popInbox m.body (fun _ r => data r) = .refuse k) :
      s.Answers (s.popInbox.answerTo m (usageReply s.popInbox m.body fun _ r => data r)) m k [] := by
    rw [h]
    exact State.answers_refuse m k
  refine ⟨_, runs, fun big => refused (onIndex_of_gt big _), fun i index =>
    ⟨fun b position done rating => refused (usageReply_of_rating index rating),
      fun closed => refused (usageReply_of_open index closed),
      fun b done absent => refused (usageReply_of_absent index done absent), fun b r done record => ?_⟩⟩
  rw [usageReply_of_record (s := s.popInbox) index done record]
  exact State.answers_done ..

/-! ### LOAD_RING (R169) -/

theorem loadRingReply_of_bad {body : List Byte}
    (h : byteAt body 0 = 0 ∨ 8 < byteAt body 0 ∨ body.length ≠ 6 + 3 * byteAt body 0) :
    loadRingReply s body = .refuseCounted .badLength .badLength := if_pos h

theorem loadRingReply_of_good {body : List Byte}
    (h : ¬ (byteAt body 0 = 0 ∨ 8 < byteAt body 0 ∨ body.length ≠ 6 + 3 * byteAt body 0)) :
    loadRingReply s body = loadReply s (ringClamped body) (loadRingPlan body) := if_neg h

theorem exec_loadRing_of_asks (h : s.Asks m 37 m.body.length) (long : 6 ≤ m.body.length) (hset : s.setup.isSome) :
    exec .loadRing s = .next (s.popInbox.answerTo m (loadRingReply s.popInbox m.body)) :=
  congrArg Host.Outcome.next (State.takeRequest_eq h (decide_eq_true long) (.inl hset))

/-- A LoadRing whose length does not match its count is refused, whichever check finds it. -/
theorem exec_loadRing_of_bad (h : s.Asks m 37 m.body.length) (hset : s.setup.isSome)
    (bad : byteAt m.body 0 = 0 ∨ 8 < byteAt m.body 0 ∨ m.body.length ≠ 6 + 3 * byteAt m.body 0) :
    exec .loadRing s = .next (s.popInbox.answerTo m (.refuseCounted .badLength .badLength)) := by
  by_cases long : 6 ≤ m.body.length
  · rw [exec_loadRing_of_asks h long hset, loadRingReply_of_bad bad]
  · refine congrArg Host.Outcome.next ((State.takeRequest_of_room h.head h.kind h.room).trans ?_)
    rw [requestReply, decide_eq_false long]
    rfl

theorem ringSegments_getElem? {body : List Byte} {k : Nat} (h : k < byteAt body 0) :
    (ringSegments body)[k]? = some (ringSegment body k) := by
  simp [ringSegments, h]

theorem ringSegments_length (body : List Byte) : (ringSegments body).length = byteAt body 0 := by
  simp [ringSegments]

theorem loadRingPlan_segment {body : List Byte} {k : Nat} (h : k < byteAt body 0) (p : Plan) :
    (loadRingPlan body p).segment k = ringSegment body k := by
  rw [Plan.segment, List.getD_eq_getElem?_getD, loadRingPlan, ringSegments_getElem? h]
  rfl

theorem clampTo_eq_self_iff {lo hi v : Nat} (h : lo ≤ hi) : clampTo lo hi v = v ↔ lo ≤ v ∧ v ≤ hi := by
  unfold clampTo
  omega

theorem ringStartSeg_lt {body : List Byte} (h : 0 < byteAt body 0) : ringStartSeg body < byteAt body 0 := by
  unfold ringStartSeg
  split <;> assumption

theorem ringStartSeg_eq_iff {body : List Byte} (h : 0 < byteAt body 0) :
    ringStartSeg body = byteAt body 1 ↔ byteAt body 1 < byteAt body 0 := by
  unfold ringStartSeg
  split_ifs <;> omega

/-- A LoadRing is answered OK where every value it carries is in its range. -/
theorem ringClamped_eq_false_iff {body : List Byte} (h : 0 < byteAt body 0) :
    ringClamped body = false ↔
      (∀ k, k < byteAt body 0 → 1 ≤ field body (7 + 3 * k) 2 ∧ field body (7 + 3 * k) 2 ≤ 1440
        ∧ byteAt body (6 + 3 * k) ≤ 3) ∧ byteAt body 1 < byteAt body 0 ∧ ringStartOff body = field body 2 3 := by
  have segment (k : Nat) :
      (ringSegment body k).minutes = field body (7 + 3 * k) 2
          ∧ (ringSegment body k).band.val = byteAt body (6 + 3 * k) ↔
        1 ≤ field body (7 + 3 * k) 2 ∧ field body (7 + 3 * k) 2 ≤ 1440 ∧ byteAt body (6 + 3 * k) ≤ 3 := by
    rw [ringSegment, clampTo_eq_self_iff (by decide), and_assoc]
    simp
  simp only [ringClamped, Bool.or_eq_false_iff, List.any_eq_false, List.mem_range, Bool.or_eq_true,
    decide_eq_false_iff_not, decide_eq_true_eq, not_or, not_not, segment, ringStartSeg_eq_iff h, and_assoc]

theorem ringStartOff_eq (body : List Byte) (p : Plan) : ringStartOff body = (loadRingPlan body p).startOff := rfl

theorem loadRingPlan_startOff {body : List Byte} (h : 0 < byteAt body 0) (p : Plan) :
    (loadRingPlan body p).startOff =
      if field body 2 3 * 2000 < ((loadRingPlan body p).segment (loadRingPlan body p).startSeg).rounds
      then field body 2 3 else 0 := by
  have start : (loadRingPlan body p).startSeg = ringStartSeg body := rfl
  rw [← ringStartOff_eq, start, loadRingPlan_segment (ringStartSeg_lt h), ringStartOff, Segment.rounds]

/-- Settles O31. -/
theorem loadRingFillsOtherBank : Obligations.LoadRingFillsOtherBank := by
  intro s m l asks set hl n bad
  refine ⟨fun h => ⟨_, exec_loadRing_of_bad asks set h, ?_⟩, fun good busy => ?_, fun base good hb => ?_⟩
  · obtain ⟨frame, gained⟩ := s.refusedCounted m .badLength .badLength
    exact ⟨gained, frame⟩
  all_goals
    have long : 6 ≤ m.body.length := by omega
    have runs := exec_loadRing_of_asks asks long set
    rw [loadRingReply_of_good good] at runs
  · exact answers_of_refuse runs (loadReply_of_busy (s := s.popInbox) busy ..)
  · have some : 0 < n := by omega
    have code : (if ringClamped m.body then OutcomeCode.clamped else .ok) = .ok ↔ ringClamped m.body = false := by
      cases ringClamped m.body <;> simp
    have loaded := State.answerTo_load (m := m) hl hb (ringClamped m.body) (loadRingPlan m.body)
    rw [loaded] at runs
    refine ⟨_, loadRingPlan m.body base, if ringClamped m.body then .clamped else .ok, runs, ringSegments_length _,
      fun k hk => ⟨_, ringSegments_getElem? hk, rfl, rfl⟩, rfl, ?_, rfl, rfl, ?_, ?_,
      (State.gained_bump _).base rfl, rfl⟩
    · exact loadRingPlan_startOff some base
    · cases ringClamped m.body <;> simp
    · rw [code, ringClamped_eq_false_iff some, ringStartOff_eq m.body base]

end Sys2Proof.Machine

/-! The tree restart (R20, R82, R184, R214). -/

namespace Sys2Proof.Machine

open Sys2Proof

variable {s t u : State} {m : InMsg} {i : HomeIdx} {l : LiveBank} {p : Params} {r : Ring}

/-! ### The home table and the records of a restart (R20) -/

theorem restartedHome_eq (s : State) (i : HomeIdx) :
    restartedHome s i = (s.home i).restarted (s.liveRecord i).isSome := by
  unfold restartedHome Home.restarted State.entry
  cases (s.home i).entry.state <;> cases (s.liveRecord i).isSome <;> rfl

theorem restartedRecord_eq (s : State) (i : HomeIdx) :
    restartedRecord s i = s.restartHomes.liveRecord i := (State.restartHomes_liveRecord s i).symm

/-- After a restart every entry is Vacant or Retired. -/
theorem Home.restarted_state (h : Home) (record : Bool) :
    (h.restarted record).entry.state = .vacant ∨ (h.restarted record).entry.state = .retired := by
  unfold Home.restarted
  cases h : h.entry.state <;> cases record <;> simp [h, Entry.vacant, Entry.retired]

theorem Home.restarted_probe (h : Home) (record : Bool) : (h.restarted record).entry.probe = false := rfl

/-! ### Everything but the banks (R214) -/

/-- A restarting part before its swap. -/
def State.cleared (s : State) : State := s.restartHomes.restartBlocks.restartClock

theorem State.restartTree_eq (s : State) : s.restartTree = s.cleared.restartBanks := rfl

theorem State.restartClock_frame (s : State) :
    s.restartClock = { s with
      clock := { s.clock with
        idleLeft := if s.clock.headerOpen then 7 else 8, firstMap := true, headerOpen := false }
      framer := s.restartClock.framer
      rx := { s.rx with
        next := if s.clock.headerOpen then
            some { round := s.clock.round + 1, map := none, spanGood := false, cutOff := false }
          else s.rx.next } } := by
  unfold State.restartClock
  split
  · unfold State.sendIdleHeader State.expectUnmapped
    dsimp only
    rw [State.startWaiting_frame]
  · rename_i closed
    simp [closed]

theorem State.cleared_home (s : State) (i : HomeIdx) : s.cleared.home i = restartedHome s i := by
  rw [restartedHome_eq, ← State.restartHomes_home]
  refine State.home_congr ?_ i
  rw [State.cleared, State.restartClock_frame]
  rfl

theorem State.cleared_banks (s : State) : s.cleared.banks = s.restartHomes.banks := by
  rw [State.cleared, State.restartClock_frame]
  rfl

theorem State.cleared_liveRecord (s : State) (i : HomeIdx) : s.cleared.liveRecord i = restartedRecord s i := by
  rw [restartedRecord_eq]
  exact State.liveRecord_congr s.cleared_banks i

theorem State.darkSet_of_restarted (h : ∀ i, t.home i = restartedHome s i) : t.darkSet = [] := by
  refine List.filter_eq_nil_iff.mpr fun i _ => ?_
  have state := Home.restarted_state (s.home i) (s.liveRecord i).isSome
  have probe := Home.restarted_probe (s.home i) (s.liveRecord i).isSome
  rw [← restartedHome_eq, ← h] at state probe
  rcases state with state | state <;> simp [State.entry, state, probe]

theorem State.restartClock_framer_of_open (h : s.clock.headerOpen = true) (dark : s.darkSet = []) :
    s.restartClock.framer = { s.framer with
      header := some { round := s.clock.round, idleFill := true, dark := [], map := none, directives := [] }
      sending := if s.framer.sending = none then s.framer.waiting else s.framer.sending
      waiting := if s.framer.sending = none then none else s.framer.waiting } := by
  rw [State.restartClock, if_pos h]
  exact State.sendIdleHeader_framer ((State.darkSet_congr rfl).trans dark)

theorem State.cleared_framer_of_closed (h : s.clock.headerOpen = false) :
    s.cleared.framer = { s.framer with queue := [] } := by
  rw [State.cleared, State.restartClock, if_neg (by exact Bool.eq_false_iff.mp h)]
  rfl

theorem State.cleared_framer_of_open (h : s.clock.headerOpen = true) :
    s.cleared.framer = { s.framer with
      queue := []
      header := some { round := s.clock.round, idleFill := true, dark := [], map := none, directives := [] }
      sending := if s.framer.sending = none then s.framer.waiting else s.framer.sending
      waiting := if s.framer.sending = none then none else s.framer.waiting } := by
  have dark : s.restartHomes.restartBlocks.darkSet = [] :=
    State.darkSet_of_restarted fun i => (State.restartHomes_home s i).trans (restartedHome_eq s i).symm
  exact State.restartClock_framer_of_open h dark

/-- The swap of a restart leaves every entry Vacant, as only Retired ones are left to it. -/
theorem State.swap_cleared {plan : Plan} (hl : s.cleared.banks.live = some l) (hp : s.cleared.setup = some p)
    (ho : s.cleared.banks.other.openingPlan l.plan = some plan) (i : HomeIdx) :
    (s.cleared.swap.entry i).state = .vacant ∧ s.cleared.swap.liveRecord i = none := by
  have state := Home.restarted_state (s.home i) (s.liveRecord i).isSome
  rw [← restartedHome_eq, ← State.cleared_home] at state
  refine ⟨?_, ?_⟩
  · rw [State.entry, State.swap_home hl hp ho]
    split
    · rfl
    · exact state.resolve_right ‹_›
  · rw [State.swap_liveRecord hl hp ho, Entry.swapRecord, if_neg]
    rw [State.entry]
    rcases state with state | state <;> rw [state] <;> decide

theorem exec_treeRestart_of_asks (h : s.Asks m 23 0) (hset : s.setup.isSome) :
    exec .treeRestart s = .next (((s.answered m .ok
      (bytesOf 5 s.restartRound.toNat ++ bytesOf 1 s.restartOutcome)).restartTree).bump .requestsTaken) :=
  exec_of_done (r := treeRestartReply s.popInbox m.body)
    (congrArg Host.Outcome.next (State.takeRequest_eq h rfl (.inl hset))) rfl

/-- What the swap or the hold of a restart leaves alone. -/
theorem State.restartBanks_frame (s : State) :
    s.restartBanks = { s with
      homes := s.restartBanks.homes, banks := s.restartBanks.banks, ring := s.restartBanks.ring
      bus := s.restartBanks.bus, counters := s.restartBanks.counters } := by
  unfold State.restartBanks
  split
  · rw [State.swap_frame]
  · split
    · rfl
    · rw [s.holdEpoch_spec.1]

/-- Settles O26. -/
theorem treeRestartClearsTreeAndSwaps : Obligations.TreeRestartClearsTreeAndSwaps := by
  intro s m p l r asks hp hl hr first cut
  have set : s.setup.isSome := by rw [hp]; rfl
  let a := s.answered m .ok (bytesOf 5 s.restartRound.toNat ++ bytesOf 1 s.restartOutcome)
  let c := a.cleared
  refine ⟨_, exec_treeRestart_of_asks asks set, ?_⟩
  rw [State.restartTree_eq]
  have frame := c.restartBanks_frame
  have blocks := State.restartClock_frame a.restartHomes.restartBlocks
  have banks : c.banks = a.restartHomes.banks := a.cleared_banks
  have live : c.banks.live = some (l.restarted s.homes) := by
    rw [banks]
    exact congrArg (Option.map _) hl
  have other : c.banks.other = s.banks.other := by rw [banks]; rfl
  have id : c.banks.liveId = s.banks.liveId := by rw [banks]; rfl
  have timer : c.banks.timer = s.banks.timer := by rw [banks]; rfl
  have round : c.clock.round = s.clock.round := congrArg (fun u => u.clock.round) blocks
  have setup : c.setup = some p := (congrArg State.setup blocks).trans hp
  have ring : c.ring = some r := (congrArg State.ring blocks).trans hr
  have counters : s.counters = c.counters := Eq.symm (congrArg State.counters blocks :)
  have bus : c.bus = s.bus.answered m .ok (bytesOf 5 s.restartRound.toNat ++ bytesOf 1 s.restartOutcome) :=
    congrArg State.bus blocks
  refine ⟨(congrArg State.clock frame).trans (congrArg State.clock blocks :),
    (congrArg State.enrol frame).trans (congrArg State.enrol blocks :),
    (congrArg State.planner frame).trans (congrArg State.planner blocks :),
    fun closed => (congrArg State.framer frame).trans (State.cleared_framer_of_closed (s := a) closed),
    fun opened => (congrArg State.framer frame).trans (State.cleared_framer_of_open (s := a) opened),
    (congrArg State.rx frame).trans ((congrArg State.rx blocks).trans ?_),
    (congrArg State.light frame).trans (congrArg State.light blocks :),
    (congrArg State.rogue frame).trans (congrArg State.rogue blocks :),
    (congrArg State.setup frame).trans (congrArg State.setup blocks :),
    (congrArg State.bars frame).trans (congrArg State.bars blocks :),
    (congrArg State.straps frame).trans (congrArg State.straps blocks :),
    (congrArg State.toSwitch frame).trans (congrArg State.toSwitch blocks :),
    (congrArg State.waited frame).trans (congrArg State.waited blocks :), fun free => ?_, fun busy => ?_⟩
  · have since : (c.restartBanks.bump .requestsTaken).rx.since = c.rx.since := congrArg (fun u => u.rx.since) frame
    have quantum : c.rx.since = a.restartHomes.restartBlocks.rx.since := (congrArg (fun u => u.rx.since) blocks :)
    rw [since, quantum]
    rfl
  · have swapped : c.restartBanks = c.swap := if_pos (by rw [other]; exact free)
    have opens : (c.banks.other.openingPlan (l.restarted s.homes).plan).isSome := by
      rw [OtherBank.openingPlan_isSome, other]
      exact free
    obtain ⟨plan, ho⟩ := Option.isSome_iff_exists.mp opens
    obtain ⟨⟨b, position, closes, closedPlan, closedStart, closedStop, -, records⟩, ⟨n, opened, openedPlan, start, -⟩,
      flips, ⟨timer, held⟩, newRing, -⟩ := State.swaps_swap live setup ho ring
    have vacant := State.swap_cleared (s := a) live setup ho
    have counted := ((State.swap_gained live setup ho).bump .requestsTaken).base (u := s) counters
    rw [swapped]
    refine ⟨vacant, timer, held, ?_, ⟨b, position, closes, closedPlan, closedStart, closedStop.trans round,
      fun i => ?_⟩, ⟨n, opened, ?_, start.trans round⟩, ?_, ?_, ?_⟩
    · rw [State.bump_banks, flips, id]
    · rw [records, State.cleared_liveRecord, round]
      rfl
    · rw [openedPlan, ← ho, other]
      rfl
    · rw [State.bump_ring, newRing, other]
      rfl
    · rw [State.closingRing_of_ring ring, other, show (l.restarted s.homes).plan = l.plan from rfl] at counted
      split_ifs at counted ⊢
      · exact counted.perm (.swap ..)
      · exact counted
    · rw [State.bump_bus, State.swap_bus, bus, State.restartOutcome, if_pos free]
      rfl
  · have notFree : ¬ c.banks.other.free = true := by rw [other]; exact Bool.eq_false_iff.mp busy
    have outcome : s.restartOutcome = if s.banks.held then 2 else 1 := if_neg (Bool.eq_false_iff.mp busy)
    have home (i : HomeIdx) : c.home i = restartedHome s i := a.cleared_home i
    have record (i : HomeIdx) : c.liveRecord i = restartedRecord s i := a.cleared_liveRecord i
    rw [outcome] at bus
    by_cases already : s.banks.held = true
    · have stays : c.restartBanks = c := (if_neg notFree).trans (if_pos (by rw [banks]; exact already))
      have counted : s.Gained (c.bump .requestsTaken) [.requestsTaken] := (State.gained_bump _).base counters
      simp only [already, if_true] at bus ⊢
      rw [stays, Bus.offered_nil]
      exact ⟨fun i => ⟨home i, record i⟩, (congrArg Banks.held banks).trans already, timer, other, id,
        ring.trans hr.symm, counted, bus⟩
    · have held : c.restartBanks = c.holdEpoch := (if_neg notFree).trans (if_neg (by rw [banks]; exact already))
      obtain ⟨holds, gained⟩ := c.holdEpoch_spec
      have counted := (gained.bump .requestsTaken).base (u := s) counters
      have room : c.bus.outbox.length < 16 ↔ s.bus.outbox.length < 15 := by
        rw [bus]
        simp only [Bus.answered, List.length_append, List.length_singleton]
        omega
      have report : c.reportStation = p.report := by rw [State.reportStation, setup]
      have told : c.holdEpoch.bus = c.bus.offered _ := congrArg State.bus holds
      rw [report, other, round, id] at told
      simp only [already, if_false, Bool.false_eq_true] at bus ⊢
      rw [held]
      refine ⟨fun i => ⟨?_, ?_⟩, congrArg (fun u => u.banks.held) holds, congrArg (fun u => u.banks.timer) holds,
        (congrArg (fun u => u.banks.other) holds).trans other,
        (congrArg (fun u => u.banks.liveId) holds).trans id,
        (congrArg State.ring holds).trans (ring.trans hr.symm), ?_, ?_⟩
      · exact (State.home_congr (congrArg State.homes holds) i).trans (home i)
      · rw [← record, State.liveRecord, State.liveRecord]
        exact congrArg (Option.bind · _) (congrArg (fun u => u.banks.live) holds)
      · simp only [room] at counted
        split_ifs at counted ⊢ <;> exact counted.perm (List.perm_append_singleton _ _).symm
      · rw [State.bump_bus, told, bus]
        rfl

end Sys2Proof.Machine

/-! The start of isolation (R44, R130 to R132, R143). -/

namespace Sys2Proof.Machine

open Sys2Proof

variable {s t u : State} {m : InMsg} {i j : HomeIdx} {p : Params} {round : Round}

/-! ### Abandoned entries (R44) -/

/-- The Leave of an abandoned entry. -/
def State.abandonLeave (s : State) (i : HomeIdx) : Directive :=
  if (s.entry i).state = .ranging then .leaveTag (s.entry i).tagVal else .leaveIndex i

/-- What is told of an abandoned entry. -/
def State.abandonTold (s : State) (i : HomeIdx) : List OutMsg :=
  s.cancelMessages i ++ [(Notice.enrollFailed i (s.entry i).tagVal .abandoned).message s.reportStation]

/-- The entries of a list, all of them Ranging or Testing, have been abandoned one after the other. -/
structure State.Abandons (s t : State) (l : List HomeIdx) : Prop where
  gone : ∀ i ∈ l, t.home i =
    if (s.liveRecord i).isSome then { Home.vacant with entry := (s.entry i).retired .lost } else Home.vacant
  others : ∀ i, i ∉ l → t.home i = s.home i
  record : ∀ i, t.liveRecord i = (s.liveRecord i).map fun r =>
    if i ∈ l then { r with flags := { r.flags with lost := true } } else r
  framer : t.framer = { s.framer with queue := (l.map s.abandonLeave).foldl joined s.framer.queue }
  bus : t.bus = s.bus.offered (l.flatMap s.abandonTold)
  counter : ∀ c, c ∉ noticeCounters → c ≠ .leaveDropped → t.counter c = s.counter c
  rogue : t.rogue = s.rogue
  banks : t.banks = { s.banks with live := t.banks.live }
  bars : t.bars = s.bars
  waited : t.waited = s.waited
  rest : s.SameRest t

theorem State.Abandons.nil (s : State) : s.Abandons s [] where
  gone := by simp
  others _ _ := rfl
  record i := by simp
  framer := rfl
  bus := (Bus.offered_nil _).symm
  counter _ _ _ := rfl
  rogue := rfl
  banks := rfl
  bars := rfl
  waited := rfl
  rest := by constructor <;> rfl

theorem State.partingMessages_of_idle (h : s.rogue.iso.cands = none) (i : HomeIdx) (round : Round) :
    s.partingMessages i round = s.cancelMessages i := by
  unfold State.partingMessages
  split
  · rename_i e
    rw [e] at h
    cases h
  · exact List.append_nil _

theorem State.idle_of_cands (h : s.rogue.iso.cands = none) (q : Probe) (e : s.rogue.iso = .probing q) :
    i ∉ q.cands := by
  rw [e] at h
  cases h

/-- One more entry is abandoned. -/
theorem State.Abandons.abandon {l : List HomeIdx} (h : s.Abandons t l) (idle : s.rogue.iso.cands = none)
    (new : i ∉ l) (state : (s.entry i).state = .ranging ∨ (s.entry i).state = .testing) :
    s.Abandons (t.failEnrolment i .lost .abandoned round) (l ++ [i]) := by
  have home : t.home i = s.home i := h.others i new
  have entry : t.entry i = s.entry i := congrArg Home.entry home
  have record : t.liveRecord i = s.liveRecord i := by simp [h.record, new]
  have idle' : t.rogue.iso.cands = none := by rw [h.rogue]; exact idle
  have outside : (t.entry i).state.inService = false := by
    rw [entry]
    rcases state with e | e <;> rw [e] <;> rfl
  have departs := t.departs_failEnrolment i .lost .abandoned round (.inl outside)
  obtain ⟨rogue, others⟩ := departs.stays (State.idle_of_cands idle')
  have report : t.reportStation = s.reportStation := State.reportStation_congr h.rest.setup
  refine ⟨fun j hj => ?_, fun j hj => ?_, fun j => ?_, ?_, ?_, fun c hc hl => ?_, rogue.trans h.rogue, ?_, ?_, ?_, ?_⟩
  · rcases List.mem_append.mp hj with old | last
    · rw [others j (fun e => new (e ▸ old))]
      exact h.gone j old
    · obtain rfl := List.mem_singleton.mp last
      rw [departs.home, outside, record, entry]
      simp
  · rw [List.mem_append, not_or, List.mem_singleton] at hj
    rw [others j hj.2]
    exact h.others j hj.1
  · by_cases e : j = i
    · subst e
      cases hr : s.liveRecord j with
      | none =>
        rw [departs.noRecord (record.trans hr)]
        rfl
      | some r =>
        rw [departs.record r (record.trans hr), outside]
        simp [RecFlags.withReason]
    · rw [departs.records j e, h.record]
      simp [e]
  · rw [departs.framer, h.framer, entry, List.map_append, List.foldl_append]
    rfl
  · rw [State.failEnrolment_bus, State.partingMessages_of_idle idle', h.bus, Bus.offered_append, List.flatMap_append,
      entry, report]
    simp [State.abandonTold, State.cancelMessages, home, entry, report]
  · rw [State.counter_failEnrolment hc (.inr idle') hl]
    exact h.counter c hc hl
  · rw [departs.banks.1, h.banks]
  · rw [← h.bars]
    simp
  · rw [← h.waited]
    simp
  · exact h.rest.trans (.of_update departs.rest)

/-- The entries a start abandons, in ascending order. -/
theorem State.Abandons.all {l m : List HomeIdx} (h : s.Abandons t m) (idle : s.rogue.iso.cands = none)
    (nodup : (m ++ l).Nodup) :
    s.Abandons (l.foldl (fun u i => u.abandon round i) t)
      (m ++ l.filter fun i => decide ((s.entry i).state = .ranging) || decide ((s.entry i).state = .testing)) := by
  induction l generalizing t m with
  | nil => simpa using h
  | cons i l ih =>
    have new : i ∉ m := fun hm =>
      (List.nodup_append.mp nodup).2.2 i hm i List.mem_cons_self rfl
    have entry : t.entry i = s.entry i := congrArg Home.entry (h.others i new)
    by_cases state : (s.entry i).state = .ranging ∨ (s.entry i).state = .testing
    · have abandoned : t.abandon round i = t.failEnrolment i .lost .abandoned round := by
        rw [State.abandon, entry]
        rcases state with e | e <;> rw [e]
      have step := ih (t := t.abandon round i) (m := m ++ [i])
        (by rw [abandoned]; exact h.abandon idle new state) (by simpa using nodup)
      simpa [state] using step
    · have kept : t.abandon round i = t := by
        rw [State.abandon, entry]
        cases e : (s.entry i).state <;> simp [e] at state ⊢
      have step := ih (t := t.abandon round i) (m := m) (by rw [kept]; exact h)
        (nodup.sublist ((List.sublist_cons_self i l).append_left m))
      simpa [state] using step

theorem State.abandons_all (idle : s.rogue.iso.cands = none) (round : Round) :
    s.Abandons (allIdx.foldl (fun u i => u.abandon round i) s) s.abandonable :=
  (State.Abandons.nil s).all (l := allIdx) (m := []) idle (List.nodup_finRange 64)

/-! ### The start (R130 to R132) -/

theorem State.candidates_eq (s : State) : s.candidates = s.isolable := by
  unfold State.candidates State.isolable allIdx
  congr 1
  funext i
  cases (s.entry i).state <;> rfl

/-- An Unresolved outcome (R142). -/
theorem State.endUnresolved_spec (s : State) (why : UnresolvedReason) (round : Round) (steps : Nat)
    (left : List HomeIdx) :
    (∀ i, (s.endUnresolved why round steps left).home i =
        { s.home i with entry := { s.entry i with probe := false } }) ∧
      (s.endUnresolved why round steps left).rogue = { s.rogue with iso := .backoff 2000, dirty := 0, clean := 0 } ∧
      s.Gained (s.endUnresolved why round steps left)
        [.rogueUnresolved, if s.bus.outbox.length < 16 then .noticesQueued else .noticeDropped] ∧
      s.endUnresolved why round steps left = { s with
        homes := (s.endUnresolved why round steps left).homes, rogue := (s.endUnresolved why round steps left).rogue
        counters := (s.endUnresolved why round steps left).counters
        bus := s.bus.offered [(Notice.rogueUnresolved why round steps left).message s.reportStation] } := by
  let v := { (s.setProbes []).clearStreaks with
    rogue := { (s.setProbes []).clearStreaks.rogue with iso := .backoff 2000 } }.bump .rogueUnresolved
  have ended : s.endUnresolved why round steps left = v.raise (.rogueUnresolved why round steps left) := rfl
  have counted : s.Gained v [.rogueUnresolved] := (State.gained_bump _).base rfl
  have told := (counted.bump (if s.bus.outbox.length < 16 then .noticesQueued else .noticeDropped)).congr
    (State.raise_counters v (.rogueUnresolved why round steps left))
  rw [ended]
  refine ⟨fun i => ?_, ?_, told.perm (.swap ..), ?_⟩
  · rw [State.home_congr (State.raise_homes _ _)]
    exact (State.home_setProbes _ [] i).trans (by simp)
  · rw [State.raise_rogue]
    rfl
  · rw [State.raise_eq, State.raise_bus]
    rfl

/-- What begins the Whole step, or ends the isolation at once, after the enrolments are abandoned. -/
def State.beginWhole (w : State) (cands : List HomeIdx) (round : Round) : State :=
  if cands = [] then w.endUnresolved .empty round 0 []
  else { w.setProbes cands with
    rogue := { w.rogue with iso := .probing { cands, step := .whole, obs := none, settle := 1, steps := 1 } } }

section
variable (w : State) (cands : List HomeIdx) (round : Round)

theorem State.beginWhole_home (i : HomeIdx) :
    (w.beginWhole cands round).home i =
      { w.home i with entry := { w.entry i with probe := decide (i ∈ cands) } } := by
  unfold State.beginWhole
  split
  · rename_i none
    rw [(w.endUnresolved_spec ..).1, none]
    simp
  · exact (State.home_setProbes ..).trans (by simp)

theorem State.beginWhole_rogue : (w.beginWhole cands round).rogue.iso =
    if cands = [] then .backoff 2000
    else .probing { cands, step := .whole, obs := none, settle := 1, steps := 1 } := by
  unfold State.beginWhole
  split
  · rw [(w.endUnresolved_spec ..).2.1]
  · rfl

theorem State.beginWhole_streaks {r : Rogue} (h : w.rogue = { r with dirty := 0, clean := 0 }) :
    (w.beginWhole cands round).rogue =
      { r with dirty := 0, clean := 0, iso := (w.beginWhole cands round).rogue.iso } := by
  unfold State.beginWhole
  split
  · rw [(w.endUnresolved_spec ..).2.1, h]
  · dsimp only
    rw [h]

theorem State.beginWhole_bus : (w.beginWhole cands round).bus =
    w.bus.offered
      (if cands = [] then [(Notice.rogueUnresolved .empty round 0 []).message w.reportStation] else []) := by
  unfold State.beginWhole
  split
  · exact congrArg State.bus (w.endUnresolved_spec ..).2.2.2
  · exact (Bus.offered_nil _).symm

theorem State.beginWhole_frame : w.beginWhole cands round = { w with
    homes := (w.beginWhole cands round).homes, rogue := (w.beginWhole cands round).rogue
    bus := (w.beginWhole cands round).bus, counters := (w.beginWhole cands round).counters } := by
  unfold State.beginWhole
  split
  · exact ((w.endUnresolved_spec ..).2.2.2).trans (by rw [(w.endUnresolved_spec ..).2.2.2])
  · rfl

theorem State.counter_beginWhole {c : Counter} (hc : c ∉ noticeCounters) (hu : c ≠ .rogueUnresolved) :
    (w.beginWhole cands round).counter c = w.counter c := by
  unfold State.beginWhole
  split
  · exact State.counter_endUnresolved hc hu ..
  · rfl

theorem State.counter_beginWhole_unresolved (none : cands = []) :
    (w.beginWhole cands round).counter .rogueUnresolved = min (w.counter .rogueUnresolved + 1) counterMax := by
  rw [State.beginWhole, if_pos none, (w.endUnresolved_spec ..).2.2.1 .rogueUnresolved]
  by_cases room : w.bus.outbox.length < 16 <;> simp [room]

end

/-- A start of isolation abandons enrolments, and then begins the Whole step or ends at once. -/
theorem State.startIsolation_cases (idle : s.rogue.iso.cands = none) (round : Round) :
    ∃ w, (s.bump .isolationRun).clearStreaks.Abandons w s.abandonable ∧
      s.startIsolation round = w.beginWhole s.isolable round := by
  refine ⟨_, State.abandons_all (s := (s.bump .isolationRun).clearStreaks) idle round, ?_⟩
  unfold State.startIsolation State.beginWhole
  dsimp only
  generalize List.foldl _ _ allIdx = w
  simp only [State.candidates_eq, List.isEmpty_iff]
  rfl

theorem State.mem_isolable : i ∈ s.isolable ↔
    (s.entry i).state = .held ∨ (s.entry i).state = .active ∨ (s.entry i).state = .dozing := by
  simp [State.isolable, or_assoc]

theorem State.mem_abandonable : i ∈ s.abandonable ↔ (s.entry i).state = .ranging ∨ (s.entry i).state = .testing := by
  simp [State.abandonable]

/-- A start of isolation, on its own port. -/
theorem State.startsIsolation (idle : s.rogue.iso.cands = none) (round : Round) :
    s.StartsIsolation (s.startIsolation round) s.bus round ∧ (s.startIsolation round).waited = s.waited := by
  obtain ⟨w, abandons, start⟩ := State.startIsolation_cases idle round
  have rogue : w.rogue = { s.rogue with dirty := 0, clean := 0 } := abandons.rogue
  have report : w.reportStation = s.reportStation := State.reportStation_congr abandons.rest.setup
  have frame := w.beginWhole_frame s.isolable round
  rw [start]
  refine ⟨⟨State.beginWhole_rogue .., ?_, fun i hi => ?_, fun i hr ht => ?_, ?_, ?_, fun i => ?_, ?_, ?_,
    fun none => ?_, ?_⟩, ?_⟩
  · exact State.beginWhole_streaks _ _ _ rogue
  · have gone := abandons.gone i (State.mem_abandonable.mpr hi)
    have free : i ∉ s.isolable := fun h => by
      rcases State.mem_isolable.mp h with e | e | e <;> simp [e] at hi
    rw [State.beginWhole_home, State.entry, gone, decide_eq_false free]
    by_cases record : (s.liveRecord i).isSome = true
    · rw [if_pos (by exact record), if_pos record]
      rfl
    · rw [if_neg (by exact record), if_neg record]
      rfl
  · rw [State.beginWhole_home, State.entry,
      abandons.others i (fun h => (State.mem_abandonable.mp h).elim hr ht)]
    rfl
  · rw [frame]
    exact abandons.framer
  · rw [State.beginWhole_bus, abandons.bus, Bus.offered_append, report]
    rfl
  · rw [State.liveRecord, congrArg State.banks frame]
    exact abandons.record i
  · rw [congrArg State.banks frame]
    exact abandons.banks
  · rw [State.counter_beginWhole _ _ _ (by decide) (by decide), abandons.counter _ (by decide) (by decide)]
    exact (State.counter_bump ..).trans (if_pos rfl)
  · rw [State.counter_beginWhole_unresolved _ _ _ none, abandons.counter _ (by decide) (by decide)]
    show min ((s.bump .isolationRun).counter .rogueUnresolved + 1) counterMax = _
    rw [State.counter_bump, if_neg (by decide)]
  · have same : s.SameRest w := State.SameRest.trans (by constructor <;> rfl) abandons.rest
    have rest : w.SameRest (w.beginWhole s.isolable round) := by
      rw [frame]
      constructor <;> rfl
    have bars : (w.beginWhole s.isolable round).bars = s.bars := (congrArg State.bars frame).trans abandons.bars
    exact (same.trans rest).update.trans (by rw [bars])
  · rw [frame]
    exact abandons.waited

/-- What a start does is the same for parts that differ in the port alone. -/
theorem State.StartsIsolation.of_answered {k : OutcomeCode} {data : List Byte} {port : Bus}
    (h : (s.answered m k data).StartsIsolation t port round) : s.StartsIsolation t port round :=
  ⟨h.1, h.2, h.3, h.4, h.5, h.6, h.7, h.8, h.9, h.10, h.11⟩

/-- A start tells nothing of the requests that are counted after it. -/
theorem State.StartsIsolation.bump {port : Bus} (h : s.StartsIsolation t port round) {c : Counter}
    (hi : c ≠ .isolationRun) (hu : c ≠ .rogueUnresolved) : s.StartsIsolation (t.bump c) port round := by
  refine ⟨h.1, h.2, h.3, h.4, h.5, h.6, h.7, h.8, ?_, fun none => ?_, ?_⟩
  · rw [State.counter_bump, if_neg hi.symm]
    exact h.9
  · rw [State.counter_bump, if_neg hu.symm]
    exact h.10 none
  · rw [State.bump, h.11]

/-! ### START_ISOLATION and BACKOFF_EXPIRY (R130, R143) -/

theorem exec_startIsolation_of_asks (h : s.Asks m 34 0) (hset : s.setup.isSome) :
    exec .startIsolation s = .next (s.popInbox.answerTo m (startIsolationReply s.popInbox m.body)) :=
  congrArg Host.Outcome.next (State.takeRequest_eq h rfl (.inl hset))

/-- Settles O27. -/
theorem isolationStartsByRequestOrBackoffEnd : Obligations.IsolationStartsByRequestOrBackoffEnd := by
  intro s
  refine ⟨fun m asks set => ?_, fun p ended setup => ⟨fun alarm auto => ?_, fun other => ?_⟩, fun other => ?_⟩
  · have runs := exec_startIsolation_of_asks asks set
    refine ⟨fun refused => answers_of_refuse runs (if_pos refused), fun alarm isIdle => ?_⟩
    have reply : startIsolationReply s.popInbox m.body = _ :=
      if_neg (not_or.mpr ⟨ne_of_eq_of_ne alarm (by decide), not_not.mpr isIdle⟩)
    rw [State.candidates_eq] at reply
    have idle : s.rogue.iso.cands = none := by rw [isIdle]; rfl
    obtain ⟨starts, waited⟩ :=
      State.startsIsolation (s := s.answered m .ok (bytesOf 1 s.isolable.length)) idle s.clock.round
    exact ⟨_, exec_of_done (f := fun u => u.startIsolation u.clock.round) runs reply,
      (State.bump_waited ..).trans waited, starts.of_answered.bump (by decide) (by decide)⟩
  · have idle : s.rogue.iso.cands = none := by rw [ended]; rfl
    obtain ⟨starts, waited⟩ := State.startsIsolation idle s.clock.round
    refine ⟨_, congrArg Host.Outcome.next ?_, waited, starts⟩
    rw [State.endBackoff, ended, setup]
    simp [alarm, auto]
  · refine congrArg Host.Outcome.next ?_
    rw [State.endBackoff, ended, setup]
    rcases other with e | e <;> simp [e]
  · refine congrArg Host.Outcome.next ?_
    unfold State.endBackoff
    split
    · exact absurd ‹_› other
    · rfl

end Sys2Proof.Machine

/-! The verdicts of the rogue monitor (R125 to R142). -/

namespace Sys2Proof.Machine

open Sys2Proof

variable {s t u : State} {m : InMsg} {i j : HomeIdx} {p : Params} {round : Round}

/-! ### A mute while isolation is not in progress -/

theorem State.muteHome_others (idle : s.rogue.iso.cands = none) (q : MuteReason) (hj : j ≠ i) :
    (s.muteHome i q round).home j = s.home j := by
  unfold State.muteHome
  rw [State.dropCandidate_of_idle (by simpa using idle), State.home_modHome, if_neg hj,
    State.cancelRetest_home _ _ _ hj]

theorem State.muteHome_rogue (idle : s.rogue.iso.cands = none) (q : MuteReason) :
    (s.muteHome i q round).rogue = s.rogue := by
  unfold State.muteHome
  rw [State.dropCandidate_of_idle (by simpa using idle), State.modHome_rogue, State.cancelRetest_rogue]

theorem State.counter_muteHome {c : Counter} (hc : c ∉ noticeCounters)
    (hu : c ≠ .rogueUnresolved ∨ s.rogue.iso.cands = none) (q : MuteReason) :
    (s.muteHome i q round).counter c = s.counter c :=
  (State.counter_dropCandidate hc (hu.imp_right fun idle => by simpa using idle) ..).trans
    (State.counter_cancelRetest hc i)

/-! ### A conviction (R141) -/

/-- A convicted home's part once isolation has ended and its record is flagged. -/
def State.accused (s : State) (i : HomeIdx) : State :=
  State.flagRecord { (s.setProbes []).clearStreaks with
    rogue := { (s.setProbes []).clearStreaks.rogue with iso := .idle } } i fun f => { f with convicted := true }

/-- The convicted home leaves enrolment, or is Muted. -/
def State.sentenced (s : State) (i : HomeIdx) (round : Round) : State :=
  if (s.entry i).state = .held then (s.accused i).endEnrolment i .lost round
  else (s.accused i).muteHome i .convicted round

theorem State.convict_eq (s : State) (i : HomeIdx) (round : Round) (steps : Nat) :
    s.convict i round steps =
      ((((s.sentenced i round).addBar (s.entry i).tagVal .rogue s.straps.station).sendPeer
        (barMessage (s.entry i).tagVal s.straps.station)).bump .rogueConvicted).raise
          (.rogueConvicted i (s.entry i).tagVal (s.entry i).state round steps) := rfl

theorem State.accused_home (s : State) (i j : HomeIdx) :
    (s.accused i).home j = { s.home j with entry := { s.entry j with probe := false } } := by
  refine (State.home_congr (State.flagRecord_homes ..) j).trans ((State.home_setProbes _ [] j).trans ?_)
  simp

theorem State.accused_rogue (s : State) (i : HomeIdx) :
    (s.accused i).rogue = { s.rogue with iso := .idle, dirty := 0, clean := 0 } := State.flagRecord_rogue ..

theorem State.accused_liveRecord (s : State) (i j : HomeIdx) :
    (s.accused i).liveRecord j =
      if j = i then (s.liveRecord i).map fun r => { r with flags := { r.flags with convicted := true } }
      else s.liveRecord j := State.liveRecord_flagRecord ..

theorem State.accused_idle (s : State) (i : HomeIdx) : (s.accused i).rogue.iso.cands = none := by
  rw [State.accused_rogue]
  rfl

theorem State.flagRecord_frame (s : State) (i : HomeIdx) (f : RecFlags → RecFlags) :
    s.flagRecord i f = { s with banks := { s.banks with live := (s.flagRecord i f).banks.live } } := by
  unfold State.flagRecord
  split
  · rfl
  · split <;> rfl

theorem State.accused_frame (s : State) (i : HomeIdx) :
    s.accused i = { s with
      homes := (s.accused i).homes, rogue := (s.accused i).rogue
      banks := { s.banks with live := (s.accused i).banks.live } } := by
  unfold State.accused
  rw [State.flagRecord_frame]
  rfl

theorem State.accused_cancelMessages (s : State) (i : HomeIdx) :
    (s.accused i).cancelMessages i = s.cancelMessages i := by
  have report : (s.accused i).reportStation = s.reportStation :=
    State.reportStation_congr (congrArg State.setup (s.accused_frame i) :)
  rw [State.cancelMessages, State.cancelMessages, report, State.entry, State.accused_home]
  rfl

/-- What the sentence leaves of the rest of the part. -/
theorem State.sentenced_spec (s : State) (i : HomeIdx) (round : Round) :
    (s.sentenced i round).rogue = { s.rogue with iso := .idle, dirty := 0, clean := 0 } ∧
      (∀ j, j ≠ i → (s.sentenced i round).home j = { s.home j with entry := { s.entry j with probe := false } } ∧
        (s.sentenced i round).liveRecord j = s.liveRecord j) ∧
      (s.sentenced i round).bars = s.bars ∧
      (s.sentenced i round).bus = s.bus.offered (s.cancelMessages i) ∧
      (∀ c, c ∉ noticeCounters → c ≠ .leaveDropped → (s.sentenced i round).counter c = s.counter c) ∧
      (s.sentenced i round).waited = s.waited ∧
      (s.sentenced i round).banks = { s.banks with live := (s.sentenced i round).banks.live } ∧
      s.SameRest (s.sentenced i round) := by
  have idle := s.accused_idle i
  have frame := s.accused_frame i
  have told := s.accused_cancelMessages i
  have record (j : HomeIdx) (hj : j ≠ i) : (s.accused i).liveRecord j = s.liveRecord j := by
    rw [State.accused_liveRecord, if_neg hj]
  have before : s.SameRest (s.accused i) := by
    rw [frame]
    constructor <;> rfl
  have counter (c : Counter) : (s.accused i).counter c = s.counter c :=
    State.counter_congr (congrArg State.counters frame :) c
  unfold State.sentenced
  split
  · rename_i held
    have outside : ((s.accused i).entry i).state.inService = false := by
      rw [State.entry, State.accused_home]
      show (s.entry i).state.inService = false
      rw [held]
      rfl
    have departs := (s.accused i).departs_endEnrolment i .lost round (.inl outside)
    obtain ⟨rogue, others⟩ := departs.stays (State.idle_of_cands idle)
    refine ⟨rogue.trans (s.accused_rogue i), fun j hj => ⟨(others j hj).trans (s.accused_home i j),
      (departs.records j hj).trans (record j hj)⟩, ?_, ?_, fun c hc hl => ?_, ?_, ?_, ?_⟩
    · rw [State.endEnrolment_bars, frame]
    · rw [State.endEnrolment_bus, State.partingMessages_of_idle idle, told, frame]
    · rw [State.counter_endEnrolment hc (.inr idle) hl, counter]
    · rw [State.endEnrolment_waited, frame]
    · rw [departs.banks.1, frame]
    · exact before.trans (.of_update departs.rest)
  · refine ⟨(State.muteHome_rogue idle _).trans (s.accused_rogue i), fun j hj =>
      ⟨(State.muteHome_others idle _ hj).trans (s.accused_home i j), ?_⟩, ?_, ?_, fun c hc hl => ?_, ?_, ?_, ?_⟩
    · rw [State.liveRecord_congr (State.muteHome_banks ..), record j hj]
    · rw [State.muteHome_bars, frame]
    · rw [State.muteHome_bus, State.partingMessages_of_idle idle, told, frame]
    · rw [State.counter_muteHome hc (.inr idle), counter]
    · rw [State.muteHome_waited, frame]
    · rw [State.muteHome_banks, frame]
    · exact before.trans (by constructor <;> simp)

/-- A convicted home in service is Muted. -/
theorem State.sentenced_of_served (h : (s.entry i).state ≠ .held) :
    (s.sentenced i round).home i = { s.home i with
        entry := (s.entry i).muted .convicted, retest := .idle, keptWake := false } ∧
      (s.sentenced i round).framer = s.framer ∧
      (s.sentenced i round).liveRecord i =
        (s.liveRecord i).map fun r => { r with flags := { r.flags with convicted := true } } := by
  rw [State.sentenced, if_neg h]
  refine ⟨?_, ?_, ?_⟩
  · rw [State.muteHome_self, State.entry, State.accused_home]
    rfl
  · rw [State.muteHome_framer, State.accused_frame]
  · rw [State.liveRecord_congr (State.muteHome_banks ..), State.accused_liveRecord, if_pos rfl]

/-- A convicted Held home leaves enrolment, with its Leave. -/
theorem State.sentenced_of_held (h : (s.entry i).state = .held) :
    (s.sentenced i round).home i =
        (if (s.liveRecord i).isSome then { Home.vacant with entry := (s.entry i).retired .lost } else Home.vacant) ∧
      (s.sentenced i round).framer = { s.framer with queue := joined s.framer.queue (.leaveIndex i) } ∧
      (s.sentenced i round).liveRecord i = (s.liveRecord i).map fun r =>
        { r with flags := { r.flags with convicted := true, lost := true } } := by
  have entry : (s.accused i).entry i = { s.entry i with probe := false } := by
    rw [State.entry, State.accused_home]
  have state : ((s.accused i).entry i).state = .held := by
    rw [entry]
    exact h
  have outside : ((s.accused i).entry i).state.inService = false := by
    rw [state]
    rfl
  have leave : ((s.accused i).entry i).leaveDirective i = .leaveIndex i := by
    rw [Entry.leaveDirective, if_neg (by rw [state]; decide)]
  have departs := (s.accused i).departs_endEnrolment i .lost round (.inl outside)
  have record := s.accused_liveRecord i i
  rw [if_pos rfl] at record
  rw [State.sentenced, if_pos h]
  refine ⟨?_, ?_, ?_⟩
  · rw [departs.home, outside, record, Option.isSome_map, entry]
    simp only [Bool.false_eq_true, false_or]
    rfl
  · rw [departs.framer, leave, State.accused_frame]
  · cases hr : s.liveRecord i with
    | none => exact departs.noRecord (by rw [record, hr]; rfl)
    | some r =>
      rw [departs.record _ (by rw [record, hr]; rfl), outside]
      simp [RecFlags.withReason]

/-- A conviction: the sentence, the bar, and what is told of it. -/
theorem State.convict_spec (s : State) (i : HomeIdx) (round : Round) (steps : Nat) :
    (s.convict i round steps).homes = (s.sentenced i round).homes ∧
      (s.convict i round steps).banks = (s.sentenced i round).banks ∧
      (s.convict i round steps).framer = (s.sentenced i round).framer ∧
      (s.convict i round steps).rogue = (s.sentenced i round).rogue ∧
      (s.convict i round steps).bars =
        barsAfter s.bars { tag := (s.entry i).tagVal, reason := .rogue, origin := s.straps.station } ∧
      (s.convict i round steps).bus = s.bus.offered (s.cancelMessages i ++
        [barMessage (s.entry i).tagVal s.straps.station,
          (Notice.rogueConvicted i (s.entry i).tagVal (s.entry i).state round steps).message s.reportStation]) ∧
      (s.convict i round steps).counter .rogueConvicted = min (s.counter .rogueConvicted + 1) counterMax ∧
      s.convict i round steps = { s with
        homes := (s.convict i round steps).homes, framer := (s.convict i round steps).framer
        rogue := (s.convict i round steps).rogue, bars := (s.convict i round steps).bars
        bus := (s.convict i round steps).bus
        banks := { s.banks with live := (s.convict i round steps).banks.live }
        counters := (s.convict i round steps).counters } := by
  obtain ⟨-, -, bars, bus, counter, waited, banks, rest⟩ := s.sentenced_spec i round
  have report : (s.sentenced i round).reportStation = s.reportStation := State.reportStation_congr rest.setup
  rw [State.convict_eq]
  generalize s.sentenced i round = d at *
  refine ⟨by simp, by simp, by simp, by simp, ?_, ?_, ?_, ?_⟩
  · rw [← bars, ← State.addBar_bars]
    simp
  · rw [State.raise_bus, State.bump_bus, State.sendPeer_bus, State.addBar_bus, bus, Bus.offered_append,
      Bus.offered_append, State.reportStation_congr (s := d) (by simp), report]
    simp
  · have sent (u : State) (o : OutMsg) : (u.sendPeer o).counter .rogueConvicted = u.counter .rogueConvicted := by
      rw [u.gained_sendPeer o .rogueConvicted, if_neg]
      split_ifs <;> simp
    rw [State.counter_raise (by decide), State.counter_bump, if_pos rfl, sent, State.counter_addBar (by decide),
      counter _ (by decide) (by decide)]
  · let t := (((d.addBar (s.entry i).tagVal .rogue s.straps.station).sendPeer
      (barMessage (s.entry i).tagVal s.straps.station)).bump .rogueConvicted).raise
        (.rogueConvicted i (s.entry i).tagVal (s.entry i).state round steps)
    have same : d.SameRest t := by constructor <;> simp [t]
    have waits : t.waited = s.waited := by simp [t, waited]
    have keeps : t.banks = d.banks := by simp [t]
    show t = _
    exact (rest.trans same).update.trans (by rw [waits, keeps, banks])

/-! ### The steps (R134 to R138) -/

theorem State.beginStep_iso (s : State) (steps : Nat) (step : IsoStep) (c muted : List HomeIdx) :
    (s.beginStep steps step c muted).rogue.iso =
      .probing { cands := c, step, obs := none, settle := 0, steps := steps + 1 } := rfl

theorem State.beginStep_probe (s : State) (steps : Nat) (step : IsoStep) (c muted : List HomeIdx) (j : HomeIdx) :
    ((s.beginStep steps step c muted).entry j).probe = decide (j ∈ muted) :=
  (congrArg Entry.probe (State.entry_setProbes _ muted j)).trans (by simp)

theorem State.narrowTo_of_many {c : List HomeIdx} (h : 2 ≤ c.length) (steps : Nat) :
    s.narrowTo round steps c = s.beginStep steps .halving c (c.take ((c.length + 1) / 2)) := by
  match c, h with
  | _ :: _ :: _, _ => rfl

theorem State.stepVerdict_of_dark {q : Probe} {dirty blank : Bool} (clean : dirty = false)
    (dark : (blank || s.light.loss || s.framer.silence) = true) :
    s.stepVerdict q round dirty blank = s.endUnresolved .line round q.steps q.cands := by
  rw [State.stepVerdict, if_pos (by simp [clean, dark])]

section
variable {q : Probe} {dirty blank : Bool}

/-- A step's verdict is void where its round is clean and dark, and is looked at otherwise. -/
theorem State.verdict_seen (seen : dirty = true ∨ (blank || s.light.loss || s.framer.silence) = false) :
    ¬ (!dirty && (blank || s.light.loss || s.framer.silence)) = true := by
  rcases seen with e | e <;> simp [e]

theorem State.stepVerdict_of_whole (seen : dirty = true ∨ (blank || s.light.loss || s.framer.silence) = false)
    (step : q.step = .whole) :
    s.stepVerdict q round dirty blank =
      if dirty then s.endUnresolved .whole round q.steps q.cands else s.narrowTo round q.steps q.cands := by
  rw [State.stepVerdict, if_neg (State.verdict_seen seen), step]

theorem State.stepVerdict_of_halving (seen : dirty = true ∨ (blank || s.light.loss || s.framer.silence) = false)
    (step : q.step = .halving) :
    s.stepVerdict q round dirty blank =
      s.narrowTo round q.steps (q.cands.filter fun i => (s.entry i).probe != dirty) := by
  rw [State.stepVerdict, if_neg (State.verdict_seen seen), step]

theorem State.stepVerdict_of_unconfirmed (step : q.step = .confirm) (isDirty : dirty = true) :
    s.stepVerdict q round dirty blank = s.endUnresolved .confirm round q.steps q.cands := by
  rw [State.stepVerdict, if_neg (State.verdict_seen (.inl isDirty)), step, isDirty]
  rfl

theorem State.stepVerdict_of_confirmed (seen : (blank || s.light.loss || s.framer.silence) = false)
    (step : q.step = .confirm) (clean : dirty = false) (cands : q.cands = [i]) :
    s.stepVerdict q round dirty blank = s.convict i round q.steps := by
  rw [State.stepVerdict, if_neg (State.verdict_seen (.inr seen)), step, clean, cands]
  rfl

end

/-- Settles O28. -/
theorem stepVerdictNarrowsOrConvicts : Obligations.StepVerdictNarrowsOrConvicts := by
  intro s p round dirty blank _ t dark noticed unresolved narrows
  have ended {why : UnresolvedReason} {left : List HomeIdx} (h : t = s.endUnresolved why round p.steps left) :
      unresolved why left := by
    have spec := s.endUnresolved_spec why round p.steps left
    rw [← h] at spec
    obtain ⟨homes, rogue, gained, frame⟩ := spec
    exact ⟨homes, rogue, gained, frame⟩
  have narrowed {c : List HomeIdx} (h : t = s.narrowTo round p.steps c) : narrows c := by
    refine ⟨fun e => ended (h.trans (by rw [e]; rfl)), fun i e => ?_, fun many => ?_⟩
    · have begun : t = s.beginStep p.steps .confirm [i] [i] := h.trans (by rw [e]; rfl)
      rw [begun]
      exact ⟨s.beginStep_iso .., fun j => (s.beginStep_probe ..).trans (by simp)⟩
    · rw [h.trans (State.narrowTo_of_many many p.steps)]
      exact ⟨s.beginStep_iso .., fun j => s.beginStep_probe ..⟩
  refine ⟨fun clean unseen => ended (State.stepVerdict_of_dark clean unseen), fun step isDirty => ended ?_,
    fun step clean seen => narrowed ?_, fun step seen => narrowed ?_, fun step isDirty => ended ?_,
    fun i step clean seen cands => ?_⟩
  · exact (State.stepVerdict_of_whole (.inl isDirty) step).trans (if_pos isDirty)
  · exact (State.stepVerdict_of_whole (.inr seen) step).trans (if_neg (Bool.eq_false_iff.mp clean))
  · exact State.stepVerdict_of_halving seen step
  · exact State.stepVerdict_of_unconfirmed step isDirty
  · have convicts : t = s.convict i round p.steps := State.stepVerdict_of_confirmed seen step clean cands
    obtain ⟨homes, banks, framer, rogue, bars, bus, counted, frame⟩ := s.convict_spec i round p.steps
    obtain ⟨sentence, others, -⟩ := s.sentenced_spec i round
    rw [← convicts] at homes banks framer rogue bars bus counted frame
    have home := State.home_congr homes
    have record := State.liveRecord_congr banks
    refine ⟨rogue.trans sentence, fun j hj => ⟨(home j).trans (others j hj).1, (record j).trans (others j hj).2⟩, bars,
      fun served => ?_, fun held => ?_, fun _ => ⟨bus, frame⟩, counted⟩
    · have free : (s.entry i).state ≠ .held := by
        rcases served with e | e <;> rw [e] <;> decide
      obtain ⟨muted, keeps, flagged⟩ := State.sentenced_of_served (round := round) free
      exact ⟨(home i).trans muted, framer.trans keeps, (record i).trans flagged⟩
    · obtain ⟨left, queue, flagged⟩ := State.sentenced_of_held (round := round) held
      exact ⟨(home i).trans left, framer.trans queue, (record i).trans flagged⟩

end Sys2Proof.Machine

/-! The alarm and the stray count (R106, R107, R118, R125 to R128). -/

namespace Sys2Proof.Machine

open Sys2Proof

variable {s t u : State} {i j : HomeIdx} {p : Params} {round : Round}

/-! ### A round handed to the monitor -/

theorem State.probing_of_probing {q : Probe} (h : s.rogue.iso = .probing q) : s.probing = true := by
  rw [State.probing, h]

section
variable {stray : Nat} {v : RoundVerdict} {k : RoundKind}

theorem State.takeRound_of_probing {q : Probe} (hp : s.setup = some p) (hq : s.rogue.iso = .probing q) :
    s.takeRound round stray v k =
      if q.obs = some round then s.stepVerdict q round (decide (p.stray ≤ stray)) (decide (v = .blank)) else s := by
  rw [State.takeRound, hp]
  dsimp only
  rw [hq, ← beq_eq_decide v]

theorem State.takeRound_of_idle (hp : s.setup = some p) (idle : s.probing = false) :
    s.takeRound round stray v k =
      if k = .quiet then s else if p.stray ≤ stray then s.countDirty p round stray else s.countClean p round := by
  rw [State.takeRound, hp]
  dsimp only
  simp only [decide_eq_true_eq]
  cases h : s.rogue.iso with
  | probing q => rw [State.probing_of_probing h] at idle; cases idle
  | idle => rfl
  | backoff n => rfl

end

/-! ### Dirty and clean rounds -/

theorem State.countDirty_of_alarm (h : s.rogue.alarm = true) (stray : Nat) :
    s.countDirty p round stray = { s with rogue := { s.rogue with clean := 0 } } := by
  rw [State.countDirty, if_pos (by exact h)]

theorem State.countDirty_of_short (h : s.rogue.alarm = false) (short : s.rogue.dirty + 1 < p.dirtyLen) (stray : Nat) :
    s.countDirty p round stray = { s with rogue := { s.rogue with clean := 0, dirty := s.rogue.dirty + 1 } } := by
  rw [State.countDirty, if_neg (by exact Bool.eq_false_iff.mp h), if_pos (by exact short)]

/-- A declaration of the alarm, before the isolation that it may start (R126). -/
def State.declared (s : State) (round : Round) (stray : Nat) (starts : Bool) : State :=
  ({ s with rogue := { s.rogue with alarm := true, alarmAge := 0, dirty := 0, clean := 0 } }.bump .rogueAlarm).raise
    (.rogueAlarm true round stray starts 0)

theorem State.countDirty_of_long (h : s.rogue.alarm = false) (long : p.dirtyLen ≤ s.rogue.dirty + 1) (stray : Nat)
    {starts : Bool} (hs : (p.autoIsolate && decide (s.rogue.iso = .idle)) = starts) :
    s.countDirty p round stray =
      if starts then (s.declared round stray starts).startIsolation round else s.declared round stray starts := by
  rw [State.countDirty, if_neg (by exact Bool.eq_false_iff.mp h), if_neg (by exact long.not_gt)]
  dsimp only
  rw [beq_eq_decide, hs]
  rfl

theorem State.declared_spec (hp : s.setup = some p) (stray : Nat) (starts : Bool) :
    s.declared round stray starts = { s with
        rogue := { s.rogue with alarm := true, alarmAge := 0, dirty := 0, clean := 0 }
        bus := s.bus.offered [(Notice.rogueAlarm true round stray starts 0).message p.report]
        counters := (s.declared round stray starts).counters } ∧
      s.Gained (s.declared round stray starts)
        [.rogueAlarm, if s.bus.outbox.length < 16 then .noticesQueued else .noticeDropped] := by
  let d := { s with rogue := { s.rogue with alarm := true, alarmAge := 0, dirty := 0, clean := 0 } }.bump .rogueAlarm
  let notice : Notice := .rogueAlarm true round stray starts 0
  have report : d.reportStation = p.report := by rw [State.reportStation, show d.setup = some p from hp]
  have counted : s.Gained d [.rogueAlarm] := (State.gained_bump _).base rfl
  have told := (counted.bump (if s.bus.outbox.length < 16 then .noticesQueued else .noticeDropped)).congr
    (State.raise_counters d notice)
  refine ⟨?_, told.perm (.swap ..)⟩
  show d.raise notice = _
  rw [State.raise_eq, State.raise_bus, report]
  rfl

theorem State.countClean_of_kept (h : s.rogue.alarm = false ∨ s.rogue.clean + 1 < p.cleanLen) :
    s.countClean p round =
      { s with rogue := { s.rogue with dirty := 0, clean := min (s.rogue.clean + 1) p.cleanLen } } := by
  refine if_neg ?_
  rcases h with e | e
  · simp [e]
  · simp only [Bool.and_eq_true, decide_eq_true_eq, not_and]
    omega

theorem State.countClean_of_cleared (h : s.rogue.alarm = true) (long : p.cleanLen ≤ s.rogue.clean + 1) :
    s.countClean p round =
      State.raise { s with rogue := { s.rogue with alarm := false, alarmAge := 0, dirty := 0, clean := 0 } }
        (.rogueAlarm false round 0 false s.rogue.alarmAge) := by
  refine if_pos ?_
  simp only [h, Bool.true_and, decide_eq_true_eq]
  omega

/-! ### The stray count (R106, R107, R118) -/

theorem Window.isWindow_eq (w : Window) : w.isWindow =
    (w.purpose == .data || w.purpose == .poll || w.purpose == .enrolTest || w.purpose == .retest) := by
  unfold Window.isWindow
  cases w.purpose <;> rfl

theorem Window.earlyLit_eq (w : Window) (o : RoundObs) :
    w.earlyLit o = (w.isWindow && o.lit.any fun q => decide (q + 1 = w.start)) := rfl

theorem Window.lateLit_eq (w : Window) (o : RoundObs) :
    w.lateLit o = (w.isWindow && o.lit.any fun q => decide (q = w.start + w.length) && decide (q ≤ 3999)) := by
  simp only [Window.lateLit, Bool.decide_and]

/-- A quantum is core where it lies in no window or span and beside no window. -/
theorem Expectation.classOf_eq_core_iff (x : Expectation) (q : Nat) :
    x.classOf q = .core ↔ x.discovery ≤ q ∧
      ∀ w ∈ x.windows, w.holds q = false ∧ w.beside q = false := by
  unfold Expectation.classOf
  constructor
  · intro core
    split_ifs at core with inWindow inSpan beside
    simp only [List.any_eq_true, not_exists, not_and, Bool.or_eq_true, decide_eq_true_eq, not_or, Bool.and_eq_true,
      Bool.not_eq_true', Bool.not_eq_true, not_lt] at inWindow inSpan beside
    refine ⟨inSpan.1, fun w hw => ⟨?_, beside w hw⟩⟩
    cases kind : w.isWindow with
    | true => exact inWindow w hw kind
    | false => exact inSpan.2 w hw kind
  · rintro ⟨beyond, free⟩
    rw [if_neg, if_neg, if_neg]
    · simpa using fun w hw => (free w hw).2
    · simp only [Bool.or_eq_true, decide_eq_true_eq, List.any_eq_true, Bool.and_eq_true, not_or, not_exists, not_and]
      exact ⟨beyond.not_gt, fun w hw _ => Bool.eq_false_iff.mp (free w hw).1⟩
    · simp only [List.any_eq_true, Bool.and_eq_true, not_exists, not_and]
      exact fun w hw _ => Bool.eq_false_iff.mp (free w hw).1

theorem Window.beside_eq (w : Window) (q : Nat) :
    w.beside q = (w.isWindow && (decide (q + 1 = w.start) || decide (q = w.start + w.length))) := rfl

/-- A quantum is core where it lies in no window, no span and not beside a window. -/
theorem Expectation.classOf_beq_core (x : Expectation) (q : Nat) :
    (x.classOf q == .core) = (decide (x.discovery ≤ q) && x.windows.all fun w =>
      !w.holds q && !(w.isWindow && (decide (q + 1 = w.start) || decide (q = w.start + w.length)))) := by
  rw [Bool.eq_iff_iff, beq_iff_eq, x.classOf_eq_core_iff]
  simp only [Bool.and_eq_true, decide_eq_true_eq, List.all_eq_true, Bool.not_eq_true', Window.beside_eq]

theorem Window.litNeighbours_eq (w : Window) (o : RoundObs) :
    (w.earlyLit o).toNat + (w.lateLit o).toNat =
      if w.isWindow then
        (if o.lit.any fun q => decide (q + 1 = w.start) then 1 else 0)
          + if o.lit.any fun q => decide (q = w.start + w.length) && decide (q ≤ 3999) then 1 else 0
      else 0 := by
  rw [Window.earlyLit_eq, Window.lateLit_eq]
  cases w.isWindow
  · rfl
  · simp only [Bool.true_and, bool_toNat, if_true]

/-- Settles O29. -/
theorem alarmFollowsRunsOfRounds : Obligations.AlarmFollowsRunsOfRounds := by
  constructor
  · intro s p round stray v k hp t
    refine ⟨fun q hq obs => (State.takeRound_of_probing hp hq).trans (if_pos obs),
      fun q hq obs => (State.takeRound_of_probing hp hq).trans (if_neg obs),
      fun idle quiet => (State.takeRound_of_idle hp idle).trans (if_pos quiet),
      fun idle counted dirty => ?_, fun idle counted clean => ?_⟩
    · have taken : t = s.countDirty p round stray :=
        (State.takeRound_of_idle hp idle).trans ((if_neg counted).trans (if_pos dirty))
      rw [taken]
      cases alarm : s.rogue.alarm with
      | true =>
        have counts := State.countDirty_of_alarm (p := p) (round := round) alarm stray
        rw [counts]
        exact ⟨rfl, fun _ => rfl, nofun, nofun⟩
      | false =>
        rcases Nat.lt_or_ge (s.rogue.dirty + 1) p.dirtyLen with short | long
        · rw [State.countDirty_of_short alarm short]
          exact ⟨rfl, nofun, fun _ _ => rfl, fun _ long => absurd short long.not_gt⟩
        · rw [State.countDirty_of_long alarm long stray rfl]
          generalize hs : (p.autoIsolate && decide (s.rogue.iso = .idle)) = starts
          obtain ⟨frame, gained⟩ := State.declared_spec (round := round) hp stray starts
          have starting (h : starts = true) :
              (s.declared round stray starts).StartsIsolation ((s.declared round stray starts).startIsolation round)
                (s.declared round stray starts).bus round := by
            refine (State.startsIsolation ?_ round).1
            rw [h, Bool.and_eq_true, decide_eq_true_eq] at hs
            rw [frame]
            show s.rogue.iso.cands = none
            rw [hs.2]
            rfl
          refine ⟨?_, nofun, fun _ short => absurd short long.not_gt, fun _ _ =>
            ⟨s.declared round stray starts, frame, gained, fun no => if_neg (Bool.eq_false_iff.mp no), fun yes => ?_⟩⟩
          · split
            · rename_i yes
              rw [(starting yes).streaks]
            · rw [frame]
          · rw [if_pos yes]
            exact starting yes
    · have taken : t = s.countClean p round :=
        (State.takeRound_of_idle hp idle).trans ((if_neg counted).trans (if_neg clean.not_ge))
      rw [taken]
      by_cases kept : s.rogue.alarm = false ∨ s.rogue.clean + 1 < p.cleanLen
      · rw [State.countClean_of_kept kept]
        exact ⟨rfl, rfl, fun quiet => ⟨quiet, rfl⟩, fun loud short => ⟨loud, min_eq_left short.le⟩,
          fun loud long => absurd kept (by simp [loud, long])⟩
      · rw [not_or, Bool.not_eq_false, not_lt] at kept
        have report : State.reportStation { s with
            rogue := { s.rogue with alarm := false, alarmAge := 0, dirty := 0, clean := 0 } } = p.report := by
          rw [State.reportStation, show State.setup { s with rogue := _ } = some p from hp]
        rw [State.countClean_of_cleared kept.1 kept.2, State.raise_rogue, State.raise_bus, report]
        exact ⟨rfl, rfl, fun quiet => absurd kept.1 (by simp [quiet]), fun _ short => absurd short kept.2.not_gt,
          fun _ _ => ⟨rfl, rfl, rfl⟩⟩
  · intro x o spanLength inside before after core neighbours
    have lit : x.litCore o = o.lit.countP core := by
      unfold Expectation.litCore
      rw [funext x.classOf_beq_core]
      rfl
    have beside : (fun w : Window => (w.earlyLit o).toNat + (w.lateLit o).toNat) = neighbours :=
      funext fun w => w.litNeighbours_eq o
    refine ⟨lit, rfl, ?_, fun w => ⟨w.isWindow_eq, rfl, rfl, w.lateLit_eq o⟩⟩
    rw [Expectation.stray, lit, Expectation.litNeighbours, beside]
    rfl

end Sys2Proof.Machine

/-! The layouts of answers, notices and peer messages (R16, R207, R211, R216, R220), and reads of a status, a home and
a group of counters (R16, R211 to R213). -/

namespace Sys2Proof.Machine

open Sys2Proof

variable {s : State} {m : InMsg} {i : HomeIdx}

/-! ### Fields packed one after another -/

theorem bytesOf_length (n v : Nat) : (bytesOf n v).length = n := by
  induction n with
  | zero => rfl
  | succ n ih => rw [bytesOf, List.length_cons, ih]

theorem foldl_natOf (bs : List Byte) (a : Nat) :
    bs.foldl (fun a b => a * 256 + b.toNat) a = a * 256 ^ bs.length + natOf bs := by
  induction bs using List.reverseRecOn with
  | nil => simp [natOf]
  | append_singleton bs b ih =>
    rw [List.foldl_append, ih, natOf_append, List.length_append, List.length_singleton, pow_succ]
    simp only [List.foldl_cons, List.foldl_nil]
    ring

theorem natOf_bytesOf (n v : Nat) : natOf (bytesOf n v) = v % 256 ^ n := by
  induction n with
  | zero => simp [bytesOf, natOf, Nat.mod_one]
  | succ n ih =>
    have top : (BitVec.ofNat 8 (v >>> (8 * n))).toNat = v / 256 ^ n % 256 := by
      rw [BitVec.toNat_ofNat, Nat.shiftRight_eq_div_pow, Nat.pow_mul]
    have spelled : natOf (bytesOf (n + 1) v) = v / 256 ^ n % 256 * 256 ^ n + natOf (bytesOf n v) := by
      rw [bytesOf, natOf, List.foldl_cons, foldl_natOf, bytesOf_length, top, Nat.zero_mul, Nat.zero_add]
    rw [spelled, ih, Nat.pow_succ, Nat.mod_mul]
    ring

/-- Fields of given widths and values, one after another. -/
def packed (fields : List (Nat × Nat)) : List Byte := fields.flatMap fun f => bytesOf f.1 f.2

/-- The table of fields that stand one after another from a byte on. -/
def placed : Nat → List (Nat × Nat) → List (Nat × Nat × Nat)
  | _, [] => []
  | o, f :: rest => (o, f.1, f.2) :: placed (o + f.1) rest

@[simp] theorem packed_nil : packed [] = [] := rfl

@[simp] theorem packed_cons (f : Nat × Nat) (rest : List (Nat × Nat)) :
    packed (f :: rest) = bytesOf f.1 f.2 ++ packed rest := rfl

theorem packed_length (fields : List (Nat × Nat)) : (packed fields).length = (fields.map (·.1)).sum := by
  induction fields with
  | nil => rfl
  | cons f rest ih => rw [packed_cons, List.length_append, bytesOf_length, ih, List.map_cons, List.sum_cons]

theorem field_append (before bs after : List Byte) :
    field (before ++ bs ++ after) before.length bs.length = natOf bs := by
  simp [field, List.append_assoc]

theorem laidOut_placed (fields : List (Nat × Nat)) (before after : List Byte) :
    LaidOut (before ++ packed fields ++ after) (placed before.length fields) := by
  induction fields generalizing before with
  | nil => intro f hf; exact absurd hf (List.not_mem_nil)
  | cons f rest ih =>
    intro g hg
    rw [packed_cons, ← List.append_assoc]
    rcases List.mem_cons.mp hg with rfl | hg
    · have read := field_append before (bytesOf f.1 f.2) (packed rest ++ after)
      rw [bytesOf_length, ← List.append_assoc] at read
      rw [read, natOf_bytesOf]
    · refine ih (before ++ bytesOf f.1 f.2) g ?_
      rwa [List.length_append, bytesOf_length]

/-- Bytes that pack a table's values, whose fields stand one after another from byte 0, are laid out as it says. -/
theorem laidOut_of_packed {bytes : List Byte} {table : List (Nat × Nat × Nat)}
    (consecutive : table = placed 0 (table.map (·.2))) (spelled : bytes = packed (table.map (·.2))) :
    LaidOut bytes table := by
  rw [consecutive, spelled]
  simpa using laidOut_placed (table.map (·.2)) [] []

theorem length_of_packed {bytes : List Byte} {table : List (Nat × Nat × Nat)}
    (spelled : bytes = packed (table.map (·.2))) : bytes.length = (table.map (·.2.1)).sum := by
  rw [spelled, packed_length, List.map_map]
  rfl

theorem bytesOf_one_toNat (b : Byte) : bytesOf 1 b.toNat = [b] := by
  simp [bytesOf]

/-! ### Codes (12.1) -/

theorem EState.code_eq (x : EState) : x.code = codeIn stateCodes x := by cases x <;> rfl

theorem OutcomeCode.code_eq (x : OutcomeCode) :
    x.code = codeIn [OutcomeCode.ok, .clamped, .badKind, .badLength, .badIndex, .badState, .tagMismatch, .shareLimit,
      .bankBusy, .notDone, .absent, .notSet, .setupDone] x := by cases x <;> rfl

theorem EnrolReason.code_eq (x : EnrolReason) :
    x.code =
      codeIn [EnrolReason.outOfReach, .noRange, .poorLink, .lost, .noApproval, .abandoned, .claimed, .barred] x := by
  cases x <;> rfl

theorem UnresolvedReason.code_eq (x : UnresolvedReason) :
    x.code = codeIn [UnresolvedReason.whole, .confirm, .empty, .line] x := by cases x <;> rfl

theorem BankId.code_eq (x : BankId) : x.code = codeIn [BankId.bankA, .bankB] x := by cases x <;> rfl

theorem IsoStep.code_eq (x : IsoStep) : x.code = codeIn [IsoStep.whole, .halving, .confirm] x := by cases x <;> rfl

/-! ### Notices (R207, R220) -/

/-- The sum that 64 index bits spell, over the bits themselves. -/
theorem sum_indexBits (b : Nat → Bool) :
    ((List.finRange 64).map fun i => if b i.val then 2 ^ (63 - i.val) else 0).sum =
      natOf ((List.range 8).map fun k =>
        BitVec.ofNat 8 ((List.range 8).foldl (fun a j => a + bitIf (b (8 * k + j)) (7 - j)) 0)) := by
  have weight (n p : Nat) : bitIf (b n) p = (b n).toNat * 2 ^ p := by cases b n <;> simp [bitIf]
  have bound (n : Nat) : (b n).toNat ≤ 1 := Bool.toNat_le (b n)
  have byte (k : Nat) :
      (BitVec.ofNat 8 ((List.range 8).foldl (fun a j => a + bitIf (b (8 * k + j)) (7 - j)) 0)).toNat =
        (List.range 8).foldl (fun a j => a + (b (8 * k + j)).toNat * 2 ^ (7 - j)) 0 := by
    simp only [weight, BitVec.toNat_ofNat]
    refine Nat.mod_eq_of_lt ?_
    have bits := fun j => bound (8 * k + j)
    simp only [List.range_succ, List.range_zero, List.nil_append, List.foldl_append, List.foldl_cons, List.foldl_nil]
    grind
  have term (i : HomeIdx) : (if b i.val then 2 ^ (63 - i.val) else 0) = (b i.val).toNat * 2 ^ (63 - i.val) := by
    cases b i.val <;> simp
  simp only [term, natOf, List.foldl_map, byte]
  clear term byte weight bound
  have range : ((List.finRange 64).map fun i => (b i.val).toNat * 2 ^ (63 - i.val)) =
      (List.range 64).map fun n => (b n).toNat * 2 ^ (63 - n) := by
    rw [← List.map_coe_finRange_eq_range, List.map_map]
    rfl
  rw [range]
  simp only [List.range_succ, List.range_zero, List.nil_append, List.foldl_append, List.foldl_cons, List.foldl_nil,
    List.map_append, List.map_cons, List.map_nil, List.sum_append, List.sum_cons, List.sum_nil]
  ring

theorem natOf_cons (b : Byte) (bs : List Byte) : natOf (b :: bs) = b.toNat * 256 ^ bs.length + natOf bs := by
  rw [natOf, List.foldl_cons, foldl_natOf, Nat.zero_mul, Nat.zero_add]

theorem natOf_injective {as bs : List Byte} (length : as.length = bs.length) (h : natOf as = natOf bs) : as = bs := by
  induction as generalizing bs with
  | nil => exact (List.eq_nil_of_length_eq_zero length.symm).symm
  | cons a as ih =>
    obtain _ | ⟨b, bs⟩ := bs
    · exact absurd length (by simp)
    · have length : as.length = bs.length := Nat.succ.inj length
      rw [natOf_cons, natOf_cons, length] at h
      have low := length ▸ natOf_lt as
      have tops : a.toNat = b.toNat := by
        have := congrArg (· / 256 ^ bs.length) h
        simpa [Nat.add_div_of_dvd_right, Nat.mul_comm _ (256 ^ bs.length), Nat.mul_add_div, Nat.div_eq_of_lt low,
          Nat.div_eq_of_lt (natOf_lt bs)] using this
      rw [BitVec.eq_of_toNat_eq tops, ih length (by rw [tops] at h; omega)]

theorem indexBits_eq (l : List HomeIdx) :
    indexBits l = bytesOf 8 ((List.finRange 64).map fun i => if i ∈ l then 2 ^ (63 - i.val) else 0).sum := by
  have named (i : HomeIdx) : (i ∈ l) = ((l.any fun x => x.val == i.val) = true) := by
    simp [Fin.val_inj]
  have sum := sum_indexBits fun n => l.any fun x => x.val == n
  refine natOf_injective (by simp [indexBits, bytesOf_length]) ?_
  simp only [named]
  rw [natOf_bytesOf, sum]
  exact (Nat.mod_eq_of_lt (natOf_lt (indexBits l))).symm

theorem TestOutcome.bytes_eq (o : TestOutcome) (n : Nat) : o.bytes = packed ((testTable n o).map (·.2)) := by
  cases o <;>
    simp only [TestOutcome.bytes, testTable, List.map_cons, List.map_nil, packed_cons, packed_nil, bytesOf_one_toNat,
      List.append_assoc, List.append_nil]

theorem Notice.body_eq (n : Notice) : n.body = packed ((noticeTable n).2.2.map (·.2)) := by
  cases n with
  | testResult i tag result => simp [Notice.body, noticeTable, result.bytes_eq 9]
  | rogueUnresolved why round steps left =>
    simp [Notice.body, noticeTable, UnresolvedReason.code_eq, indexBits_eq]
  | rogueAlarm declared round stray started n =>
    cases declared <;> cases started <;> simp [Notice.body, noticeTable, lengthBytes, noticeTable.lasted]
  | feederLoss declared round n => cases declared <;> simp [Notice.body, noticeTable, lengthBytes, noticeTable.lasted]
  | transmitSilent declared round n =>
    cases declared <;> simp [Notice.body, noticeTable, lengthBytes, noticeTable.lasted]
  | rogueConvicted _ _ _ _ _ | offer _ _ _ _ _ | enrollFailed _ _ _ | duplicateTag _ _ _ _ _ | homeLost _ _ _
  | homeMisbehaving _ _ _ | epochClosed _ _ _ _ _ _ | epochHeld _ _ _ =>
    simp [Notice.body, noticeTable, EState.code_eq, EnrolReason.code_eq, BankId.code_eq]

theorem noticeTable_placed (n : Notice) : (noticeTable n).2.2 = placed 0 ((noticeTable n).2.2.map (·.2)) := by
  cases n with
  | testResult i tag result => cases result <;> rfl
  | rogueAlarm _ _ _ _ _ | rogueConvicted _ _ _ _ _ | rogueUnresolved _ _ _ _ | feederLoss _ _ _
  | transmitSilent _ _ _ | offer _ _ _ _ _ | enrollFailed _ _ _ | duplicateTag _ _ _ _ _ | homeLost _ _ _
  | homeMisbehaving _ _ _ | epochClosed _ _ _ _ _ _ | epochHeld _ _ _ => rfl

theorem noticeTable_length (n : Notice) : ((noticeTable n).2.2.map (·.2.1)).sum = (noticeTable n).2.1 := by
  cases n with
  | testResult i tag result => cases result <;> rfl
  | rogueAlarm _ _ _ _ _ | rogueConvicted _ _ _ _ _ | rogueUnresolved _ _ _ _ | feederLoss _ _ _
  | transmitSilent _ _ _ | offer _ _ _ _ _ | enrollFailed _ _ _ | duplicateTag _ _ _ _ _ | homeLost _ _ _
  | homeMisbehaving _ _ _ | epochClosed _ _ _ _ _ _ | epochHeld _ _ _ => rfl

theorem Notice.kind_eq (n : Notice) : n.kind.toNat = (noticeTable n).1 := by cases n <;> rfl

theorem Notice.cls_eq (n : Notice) : n.cls = if (noticeTable n).1 ≤ 5 then 0 else 3 := by cases n <;> rfl

/-! ### READ_HOME and QUERY_STATUS (R16, R211) -/

theorem State.probeField_eq (s : State) (i : HomeIdx) :
    s.probeField i =
      if s.probing && (decide ((s.entry i).state = .held) || decide ((s.entry i).state = .active)
          || decide ((s.entry i).state = .dozing)) then some (s.entry i).probe else none := by
  rw [State.probeField]
  cases (s.entry i).state <;> rfl

theorem State.homeBytes_eq (s : State) (i : HomeIdx) : s.homeBytes i = packed ((homeTable s i).map (·.2)) := by
  have probe (c : Bool) (x : Bool) :
      (if c = true then some x else none).isSome = c
        ∧ ((if c = true then some x else none).getD false).toNat = if (c && x) = true then 1 else 0 := by
    cases c <;> cases x <;> decide
  have tag (x : Option Tag) : (x.getD 0).toNat = match x with | some t => t.toNat | none => 0 := by cases x <;> rfl
  have claim (x : Option ClaimStatus) :
      (x.map ClaimStatus.code).getD 0 = match x with | some c => codeIn [.pending, .confirmed] c | none => 0 := by
    rcases x with _ | _ | _ <;> rfl
  have wish (x : Option Bool) : (x.getD false).toNat = if x = some true then 1 else 0 := by
    rcases x with _ | _ | _ <;> rfl
  have mute (x : Option MuteReason) :
      (x.map MuteReason.code).getD 0 = match x with | some r => codeIn [.convicted, .misbehaving] r | none => 0 := by
    rcases x with _ | _ | _ <;> rfl
  have retire (x : Option RetireReason) :
      (x.map RetireReason.code).getD 0
        = match x with | some r => codeIn [.lost, .removed, .dropped, .restart] r | none => 0 := by
    rcases x with _ | _ | _ | _ | _ <;> rfl
  simp only [State.homeBytes, State.presence, State.probeField_eq, homeTable, List.map_cons, List.map_nil, packed_cons,
    packed_nil, bytesOf_one_toNat, bitIf, EState.code_eq, List.append_assoc, List.append_nil, Entry.tagVal, probe, wish,
    tag, claim, mute, retire, bool_toNat] <;>
  rfl

theorem homeTable_length (s : State) (i : HomeIdx) : ((homeTable s i).map (·.2.1)).sum = 31 := by
  simp only [homeTable, List.map_cons, List.map_nil, List.sum_cons, List.sum_nil]
  rfl

theorem homeTable_placed (s : State) (i : HomeIdx) : homeTable s i = placed 0 ((homeTable s i).map (·.2)) := rfl

theorem Banks.code_eq (s : State) (id : BankId) : s.banks.code id = bankStateCode s id := by
  have other (o : OtherBank) :
      o.code = match o with | .empty => 0 | .ready _ => 1 | .rating .. => 3 | .done _ => 4 := by
    cases o <;> rfl
  simp only [Banks.code, bankStateCode, Option.isNone_iff_eq_none, other]
  by_cases live : id = s.banks.liveId
  · rw [if_pos live, if_pos live.symm]
  · rw [if_neg live, if_neg (Ne.symm live)] <;> rfl

theorem Isolation.word_eq (x : Isolation) :
    x.word = match x with
      | .idle => 0
      | .probing p => 1 * 16384 + codeIn [IsoStep.whole, .halving, .confirm] p.step * 4096 + p.cands.length
      | .backoff n => 2 * 16384 + n := by
  cases x with
  | idle => rfl
  | probing p => rw [Isolation.word, IsoStep.code_eq]; rfl
  | backoff n => rfl

theorem State.statusBytes_eq (s : State) : s.statusBytes = packed ((statusTable s).map (·.2)) := by
  have counts (f : EState → Nat) :
      [EState.vacant, .ranging, .testing, .held, .active, .dozing, .muted, .retired].foldl
          (fun a x => a * 2 ^ 7 + f x) 0
        = f .vacant * 128 ^ 7 + f .ranging * 128 ^ 6 + f .testing * 128 ^ 5 + f .held * 128 ^ 4 + f .active * 128 ^ 3
          + f .dozing * 128 ^ 2 + f .muted * 128 + f .retired := by
    simp only [List.foldl_cons, List.foldl_nil]
    ring
  rw [State.statusBytes, counts]
  have count (x : EState) : s.countIn x = (List.finRange 64).countP fun i => (s.entry i).state == x := rfl
  simp only [statusTable, List.map_cons, List.map_nil, packed_cons, packed_nil, bitIf,
    List.append_assoc, List.append_nil, Banks.code_eq, count, beq_eq_decide,
    Nat.reducePow]
  have iso := s.rogue.iso.word_eq
  generalize s.setup = setup, s.ring = ring, s.currentBand = band, s.rogue.iso = x at iso ⊢
  rw [iso]
  rcases setup with _ | p <;> rcases ring with _ | r <;> rcases band with _ | b <;> cases x <;> rfl

theorem statusTable_length (s : State) : ((statusTable s).map (·.2.1)).sum = 38 := by
  simp only [statusTable, List.map_cons, List.map_nil, List.sum_cons, List.sum_nil]
  rfl

theorem statusTable_placed (s : State) : statusTable s = placed 0 ((statusTable s).map (·.2)) := rfl

theorem exec_queryStatus_of_asks (h : s.Asks m 21 0) :
    exec .queryStatus s = .next (s.popInbox.answerTo m (.done .ok s.popInbox.statusBytes id)) :=
  congrArg Host.Outcome.next (State.takeRequest_eq h rfl (.inr rfl))

theorem exec_readHome_of_asks (h : s.Asks m 24 1) (hset : s.setup.isSome) :
    exec .readHome s = .next (s.popInbox.answerTo m (readHomeReply s.popInbox m.body)) :=
  congrArg Host.Outcome.next (State.takeRequest_eq h rfl (.inl hset))

/-- Settles O9: each run of bytes packs the values of its table, whose fields stand one after another. -/
theorem statusAndHomeReadsGiveLayouts : Obligations.StatusAndHomeReadsGiveLayouts := by
  intro s m
  refine ⟨fun asks => ⟨_, exec_queryStatus_of_asks asks, ?_⟩, fun asks set =>
    ⟨fun i index => ⟨_, exec_readHome_of_asks asks set, ?_⟩, fun big =>
      answers_of_refuse (exec_readHome_of_asks asks set) (onIndex_of_gt big _)⟩,
    (length_of_packed s.statusBytes_eq).trans (statusTable_length s),
    laidOut_of_packed (statusTable_placed s) s.statusBytes_eq,
    fun i => ⟨(length_of_packed (s.homeBytes_eq i)).trans (homeTable_length s i),
      laidOut_of_packed (homeTable_placed s i) (s.homeBytes_eq i)⟩,
    fun n report => ⟨n.kind_eq, (length_of_packed n.body_eq).trans (noticeTable_length n),
      laidOut_of_packed (noticeTable_placed n) n.body_eq, n.cls_eq, rfl, rfl⟩,
    fun asker kind code data => ?_, fun tag own peer => ⟨rfl, rfl⟩⟩
  · exact State.answers_done m .ok _
  · rw [readHomeReply, onIndex_of_eq index]
    exact State.answers_done m .ok _
  · rw [answerMessage, OutcomeCode.code_eq]

/-! ### READ_COUNTERS (R212, R213) -/

/-- The place of a group's first counter in the counter file. -/
def firstPlace (group : List Counter) : Nat := (Counter.pos (group.headD .enrolDeferred)).val

/-- A group of the tables stands in the counter file from its first place on, in its order. -/
theorem counterGroup_of_table {g : Nat} {group : List Counter} (h : counterTable[g]? = some group) :
    counterGroup g = some (firstPlace group, group.length)
      ∧ group.map (fun c => (Counter.pos c).val) = List.range' (firstPlace group) group.length := by
  obtain ⟨bound, rfl⟩ := List.getElem?_eq_some_iff.mp h
  have all : ∀ g : Fin 10, counterGroup g = some (firstPlace counterTable[g], counterTable[g].length)
      ∧ counterTable[g].map (fun c => (Counter.pos c).val)
        = List.range' (firstPlace counterTable[g]) counterTable[g].length := by decide
  exact all ⟨g, bound⟩

theorem mem_group_iff {group : List Counter} {first : Nat}
    (places : group.map (fun c => (Counter.pos c).val) = List.range' first group.length) (c : Counter) :
    c ∈ group ↔ first ≤ (Counter.pos c).val ∧ (Counter.pos c).val < first + group.length := by
  rw [← List.mem_range'_1, ← places, List.mem_map]
  refine ⟨fun mem => ⟨c, mem, rfl⟩, fun ⟨d, mem, same⟩ => ?_⟩
  rwa [← Counter.pos_injective (Fin.ext same)]

theorem groupBytes_eq {group : List Counter} {first : Nat}
    (places : group.map (fun c => (Counter.pos c).val) = List.range' first group.length) :
    s.groupBytes first group.length = group.flatMap fun c => bytesOf 4 (s.counter c) := by
  have values : (s.counters.toList.drop first).take group.length = group.map s.counter := by
    have place (k : Nat) (hk : k < group.length) : (Counter.pos group[k]).val = first + k := by
      have := congrArg (·[k]?) places
      simpa [hk] using this
    refine List.ext_getElem ?_ fun k _ hk => ?_
    · by_cases empty : group.length = 0
      · simp [empty]
      · have last := place (group.length - 1) (by omega)
        have := (Counter.pos group[group.length - 1]).isLt
        simp only [List.length_take, List.length_drop, Vector.length_toList, List.length_map]
        omega
    · rw [List.length_map] at hk
      simp [State.counter, place k hk]
  rw [State.groupBytes, values, List.flatMap_map]

theorem exec_readCounters_of_asks (h : s.Asks m 22 2) :
    exec .readCounters s = .next (s.popInbox.answerTo m (readCountersReply s.popInbox m.body)) :=
  congrArg Host.Outcome.next (State.takeRequest_eq h rfl (.inr rfl))

theorem readCountersReply_of_gt {body : List Byte} (h : 9 < byteAt body 0) :
    readCountersReply s body = .refuse .badIndex := by
  have none : counterGroup (byteAt body 0) = none := by
    generalize byteAt body 0 = g at h
    unfold counterGroup
    split <;> first | rfl | omega
  rw [readCountersReply, none]

theorem readCountersReply_of_group {body : List Byte} {first n : Nat}
    (h : counterGroup (byteAt body 0) = some (first, n)) :
    readCountersReply s body = .done .ok (bytesOf 1 (byteAt body 0) ++ bytesOf 1 n ++ s.groupBytes first n)
      (if byteAt body 1 = 0 then id else fun s => s.clearGroup first n) := by
  rw [readCountersReply, h]

/-- Settles O10: each group of the tables is a run of places in the counter file. -/
theorem readCountersReadsAndClears : Obligations.ReadCountersReadsAndClears := by
  intro s m asks
  have runs := exec_readCounters_of_asks asks
  refine ⟨fun big => answers_of_refuse runs (readCountersReply_of_gt big), fun group mem => ?_⟩
  obtain ⟨found, places⟩ := counterGroup_of_table mem
  refine ⟨_, exec_of_done runs (readCountersReply_of_group found), ?_, fun c => ?_⟩
  · rw [groupBytes_eq places]
    split <;> rfl
  · have cleared (data : List Byte) (c : Counter) :
        ((if byteAt m.body 1 = 0 then id else fun u => u.clearGroup (firstPlace group) group.length)
          (s.answered m .ok data)).counter c =
          if byteAt m.body 1 ≠ 0 ∧ c ∈ group then 0 else s.counter c := by
      by_cases flag : byteAt m.body 1 = 0
      · rw [if_pos flag, if_neg fun h => h.1 flag]
        rfl
      · rw [if_neg flag, State.counter_clearGroup]
        simp only [ne_eq, flag, not_false_eq_true, true_and, mem_group_iff places]
        rfl
    rw [State.counter_bump, cleared, cleared]
    by_cases taken : c = .requestsTaken
    · simp only [taken, if_true]
    · simp only [if_neg taken]

end Sys2Proof.Machine

/-! The shelf bus port: bits of a message, reception, the head of the outbox, arbitration, sending (R185 to R199). -/

namespace Sys2Proof.Machine

open Sys2Proof

variable {s t : State} {m : BusMessage}

/-! ### Bits (R186, R187) -/

theorem bitsOf_eq (n v : Nat) : bitsOf n v = (List.range n).map fun k => v.testBit (n - 1 - k) := by
  induction n with
  | zero => rfl
  | succ n ih =>
    rw [bitsOf, ih, List.range_succ_eq_map, List.map_cons, List.map_map]
    refine congrArg _ (List.map_congr_left fun k hk => ?_)
    rw [Function.comp_apply, show n + 1 - 1 - (k + 1) = n - 1 - k by omega]

theorem bitsOf_length (n v : Nat) : (bitsOf n v).length = n := by
  rw [bitsOf_eq, List.length_map, List.length_range]

/-- The bits of a number whose low part has `b` bits are those of its two parts. -/
theorem bitsOf_add (a b x y : Nat) (h : y < 2 ^ b) : bitsOf (a + b) (x * 2 ^ b + y) = bitsOf a x ++ bitsOf b y := by
  rw [bitsOf_eq, bitsOf_eq, bitsOf_eq, List.range_add, List.map_append, List.map_map]
  refine congrArg₂ (· ++ ·) (List.map_congr_left fun k hk => ?_) (List.map_congr_left fun k hk => ?_)
  · rw [List.mem_range] at hk
    rw [Nat.mul_comm, Nat.testBit_two_pow_mul_add _ h, if_neg (by omega), show a + b - 1 - k - b = a - 1 - k by omega]
  · rw [List.mem_range] at hk
    rw [Function.comp_apply, Nat.mul_comm, Nat.testBit_two_pow_mul_add _ h, if_pos (by omega),
      show a + b - 1 - (a + k) = b - 1 - k by omega]

theorem byteBits_eq (bs : List Byte) :
    byteBits bs = (List.range (8 * bs.length)).map fun k => (bs.getD (k / 8) 0).getLsbD (7 - k % 8) := by
  induction bs with
  | nil => rfl
  | cons b rest ih =>
    rw [byteBits, List.flatMap_cons, ← byteBits, ih, List.length_cons, Nat.mul_succ, Nat.add_comm, List.range_add,
      List.map_append, List.map_map, bitsOf_eq]
    refine congrArg₂ (· ++ ·) (List.map_congr_left fun k hk => ?_) (List.map_congr_left fun k _ => ?_)
    · rw [List.mem_range] at hk
      rw [Nat.div_eq_of_lt hk, Nat.mod_eq_of_lt hk, List.getD_cons_zero, BitVec.testBit_toNat]
    · rw [Function.comp_apply, Nat.add_div_left k (by decide), Nat.add_mod_left, List.getD_cons_succ]

/-- Class, kind, sender, target and length as one number of 24 bits. -/
theorem frameBits_eq (cls : BitVec 2) (kind : BitVec 6) (sender target : Station) (length : BitVec 6)
    (body : List Byte) :
    frameBits cls kind sender target length body =
      bitsOf 24 (cls.toNat * 2 ^ 22 + kind.toNat * 2 ^ 16 + sender.toNat * 2 ^ 11 + target.toNat * 2 ^ 6 + length.toNat)
        ++ byteBits body := by
  have number : cls.toNat * 2 ^ 22 + kind.toNat * 2 ^ 16 + sender.toNat * 2 ^ 11 + target.toNat * 2 ^ 6 + length.toNat
      = (((cls.toNat * 2 ^ 6 + kind.toNat) * 2 ^ 5 + sender.toNat) * 2 ^ 5 + target.toNat) * 2 ^ 6 + length.toNat := by
    ring
  rw [number, bitsOf_add 18 6 _ _ length.isLt, bitsOf_add 13 5 _ _ target.isLt, bitsOf_add 8 5 _ _ sender.isLt,
    bitsOf_add 2 6 _ _ kind.isLt, frameBits]

theorem crc16_append (bits : List Bool) (b : Bool) : crc16 (bits ++ [b]) = crcStep (crc16 bits) b := by
  rw [crc16, List.foldl_append, List.foldl_cons, List.foldl_nil, ← crc16]

/-- The bits a sender drives, as a start bit, a number of 13 bits, and the rest. -/
theorem OutMsg.bits_eq (m : OutMsg) (own : Station) :
    ∃ rest, m.bits own = false :: bitsOf 13 (m.cls.toNat * 2048 + m.kind.toNat * 32 + own.toNat) ++ rest := by
  have number : m.cls.toNat * 2048 + m.kind.toNat * 32 + own.toNat
      = (m.cls.toNat * 2 ^ 6 + m.kind.toNat) * 2 ^ 5 + own.toNat := by
    ring
  refine ⟨bitsOf 5 m.target.toNat ++ bitsOf 6 (BitVec.ofNat 6 m.body.length).toNat ++ byteBits m.body
    ++ bitsOf 16 (crc16 (frameBits m.cls m.kind own m.target (BitVec.ofNat 6 m.body.length) m.body)).toNat, ?_⟩
  rw [number, bitsOf_add 8 5 _ _ own.isLt, bitsOf_add 2 6 _ _ m.kind.isLt, OutMsg.bits, frameBits]
  simp only [List.append_assoc, List.cons_append]

/-! ### Reception (R190 to R192, R198) -/

theorem State.passTimes_eq (s : State) (times : List BitTime) :
    s.passTimes times = { s with bus := s.bus.after times } := by
  rw [State.passTimes, Bus.foldl_pass]

theorem Bus.ready_after (b : Bus) (times : List BitTime) :
    (b.after times).ready = true ↔
      b.ready = true ∨ ∃ k, k < times.length ∧ (b.after (times.take (k + 1))).idle = 12 := by
  simp [Bus.after]

theorem goodCheck_eq_false_iff :
    goodCheck m = false ↔ crc16 (frameBits m.cls m.kind m.sender m.target m.length m.body) ≠ m.check := by
  simp [goodCheck]

theorem malformed_eq_false_iff : BusMessage.malformed m = false ↔ ¬ (40 < m.length.toNat ∨ m.sender = 31) := by
  simp [BusMessage.malformed]

theorem Bus.receives_eq_true {b : Bus} (h : b.listenOnly = false) (g : b.sending = false) (r : b.ready = true) :
    b.receives = true := by
  simp [Bus.receives, h, g, r]

theorem Bus.receives_eq_false {b : Bus} (h : b.listenOnly = true ∨ b.sending = true ∨ b.ready = false) :
    b.receives = false := by
  rcases h with h | h | h <;> simp [Bus.receives, h]

theorem State.receive_of_deaf (h : s.bus.receives = false) (m : BusMessage) : s.receive m = s.resetIdle := by
  have deaf : s.resetIdle.bus.receives = false := h
  simp [State.receive, deaf]

theorem State.receive_of_receives (h : s.bus.receives = true) (m : BusMessage) :
    s.receive m =
      if 40 < m.length.toNat then s.resetIdle.loseStep
      else if BusMessage.malformed m then s.resetIdle.bump .frameError
      else if !goodCheck m then s.resetIdle.bump .crcError
      else if m.sender = s.straps.station then s.resetIdle.clash
      else if m.target ≠ s.straps.station ∧ m.target ≠ 31 then s.resetIdle
      else if 8 ≤ s.bus.inbox.length then s.resetIdle.bump .inboxFull
      else s.resetIdle.takeMessage m :=
  if_neg (by simp [show s.resetIdle.bus.receives = true from h])

/-- Settles O37: a port that receives decides a message by `receive_decides`, and any other only ends its idle count. -/
theorem receivedMessageIsDecided : Obligations.ReceivedMessageIsDecided := by
  refine ⟨⟨rfl, fun bits b => crc16_append bits b⟩, fun cls kind sender target length body => ?_, fun s m => ?_⟩
  · rw [frameBits_eq, bitsOf_eq, byteBits_eq]
  intro met port overlong malformed badCheck elsewhere decides
  have runs : exec (.messageReceived m) s = .next (({ s with bus := met } : State).receive m) := by
    rw [← s.passTimes_eq]
    rfl
  have decided {t : State} {bus : Bus} {l : List Counter} (h : ({ s with bus := met } : State).receive m = t)
      (frame : t = { s with bus, counters := t.counters }) (gained : s.Gained t l) : decides bus l :=
    ⟨t, h ▸ runs, frame, gained⟩
  refine ⟨fun deaf => runs.trans (congrArg _ (State.receive_of_deaf (Bus.receives_eq_false deaf) m)),
    fun quiet still ready => ?_, ?_, s.bus.ready_after, fun quiet still c events => ?_⟩
  · have start := State.receive_of_receives (s := { s with bus := met })
      (Bus.receives_eq_true quiet still ready : met.receives = true) m
    have counted {c : Counter} (h : ({ s with bus := met } : State).receive m
        = ({ s with bus := met } : State).resetIdle.bump c) : decides port [c] :=
      decided h rfl ((State.gained_bump c).base rfl)
    have formed (h : ¬ malformed) := start.trans ((if_neg (not_or.mp h).1).trans
      (if_neg (ne_true_of_eq_false (malformed_eq_false_iff.mpr h))))
    have checked (h : ¬ malformed) (good : ¬ badCheck) :=
      (formed h).trans (if_neg (by
        rw [Bool.not_eq_true', goodCheck_eq_false_iff]
        exact good))
    have heard (h : ¬ malformed) (good : ¬ badCheck) (other : m.sender ≠ s.straps.station) :=
      (checked h good).trans (if_neg other)
    refine ⟨fun long => decided (start.trans (if_pos long)) rfl ((State.gained_bump _).base rfl), fun short bad =>
      counted (start.trans ((if_neg short).trans (if_pos ?_))), fun h bad => counted ((formed h).trans (if_pos ?_)),
      fun h good own => decided ((checked h good).trans (if_pos own)) rfl ((State.gained_bump _).base rfl),
      fun h good other away => decided ((heard h good other).trans (if_pos away)) rfl (.of_eq rfl),
      fun h good other here full => counted ((heard h good other).trans ((if_neg here).trans (if_pos full))),
      fun h good other here room => decided ((heard h good other).trans ((if_neg here).trans (if_neg room.not_ge))) rfl
        ((State.gained_bump _).base rfl)⟩
    · rw [← Bool.not_eq_false, malformed_eq_false_iff]
      exact not_not.mpr bad
    · rw [goodCheck_eq_false_iff.mpr bad]
      rfl
  · refine ⟨_, rfl, ?_⟩
    by_cases hears : s.bus.listenOnly = false ∧ s.bus.sending = false ∧ s.bus.ready = true
    · obtain ⟨quiet, still, ready⟩ := hears
      have stopped : s.clockStops = s.resetIdle.bump .frameError :=
        if_pos (Bus.receives_eq_true quiet still ready : s.resetIdle.bus.receives = true)
      rw [if_pos ⟨quiet, still, ready⟩, stopped]
      exact ⟨rfl, (State.gained_bump _).base rfl⟩
    · have stopped : s.clockStops = s.resetIdle := by
        refine if_neg fun h => hears ?_
        simpa [Bus.receives, State.resetIdle, and_assoc] using h
      rw [if_neg hears, stopped]
      exact ⟨rfl, .of_eq rfl⟩
  · rcases events with rfl | ⟨before, bits, rfl⟩ | ⟨taken, rfl⟩ | rfl
    · exact ⟨_, runs.trans (congrArg Host.Outcome.next
        (State.receive_of_deaf (s := { s with bus := met }) (Bus.receives_eq_false (.inl quiet)) m)), rfl⟩
    · have sent : s.sendStart before bits = { s with bus := s.bus.after before } := by
        rw [State.sendStart, if_neg (ne_true_of_eq_false still), s.passTimes_eq]
        exact if_pos (by rw [Bool.or_eq_true]; exact .inl quiet)
      exact ⟨_, congrArg Host.Outcome.next sent, rfl⟩
    · exact ⟨s, congrArg Host.Outcome.next (if_neg (ne_true_of_eq_false still)), rfl⟩
    · have deaf : s.resetIdle.bus.receives = false := Bus.receives_eq_false (.inl quiet)
      exact ⟨s.resetIdle, congrArg Host.Outcome.next (if_neg (ne_true_of_eq_false deaf)), rfl⟩

/-! ### The head of the outbox (R195) -/

/-- The first message of a class is the head where no message is of a lower class. -/
theorem lowest_of_findIdx {out : List OutMsg} {c : BitVec 2} {k : Nat} (h : out.findIdx? (·.cls == c) = some k)
    (least : ∀ n ∈ out, c ≤ n.cls) {m : OutMsg} (hm : out[k]? = some m) (j : Nat) (n : OutMsg)
    (hn : out[j]? = some n) :
    m.cls ≤ n.cls ∧ (j < k → m.cls < n.cls) := by
  obtain ⟨hk, found, first⟩ := List.findIdx?_eq_some_iff_getElem.mp h
  obtain ⟨_, rfl⟩ := List.getElem?_eq_some_iff.mp hm
  obtain ⟨hj, rfl⟩ := List.getElem?_eq_some_iff.mp hn
  have least := least _ (List.getElem_mem hj)
  rw [beq_iff_eq.mp found]
  refine ⟨least, fun before => ?_⟩
  have other := first j before
  rw [Bool.not_eq_true, beq_eq_false_iff_ne] at other
  exact BitVec.lt_of_le_ne least (Ne.symm other)

theorem forall_of_findIdx_none {out : List OutMsg} {p : OutMsg → Bool} (h : out.findIdx? p = none) :
    ∀ n ∈ out, p n = false := List.findIdx?_eq_none_iff.mp h

/-- The searches for the head, one after another. -/
theorem headIndex_eq (out : List OutMsg) :
    headIndex out = (out.findIdx? (·.begun)).or ((out.findIdx? (·.cls == 0)).or ((out.findIdx? (·.cls == 1)).or
      ((out.findIdx? (·.cls == 2)).or (out.findIdx? fun _ => true)))) := by
  unfold headIndex
  repeat' split
  all_goals simp only [*, Option.some_or, Option.none_or]

theorem headIndex_eq_none_iff (out : List OutMsg) : headIndex out = none ↔ out = [] := by
  rw [headIndex_eq]
  refine ⟨fun none => ?_, fun empty => by subst empty; rfl⟩
  simp only [Option.or_eq_none_iff, List.findIdx?_eq_none_iff] at none
  exact List.eq_nil_iff_forall_not_mem.mpr fun n hn => absurd (none.2.2.2.2 n hn) (by decide)

/-- Settles O39: the searches for a begun message and for each class in turn. -/
theorem outboxHeadIsBegunOrLowestClass : Obligations.OutboxHeadIsBegunOrLowestClass := by
  intro out
  refine ⟨headIndex_eq_none_iff out, fun k m head hm => ?_⟩
  have absent {c : BitVec 2} (h : out.findIdx? (·.cls == c) = none) (n : OutMsg) (hn : n ∈ out) : n.cls ≠ c :=
    beq_eq_false_iff_ne.mp (forall_of_findIdx_none h n hn)
  simp only [headIndex_eq, Option.or_eq_some_iff] at head
  rcases head with begun | ⟨begun, zero | ⟨zero, one | ⟨one, two | ⟨two, first⟩⟩⟩⟩
  · obtain ⟨hk, found, first⟩ := List.findIdx?_eq_some_iff_getElem.mp begun
    obtain ⟨_, rfl⟩ := List.getElem?_eq_some_iff.mp hm
    refine .inl ⟨found, fun j n before hn => ?_⟩
    obtain ⟨_, rfl⟩ := List.getElem?_eq_some_iff.mp hn
    exact Bool.not_eq_true _ ▸ first j before
  all_goals refine .inr ⟨forall_of_findIdx_none begun, ?_⟩
  · exact lowest_of_findIdx zero (fun n _ => by bv_omega) hm
  · refine lowest_of_findIdx one (fun n hn => ?_) hm
    have := absent zero n hn
    bv_omega
  · refine lowest_of_findIdx two (fun n hn => ?_) hm
    have := absent zero n hn
    have := absent one n hn
    bv_omega
  · have three (n : OutMsg) (hn : n ∈ out) : n.cls = 3 := by
      have := absent zero n hn
      have := absent one n hn
      have := absent two n hn
      bv_omega
    have search : out.findIdx? (·.cls == 3) = some k := by
      obtain ⟨hk, _, earlier⟩ := List.findIdx?_eq_some_iff_getElem.mp first
      exact List.findIdx?_eq_some_iff_getElem.mpr
        ⟨hk, by simp [three], fun j hj => absurd rfl (earlier j hj)⟩
    exact lowest_of_findIdx search (fun n hn => by simp [three n hn]) hm

/-! ### Arbitration and sending (R188, R189, R193, R194) -/

theorem firstDiffer_self (d : List Bool) : firstDiffer d d = none := by
  induction d with
  | nil => rfl
  | cons x d ih => simp [firstDiffer, ih]

theorem firstDiffer_of_take {d b : List Bool} {j : Nat} {x y : Bool} (same : d.take j = b.take j) (hx : d[j]? = some x)
    (hy : b[j]? = some y) (other : x ≠ y) : firstDiffer d b = some j := by
  induction j generalizing d b with
  | zero =>
    obtain _ | ⟨p, d⟩ := d <;> obtain _ | ⟨q, b⟩ := b
    · simp at hx
    · simp at hx
    · simp at hy
    · simp only [List.getElem?_cons_zero, Option.some.injEq] at hx hy
      simp [firstDiffer, hx, hy, other]
  | succ j ih =>
    obtain _ | ⟨p, d⟩ := d <;> obtain _ | ⟨q, b⟩ := b
    · simp at hx
    · simp at hx
    · simp at hy
    · simp only [List.take_succ_cons, List.cons.injEq] at same
      simp only [List.getElem?_cons_succ] at hx hy
      simp [firstDiffer, same.1, ih same.2 hx hy]

/-- The bits of a lower number differ first where they hold a 0 and those of the higher one a 1. -/
theorem bitsOf_lt {n a b : Nat} (h : a % 2 ^ n < b % 2 ^ n) :
    ∃ j < n, (bitsOf n a).take j = (bitsOf n b).take j ∧ (bitsOf n a)[j]? = some false
      ∧ (bitsOf n b)[j]? = some true := by
  induction n with
  | zero => simp [Nat.mod_one] at h
  | succ n ih =>
    have split (v : Nat) : v % 2 ^ (n + 1) = v % 2 ^ n + 2 ^ n * (v.testBit n).toNat := by
      rw [Nat.pow_succ, Nat.mod_mul, Nat.testBit_eq_decide_div_mod_eq]
      rcases Nat.mod_two_eq_zero_or_one (v / 2 ^ n) with e | e <;> simp [e]
    have low (v : Nat) : v % 2 ^ n < 2 ^ n := Nat.mod_lt _ (Nat.two_pow_pos n)
    rw [split, split] at h
    by_cases top : a.testBit n = b.testBit n
    · obtain ⟨j, hj, same, ha, hb⟩ := ih (by rw [top] at h; omega)
      exact ⟨j + 1, by omega, by simp [bitsOf, top, same], by simpa [bitsOf] using ha, by simpa [bitsOf] using hb⟩
    · have la := low a
      have lb := low b
      refine ⟨0, by omega, rfl, ?_, ?_⟩
      all_goals
        cases ha : a.testBit n <;> cases hb : b.testBit n <;> simp [ha, hb, bitsOf] at h top ⊢
        try omega

/-- The number of 13 bits that a station's arbitration field spells. -/
def arbitrationNumber (x : OutMsg × Station) : Nat := x.1.cls.toNat * 2048 + x.1.kind.toNat * 32 + x.2.toNat

theorem arbitrationNumber_lt (x : OutMsg × Station) : arbitrationNumber x < 2 ^ 13 := by
  have := x.1.cls.isLt
  have := x.1.kind.isLt
  have := x.2.isLt
  rw [arbitrationNumber]
  omega

/-- Of two stations, the one with the lower field drives a 0 where they first differ, and the other a 1. -/
theorem bits_lt {w x : OutMsg × Station} (h : arbitrationNumber w < arbitrationNumber x) :
    ∃ j, 1 ≤ j ∧ j ≤ 13 ∧ (x.1.bits x.2).take j = (w.1.bits w.2).take j ∧ (x.1.bits x.2)[j]? = some true
      ∧ (w.1.bits w.2)[j]? = some false := by
  obtain ⟨restw, bitsw⟩ := w.1.bits_eq w.2
  obtain ⟨restx, bitsx⟩ := x.1.bits_eq x.2
  rw [← arbitrationNumber] at bitsw bitsx
  obtain ⟨j, hj, same, low, high⟩ := bitsOf_lt (n := 13) (a := arbitrationNumber w) (b := arbitrationNumber x) (by
    rwa [Nat.mod_eq_of_lt (arbitrationNumber_lt w), Nat.mod_eq_of_lt (arbitrationNumber_lt x)])
  have inside (v : Nat) : j < (bitsOf 13 v).length := by rwa [bitsOf_length]
  refine ⟨j + 1, by omega, by omega, ?_, ?_, ?_⟩
  · rw [bitsx, bitsw, List.cons_append, List.cons_append, List.take_succ_cons, List.take_succ_cons,
      List.take_append_of_le_length (inside _).le, List.take_append_of_le_length (inside _).le, same]
  · rw [bitsx, List.cons_append, List.getElem?_cons_succ, List.getElem?_append_left (inside _), high]
  · rw [bitsw, List.cons_append, List.getElem?_cons_succ, List.getElem?_append_left (inside _), low]

/-- Settles O40: the first bit at which a loser differs lies in the field, and holds its 1 against the winner's 0. -/
theorem lowestArbitrationFieldWins : Obligations.LowestArbitrationFieldWins := by
  intro w l mem number driven lowest
  have differs (x : OutMsg × Station) (hx : x ∈ l) (other : x ≠ w) := bits_lt (lowest x hx other)
  refine ⟨fun k _ => ?_, ?_, fun x hx other => ?_⟩
  · cases hw : (driven w).getD k true with
    | false =>
      refine (Bool.eq_false_iff.mpr fun all => ?_).symm
      have := List.all_eq_true.mp all w (List.mem_filter.mpr ⟨mem, beq_self_eq_true _⟩)
      exact absurd (hw ▸ this) (by decide)
    | true =>
      refine (List.all_eq_true.mpr fun x hx => ?_).symm
      obtain ⟨hx, same⟩ := List.mem_filter.mp hx
      have same := beq_iff_eq.mp same
      rcases eq_or_ne x w with rfl | other
      · exact hw
      · obtain ⟨j, _, _, before, one, zero⟩ := differs x hx other
        rcases lt_trichotomy j k with early | rfl | late
        · have agree := congrArg (·[j]?) same
          simp only [List.getElem?_take_of_lt early] at agree
          exact absurd (one.symm.trans (agree.trans zero)) (by decide)
        · rw [List.getD_eq_getElem?_getD, one]
          rfl
        · have agree := congrArg (·[k]?) before
          simp only [List.getElem?_take_of_lt late] at agree
          rw [List.getD_eq_getElem?_getD] at hw ⊢
          rwa [agree]
  · rw [sendResult, firstDiffer_self]
  · obtain ⟨j, low, high, before, one, zero⟩ := differs x hx other
    rw [sendResult, firstDiffer_of_take before one zero (by decide)]
    exact if_pos ⟨low, high, by rw [List.getD_eq_getElem?_getD, one]; rfl⟩

theorem State.beginHead_of_early {bus : List Bool} (h : s.bus.idle < 12 ∨ s.bus.outbox = []) :
    s.beginHead bus = s := by
  unfold State.beginHead
  rcases h with h | h
  · rw [if_pos (by simp [h])]
  · split
    · rfl
    · rw [(headIndex_eq_none_iff _).mpr h]

section

variable {bus : List Bool} {k : Nat} {m : OutMsg}

theorem State.beginHead_of_head (quiet : s.bus.listenOnly = false) (ready : 12 ≤ s.bus.idle)
    (head : headIndex s.bus.outbox = some k) (found : s.bus.outbox[k]? = some m) :
    let begun := s.bus.outbox.set k { m with begun := true }
    (sendResult (m.bits s.straps.station) bus = .won → s.beginHead bus =
      { s with bus := { s.bus with idle := 0, outbox := begun, sending := true } })
    ∧ (sendResult (m.bits s.straps.station) bus = .lost → s.beginHead bus =
      ({ s with bus := { s.bus with idle := 0, outbox := begun } } : State).bump .arbitrationLost)
    ∧ (sendResult (m.bits s.straps.station) bus = .abort → s.beginHead bus =
      ({ s with bus := { s.bus with idle := 0, outbox := s.bus.outbox.eraseIdx k, sending := false } } : State).bump
        .bitError) := by
  intro begun
  have free : ¬ (s.bus.listenOnly || decide (s.bus.idle < 12)) = true := by simp [quiet, ready]
  refine ⟨fun result => ?_, fun result => ?_, fun result => ?_⟩
  all_goals
    unfold State.beginHead
    rw [if_neg free]
    simp only [head, found, State.resetIdle_straps, result]
    rfl

end

theorem sendResult_of_none {driven bus : List Bool} (h : firstDiffer driven bus = none) :
    sendResult driven bus = .won := by
  rw [sendResult, h]

theorem sendResult_of_lost {driven bus : List Bool} {j : Nat} (h : firstDiffer driven bus = some j) (low : 1 ≤ j)
    (high : j ≤ 13) (one : driven[j]? = some true) : sendResult driven bus = .lost := by
  rw [sendResult, h]
  exact if_pos ⟨low, high, by rw [List.getD_eq_getElem?_getD, one]; rfl⟩

theorem sendResult_of_abort {driven bus : List Bool} {j : Nat} (h : firstDiffer driven bus = some j)
    (other : j = 0 ∨ 13 < j ∨ driven[j]? = some false) : sendResult driven bus = .abort := by
  rw [sendResult, h]
  refine if_neg fun ⟨low, high, one⟩ => ?_
  rcases other with zero | after | bit
  · omega
  · omega
  · rw [List.getD_eq_getElem?_getD, bit] at one
    exact absurd one (by decide)

/-- Settles O38: each result of driving the head, by the first bit at which the bus differs. -/
theorem messageIsSentLostOrAborted : Obligations.MessageIsSentLostOrAborted := by
  refine ⟨fun m own => ?_, fun s before bus quiet => ?_⟩
  · intro body
    rw [OutMsg.bits, bitsOf_eq]
    simp only [BitVec.testBit_toNat]
    rfl
  intro c met
  have start (still : s.bus.sending = false) :
      s.sendStart before bus = ({ s with bus := met } : State).beginHead bus := by
    rw [State.sendStart, if_neg (ne_true_of_eq_false still), s.passTimes_eq]
  refine ⟨fun sending => congrArg Host.Outcome.next (if_pos sending), fun still early =>
    congrArg Host.Outcome.next ((start still).trans ?_), fun k m still ready head found => ?_, ?_, fun taken still =>
    congrArg Host.Outcome.next (if_neg (ne_true_of_eq_false still))⟩
  · exact State.beginHead_of_early early
  · intro driven begun
    obtain ⟨won, lost, abort⟩ :=
      State.beginHead_of_head (s := { s with bus := met }) (bus := bus) quiet ready head found
    have runs {t : State} (h : ({ s with bus := met } : State).beginHead bus = t) : exec c s = .next t :=
      congrArg Host.Outcome.next ((start still).trans h)
    refine ⟨fun none => runs (won (sendResult_of_none none)), fun j differ low high one =>
      ⟨_, runs (lost (sendResult_of_lost differ low high one)), (State.gained_bump _).base rfl, rfl⟩,
      fun j differ other =>
        ⟨_, runs (abort (sendResult_of_abort differ other)), (State.gained_bump _).base rfl, ?_⟩⟩
    have same : met.sending = false := still
    rw [← same]
    rfl
  · intro k taken sending head
    have passed : s.passTakeSlot taken = if taken then ((s.dropOut k).resetIdle).bump .messagesSent
        else (((s.dropOut k).resetIdle).bump .messagesSent).bump .untaken := by
      rw [State.passTakeSlot, if_pos sending, head]
    have sent : s.Gained (((s.dropOut k).resetIdle).bump .messagesSent) [.messagesSent] :=
      (State.gained_bump _).base rfl
    refine ⟨_, congrArg Host.Outcome.next passed, ?_⟩
    cases taken
    · exact ⟨rfl, (sent.bump .untaken).perm (.swap ..)⟩
    · exact ⟨rfl, sent⟩

end Sys2Proof.Machine

/-! Discovery and the waits of homes at a boundary (R21 to R29, R39, R47), the drive check (R84), and the frames of the
traffic port (R81, R148 to R151). -/

namespace Sys2Proof.Machine

open Sys2Proof

variable {s t : State} {i : HomeIdx} {p : Params}

/-! ### The discovery decision (R21, R22) -/

theorem State.lowestVacant_eq_some_iff :
    s.lowestVacant = some i ↔ (s.entry i).state = .vacant ∧ ∀ j, j < i → (s.entry j).state ≠ .vacant := by
  rw [State.lowestVacant, allIdx, ← Fin.find?_eq_find?_finRange, Fin.find?_eq_some_iff]
  simp

theorem State.lowestVacant_eq_none_iff : s.lowestVacant = none ↔ ∀ i, (s.entry i).state ≠ .vacant := by
  simp [State.lowestVacant, allIdx]

/-- Whether a discovery span is skipped (R22). -/
def State.skipsDiscovery (s : State) : Bool :=
  s.probing || decide (4 ≤ s.enrollingCount)
    || (s.lowestVacant.isNone && allIdx.all fun i => (s.entry i).state != .retired || s.barred (s.entry i).tagVal)

theorem State.skipsDiscovery_iff :
    s.skipsDiscovery = true ↔ s.probing = true ∨ 4 ≤ s.enrollingCount ∨ ((∀ i, (s.entry i).state ≠ .vacant)
      ∧ ∀ i, (s.entry i).state = .retired → s.barred (s.entry i).tagVal = true) := by
  simp [State.skipsDiscovery, State.lowestVacant_eq_none_iff, allIdx, or_assoc, ← imp_iff_not_or]

theorem State.decideDiscovery_of_skip (h : s.skipsDiscovery = true) (p : Params) :
    s.decideDiscovery p = ({ s with
      enrol := { due := s.enrol.due + BitVec.ofNat 40 p.period, offered := false } } : State).bump .enrolDeferred := by
  have skip : (s.probing || decide (4 ≤ s.enrollingCount) || (s.lowestVacant.isNone
    && allIdx.all fun i => (s.entry i).state != .retired || s.barred (s.entry i).tagVal)) = true := h
  simp only [State.decideDiscovery, skip, if_true, Bool.not_true]

theorem State.decideDiscovery_of_offer (h : s.skipsDiscovery = false) (p : Params) :
    s.decideDiscovery p = { s with
      enrol := { due := s.enrol.due + BitVec.ofNat 40 p.period, offered := true } } := by
  have offer : (s.probing || decide (4 ≤ s.enrollingCount) || (s.lowestVacant.isNone
    && allIdx.all fun i => (s.entry i).state != .retired || s.barred (s.entry i).tagVal)) = false := h
  simp only [State.decideDiscovery, offer, Bool.false_eq_true, if_false, Bool.not_false]

theorem State.discoveryDue_of_setup (h : s.setup = some p) :
    s.discoveryDue = if s.clock.headerOpen ∧ s.clock.round = s.enrol.due then s.decideDiscovery p else s := by
  rw [State.discoveryDue, h]

/-- Settles O45. -/
theorem discoveryIsOfferedOrSkipped : Obligations.DiscoveryIsOfferedOrSkipped := by
  intro s p set
  have runs : exec .discoveryDue s = .next _ := congrArg Host.Outcome.next (State.discoveryDue_of_setup set)
  refine ⟨fun early => runs.trans (congrArg Host.Outcome.next (if_neg ?_)), ?_⟩
  · rintro ⟨header, due⟩
    rcases early with shut | other
    · exact absurd (shut ▸ header) (by decide)
    · exact other due
  · intro header due full skip
    rw [if_pos ⟨header, due⟩] at runs
    rw [due]
    refine ⟨fun skips => ?_, fun offers => ?_⟩
    · rw [State.decideDiscovery_of_skip (State.skipsDiscovery_iff.mpr skips)] at runs
      exact ⟨_, runs, (State.gained_bump _).base rfl, rfl⟩
    · have offer : s.skipsDiscovery = false := Bool.eq_false_iff.mpr fun h => offers (State.skipsDiscovery_iff.mp h)
      rw [State.decideDiscovery_of_offer offer] at runs
      exact runs

/-! ### Changes that leave all but a part alone -/

/-- A notice changes the outbox and the counters alone. -/
theorem State.raise_told (s : State) (n : Notice) :
    s.raise n = { s with bus := s.bus.offered [n.message s.reportStation], counters := (s.raise n).counters } := by
  rw [← State.raise_bus]
  exact s.raise_eq n

/-- A notice that is offered is counted after what was counted before. -/
theorem State.Gained.raise {l : List Counter} (h : s.Gained t l) (n : Notice) :
    s.Gained (t.raise n) ((if t.bus.outbox.length < 16 then .noticesQueued else .noticeDropped) :: l) :=
  (h.bump _).congr (State.raise_counters _ n)

theorem State.modHome_of_fixed {f : Home → Home} (h : f (s.home i) = s.home i) : s.modHome i f = s := by
  rw [State.modHome, h, State.setHome, State.home, Vector.set_getElem_self]

/-! ### The waits of homes (R39, R47) -/

/-- Settles O46. -/
theorem waitsOfHomesEndWhenDue : Obligations.WaitsOfHomesEndWhenDue := by
  intro s i
  refine ⟨fun p held progress clock => ?_, fun early => ?_, fun window pending => ?_, fun early => ?_⟩
  · have expires : s.expireApproval i = s.failEnrolment i .lost .noApproval s.clock.round := by
      rw [State.expireApproval, held, progress]
      exact if_pos clock
    have departs := s.departs_failEnrolment i .lost .noApproval s.clock.round (.inl (by rw [held]; rfl))
    have leave : (s.entry i).leaveDirective i = .leaveIndex i := by simp [Entry.leaveDirective, held]
    rw [leave, ← expires] at departs
    refine ⟨_, rfl, departs, ?_, ?_, ?_⟩
    · rw [expires, State.failEnrolment_bars]
    · rw [expires, State.failEnrolment_waited]
    · rw [expires, State.failEnrolment_bus]
  · refine congrArg Host.Outcome.next ?_
    unfold State.expireApproval
    split
    · rename_i p held progress
      exact if_neg (early.resolve_left (not_not.mpr held) p progress)
    · rfl
  · have confirmed : (s.home i).confirm =
        { s.home i with entry := { s.entry i with claim := some .confirmed }, window := none } :=
      if_pos ⟨window, pending⟩
    refine ⟨_, rfl, rfl, ?_, fun j other => ?_⟩
    · rw [State.home_modHome, if_pos rfl, confirmed]
    · rw [State.home_modHome, if_neg other]
  · have same : (s.home i).confirm = s.home i := if_neg fun h => early.elim (· h.1) (· h.2)
    exact congrArg Host.Outcome.next (State.modHome_of_fixed same)

/-! ### The drive check (R84) -/

/-- Settles O47. -/
theorem driveCheckDeclaresAndClears : Obligations.DriveCheckDeclaresAndClears := by
  intro s n told noticed
  refine ⟨fun quiet => ?_, fun long clear => ?_, fun clear => ?_, fun declared => ?_⟩
  · refine congrArg Host.Outcome.next (if_neg ?_)
    rintro ⟨run, silence⟩
    rcases quiet with short | already
    · omega
    · exact absurd (already.symm.trans silence) (by decide)
  · have run : min 128 (s.framer.run + n) = 128 := by omega
    have declares : s.quietPeriods n =
        (({ s with framer := { s.framer with run := 128, silence := true, silenceAge := 0 } } : State).bump
          .transmitSilence).raise (.transmitSilent true s.clock.round 0) := by
      simp only [State.quietPeriods, run, clear]
      rfl
    refine ⟨_, congrArg Host.Outcome.next declares, ?_, ?_⟩
    · exact (((State.gained_bump .transmitSilence).base rfl).raise _).perm (.swap ..)
    · exact State.raise_told _ _
  · simp only [exec, execTransmitSilenceClear, State.transition, clear]
    rfl
  · have clears : s.transition =
        ({ s with framer := { s.framer with run := 0, silence := false, silenceAge := 0 } } : State).raise
          (.transmitSilent false s.clock.round s.framer.silenceAge) := by
      simp only [State.transition, declared]
      rfl
    refine ⟨_, congrArg Host.Outcome.next clears, (State.gained_raise _).base rfl, State.raise_told _ _⟩

/-! ### Downstream frames (R81, R148 to R151) -/

/-- A usage record after bytes of a direction have been counted in a band (R151, R153, R154). -/
def UsageRecord.counted (r : UsageRecord) (up : Bool) (band : Fin 4) (n : Nat) : UsageRecord :=
  let old := if up then r.up[band.val] else r.down[band.val]
  { r with
    up := if up then r.up.set band.val (min (old + n) byteMax) band.isLt else r.up
    down := if up then r.down else r.down.set band.val (min (old + n) byteMax) band.isLt
    flags := { r.flags with saturated := r.flags.saturated || decide (byteMax < old + n) } }

/-- The record of an index in the Live bank replaced. -/
def State.recording (s : State) (i : HomeIdx) (r : UsageRecord) : State :=
  { s with banks := { s.banks with
      live := s.banks.live.map fun l => { l with records := l.records.set i.val (some r) i.isLt } } }

theorem State.countBytes_of_record {r : UsageRecord} {band : Fin 4} (record : s.liveRecord i = some r)
    (current : s.currentBand = some band) (up : Bool) (n : Nat) :
    s.countBytes i up n =
      if byteMax < (if up then r.up[band.val] else r.down[band.val]) + n
          ∨ byteMax ≤ (if up then r.up[band.val] else r.down[band.val])
        then (s.recording i (r.counted up band n)).bump .counterSaturated
        else s.recording i (r.counted up band n) := by
  obtain ⟨l, live, record⟩ := Option.bind_eq_some_iff.mp record
  have counted : s.recording i (r.counted up band n) = { s with banks := { s.banks with
      live := some { l with records := l.records.set i.val (some (r.counted up band n)) i.isLt } } } := by
    rw [State.recording, live]
    rfl
  unfold State.countBytes
  rw [live, current]
  dsimp only
  rw [record, counted]
  cases up with
  | false =>
    by_cases beyond : byteMax < r.down[band.val] + n <;> simp [UsageRecord.counted, beyond]
  | true =>
    by_cases beyond : byteMax < r.up[band.val] + n <;> simp [UsageRecord.counted, beyond]

theorem State.liveRecord_recording {r q : UsageRecord} (record : s.liveRecord i = some q) (j : HomeIdx) :
    (s.recording i r).liveRecord j = if j = i then some r else s.liveRecord j := by
  obtain ⟨l, live, record⟩ := Option.bind_eq_some_iff.mp record
  simp only [State.liveRecord, State.recording, live, Option.map_some, Option.bind_some]
  split_ifs with same
  · subst same
    exact Vector.getElem_set_self _
  · exact Vector.getElem_set_ne _ _ fun e => same (Fin.ext e.symm)

theorem State.takeFrame_of_malformed {index : Byte} {bytes : List Byte} (room : Nat) (free : s.framer.waiting = none)
    (bad : 63 < index.toNat ∨ bytes.length < 64 ∨ 2000 < bytes.length) :
    s.takeFrame index bytes room = s.bump .trafficMalformed := by
  rw [State.takeFrame, free]
  by_cases h : index.toNat < 64
  · simp [h, show bytes.length < 64 ∨ 2000 < bytes.length by omega]
  · simp [h]

theorem State.takeFrame_of_index {index : Byte} {bytes : List Byte} (room : Nat) (free : s.framer.waiting = none)
    (formed : ¬ (63 < index.toNat ∨ bytes.length < 64 ∨ 2000 < bytes.length)) (h : index.toNat = i.val) :
    s.takeFrame index bytes room =
      if (s.entry i).state = .active ∨ (s.entry i).state = .dozing then
        (s.handFrame { index := i, bytes } room).countBytes i false bytes.length
      else s.bump .undeliverableFrame := by
  have small : index.toNat < 64 := by omega
  obtain rfl : i = ⟨index.toNat, small⟩ := Fin.ext h.symm
  rw [State.takeFrame, free]
  simp only [Option.isSome_none, Bool.false_eq_true, if_false, small, dite_true,
    if_neg (show ¬ (bytes.length < 64 ∨ 2000 < bytes.length) by omega)]
  generalize s.entry _ = e
  cases e.state <;> simp

theorem State.handFrame_frame (s : State) (f : Frame) (room : Nat) :
    s.handFrame f room = { s with framer := (s.handFrame f room).framer } := by
  unfold State.handFrame
  split <;> rfl

theorem State.handFrame_framer (s : State) (f : Frame) (room : Nat) :
    (s.handFrame f room).framer =
      if s.framer.sending = none ∧ s.clock.headerOpen = false ∧ f.bytes.length + 3 ≤ room then
        { s.framer with sending := some f }
      else { s.framer with waiting := some f } := by
  have same : (s.framer.sending.isNone && !s.clock.headerOpen && decide (f.lineBytes ≤ room)) = true
      ↔ s.framer.sending = none ∧ s.clock.headerOpen = false ∧ f.bytes.length + 3 ≤ room := by
    simp only [Frame.lineBytes, Nat.add_comm 3, Bool.and_eq_true, Option.isNone_iff_eq_none, Bool.not_eq_true',
      decide_eq_true_eq, and_assoc]
  simp only [State.handFrame, same]
  split <;> rfl

/-- Settles O48. -/
theorem downstreamFramesAreDeliveredInTurn : Obligations.DownstreamFramesAreDeliveredInTurn := by
  refine ⟨fun f => ⟨?_, ?_, ?_⟩, fun s index bytes room => ?_⟩
  · simpa [Frame.line, placed] using laidOut_placed [(1, f.index.val), (2, f.bytes.length)] [] f.bytes
  · simp [Frame.line, bytesOf]
  · simp [Frame.line, Frame.lineBytes, bytesOf_length]
    omega
  intro c malformed
  refine ⟨fun waits => congrArg Host.Outcome.next (if_pos waits), fun free bad =>
    ⟨_, congrArg Host.Outcome.next (State.takeFrame_of_malformed room free bad), rfl, State.gained_bump _⟩,
    fun i free formed found => ?_, fun quiet => ?_, fun sending => ?_⟩
  · have runs : exec c s = .next _ := congrArg Host.Outcome.next (State.takeFrame_of_index room free formed found)
    refine ⟨fun notActive notDozing => ?_, fun r band serves record current => ?_⟩
    · rw [if_neg (by simp [notActive, notDozing])] at runs
      exact ⟨_, runs, rfl, State.gained_bump _⟩
    · rw [if_pos serves] at runs
      intro count top
      have handed := s.handFrame_frame { index := i, bytes } room
      have framer := s.handFrame_framer { index := i, bytes } room
      generalize s.handFrame { index := i, bytes } room = u at runs handed framer
      have hr : u.liveRecord i = some r := (State.liveRecord_congr (by rw [handed]) i).trans record
      have hb : u.currentBand = some band := by
        rw [handed]
        exact current
      have limit : top = byteMax := rfl
      have counts : (byteMax < r.down[band.val] + bytes.length ∨ byteMax ≤ r.down[band.val]) ↔ top < count := by
        have long : 0 < bytes.length := by omega
        rw [limit]
        exact ⟨fun h => h.elim id fun h => Nat.lt_of_le_of_lt h (Nat.lt_add_of_pos_right long), .inl⟩
      rw [State.countBytes_of_record hr hb false] at runs
      simp only [Bool.false_eq_true, if_false, counts] at runs
      have mine : (u.recording i (r.counted false band bytes.length)).liveRecord i =
          some { r with
            down := r.down.set band.val (min count top) band.isLt
            flags := { r.flags with saturated := r.flags.saturated || decide (top < count) } } := by
        rw [State.liveRecord_recording hr, if_pos rfl]
        rfl
      have others (j : HomeIdx) (other : j ≠ i) :
          (u.recording i (r.counted false band bytes.length)).liveRecord j = s.liveRecord j := by
        rw [State.liveRecord_recording hr, if_neg other]
        exact State.liveRecord_congr (by rw [handed]) j
      have same : u.counters = s.counters := by rw [handed]
      by_cases full : top < count
      · rw [if_pos full] at runs ⊢
        refine ⟨_, runs, framer, mine, others, (State.gained_bump _).base same.symm, ?_⟩
        rw [handed]
        rfl
      · rw [if_neg full] at runs ⊢
        refine ⟨_, runs, framer, mine, others, .of_eq same, ?_⟩
        rw [handed]
        rfl
  · exact congrArg Host.Outcome.next (by rw [State.frameSent, quiet])
  · obtain ⟨g, sending⟩ := Option.isSome_iff_exists.mp sending
    refine congrArg Host.Outcome.next ?_
    rw [State.frameSent, sending]
    cases waits : s.framer.waiting with
    | none => rfl
    | some f =>
      simp only [State.restartHeaderDue, Frame.lineBytes, Nat.add_comm 3, beq_eq_false_iff_ne]
      split <;> rfl

/-! ### Discovery bursts (R23 to R29) -/

theorem State.inSpan_iff {arrival : Nat} :
    s.inSpan arrival = true ↔ arrival + 4 ≤ if s.straps.reach = .long then 3238 else 1638 := by
  rw [State.inSpan, Reach.discoverySpan]
  cases s.straps.reach <;> simp [Reach.quanta]

theorem bodyCheck_iff {body : List Byte} :
    bodyCheck body = true ↔ (crcBytes (body.take 9)).toNat = field body 9 2 := by
  simp [bodyCheck]

theorem State.discoverySpan_iff :
    s.discoverySpan = true ↔
      ∃ e x length, s.rx.arriving = some e ∧ e.map = some x ∧ x.span = some (.discovery, length) := by
  simp [State.discoverySpan, RoundExp.discovers, Option.any_eq_true]

theorem State.takeDiscovery_of_unheard {arrival : Nat} {body : List Byte}
    (h : s.discoverySpan = false ∨ s.inSpan arrival = false ∨ bodyCheck body = false) :
    s.takeDiscovery arrival body = s := by
  refine if_neg ?_
  rcases h with h | h | h <;> simp [h]

/-- A good burst in the span marks the span, and is decided by its round trip, the bar list and the lookup. -/
theorem State.takeDiscovery_of_heard {arrival : Nat} {body : List Byte} {e : RoundExp} (h : s.rx.arriving = some e)
    (span : s.discoverySpan = true) (inside : s.inSpan arrival = true) (good : bodyCheck body = true) :
    s.takeDiscovery arrival body =
      if e.cutOff = true then s.markSpanGood
      else if arrival < bodyBackoff body then s.markSpanGood.bump .discoveryCollision
      else if s.barred (bodyTag body) = true then s.markSpanGood.bump .barredAttempts
      else s.markSpanGood.lookupBurst (bodyTag body) (arrival - bodyBackoff body) := by
  have cut : s.spanCutOff = e.cutOff := by rw [State.spanCutOff, h, Option.any_some]
  rw [State.takeDiscovery, span, inside, good]
  simp only [cut]
  rfl

theorem State.markSpanGood_eq {e : RoundExp} (h : s.rx.arriving = some e) :
    s.markSpanGood = { s with rx := { s.rx with arriving := some { e with spanGood := true } } } := by
  rw [State.markSpanGood, h]
  rfl

theorem State.dirRoom_iff : s.dirRoom = true ↔ s.framer.queue.length < 32 := by
  simp [State.dirRoom]

/-- A directive of an enrolment that is no Set delay joins the queue, or waits with its entry (R28, R80). -/
theorem State.offerEnrol_spec {d : Directive} (kind : ∀ i n, d ≠ .setDelay i n) (s : State) (i : HomeIdx) :
    (s.offerEnrol i d).home i = { s.home i with
      progress := if s.framer.queue.length < 32 then (s.home i).progress
        else (s.home i).progress.map fun p => { p with waiting := some d } }
    ∧ (∀ j, j ≠ i → (s.offerEnrol i d).home j = s.home j)
    ∧ s.offerEnrol i d = { s with
        homes := (s.offerEnrol i d).homes
        framer := { s.framer with queue := joined s.framer.queue d }
        counters := (s.offerEnrol i d).counters }
    ∧ s.Gained (s.offerEnrol i d) (if s.framer.queue.length < 32 then [] else [.directiveWait]) := by
  rw [joined]
  by_cases room : s.framer.queue.length < 32
  · have joins : s.offerEnrol i d = { s with framer := { s.framer with queue := s.framer.queue ++ [d] } } := by
      rw [State.offerEnrol, if_pos (State.dirRoom_iff.mpr room), State.pushDirective_eq _ _ kind]
    rw [if_pos room, if_pos room, if_pos room, joins]
    exact ⟨rfl, fun _ _ => rfl, rfl, .of_eq rfl⟩
  · have waits : s.offerEnrol i d =
        (s.modProgress i fun p => { p with waiting := some d }).bump .directiveWait := by
      rw [State.offerEnrol, if_neg fun h => room (State.dirRoom_iff.mp h)]
    rw [if_neg room, if_neg room, if_neg room, waits]
    refine ⟨?_, fun j other => ?_, rfl, (State.gained_bump _).base rfl⟩
    · rw [State.home_congr (State.bump_homes ..), State.modProgress, State.home_modHome, if_pos rfl]
    · rw [State.home_congr (State.bump_homes ..), State.modProgress, State.home_modHome, if_neg other]

theorem State.lookupBurst_of_held {x : Tag} (finds : s.Finds x i) (state : (s.entry i).state ≠ .retired)
    (coarse : Nat) :
    s.lookupBurst x coarse = (s.bump .localDuplicate).raise (.duplicateTag x i (s.entry i).state 31 255) := by
  rw [State.lookupBurst, State.holder_eq_some_iff.mpr finds]
  exact if_neg state

theorem State.lookupBurst_of_retired {x : Tag} (finds : s.Finds x i) (state : (s.entry i).state = .retired)
    (coarse : Nat) :
    s.lookupBurst x coarse = if 4 ≤ s.enrollingCount then s.bump .discoveryRefused else s.accept i x coarse := by
  rw [State.lookupBurst, State.holder_eq_some_iff.mpr finds]
  simp only [if_pos state, decide_eq_true_eq]

theorem State.lookupBurst_of_vacant {x : Tag} (free : s.NotHeld x) (vacant : s.lowestVacant = some i) (coarse : Nat) :
    s.lookupBurst x coarse = if 4 ≤ s.enrollingCount then s.bump .discoveryRefused else s.accept i x coarse := by
  rw [State.lookupBurst, State.holder_eq_none_iff.mpr free, vacant]
  simp only [decide_eq_true_eq]

theorem State.lookupBurst_of_none {x : Tag} (free : s.NotHeld x) (vacant : s.lowestVacant = none) (coarse : Nat) :
    s.lookupBurst x coarse = s.bump .discoveryRefused := by
  rw [State.lookupBurst, State.holder_eq_none_iff.mpr free, vacant]

/-- Settles O49. -/
theorem discoveryBurstIsDecided : Obligations.DiscoveryBurstIsDecided := by
  refine ⟨fun s arrival body unheard => congrArg Host.Outcome.next (State.takeDiscovery_of_unheard ?_),
    fun s arrival body e x length arriving map span inside good => ?_⟩
  · rcases unheard with none | outside | bad
    · refine .inl (Bool.eq_false_iff.mpr fun h => ?_)
      obtain ⟨e, x, length, arriving, map, span⟩ := State.discoverySpan_iff.mp h
      exact none e x length arriving map span
    · exact .inr (.inl (Bool.eq_false_iff.mpr fun h => absurd (State.inSpan_iff.mp h) outside.not_ge))
    · exact .inr (.inr (Bool.eq_false_iff.mpr fun h => bad (bodyCheck_iff.mp h)))
  intro c tag rx counts passes accepts
  have runs : exec c s = .next _ := congrArg Host.Outcome.next (State.takeDiscovery_of_heard arriving
    (State.discoverySpan_iff.mpr ⟨e, x, length, arriving, map, span⟩) (State.inSpan_iff.mpr inside)
    (bodyCheck_iff.mpr good))
  rw [State.markSpanGood_eq arriving] at runs
  generalize marked : ({ s with rx := rx } : State) = u at runs
  have accept (i : HomeIdx) (h : exec c s = .next (u.accept i tag (arrival - byteAt body 8))) : accepts i := by
    obtain ⟨mine, others, frame, gained⟩ := State.offerEnrol_spec (d := .assign tag i) (by simp)
      (u.setHome i { Home.vacant with
        entry := .ranged tag
        progress := some { coarse := arrival - byteAt body 8, tries := 0, tests := 0, stage := .awaitingAssign
                           waiting := none, clock := none } }) i
    subst marked
    refine ⟨_, h, mine.trans ?_, fun j other => (others j other).trans ?_, frame, gained⟩
    · rw [State.home_setHome, if_pos rfl, State.setHome_framer]
      dsimp only
      split <;> rfl
    · rw [State.home_setHome, if_neg other]
      rfl
  have bumped (k : Counter) (h : exec c s = .next (u.bump k)) : counts k := by
    subst marked
    exact ⟨_, h, rfl, (State.gained_bump k).base rfl⟩
  have uncut (cut : e.cutOff = false) := runs.trans (congrArg Host.Outcome.next (if_neg (ne_true_of_eq_false cut)))
  have timed (cut : e.cutOff = false) (late : byteAt body 8 ≤ arrival) :=
    (uncut cut).trans (congrArg Host.Outcome.next (if_neg (Nat.not_lt.mpr late)))
  have looked (h : passes) : exec c s = .next (u.lookupBurst tag (arrival - byteAt body 8)) :=
    (timed h.1 h.2.1).trans (congrArg Host.Outcome.next (if_neg (ne_true_of_eq_false h.2.2)))
  have finds {i : HomeIdx} (h : s.Finds tag i) : u.Finds tag i := by
    subst marked
    exact ⟨h.state, h.holds, h.lowest⟩
  have free (h : s.NotHeld tag) : u.NotHeld tag := by
    subst marked
    exact h
  have entry (i : HomeIdx) : u.entry i = s.entry i := by
    subst marked
    rfl
  have count : u.enrollingCount = s.enrollingCount := by
    subst marked
    rfl
  refine ⟨fun cut => ?_,
    fun cut negative => bumped _ ((uncut cut).trans (congrArg Host.Outcome.next (if_pos negative))),
    fun cut late barred => bumped _ ((timed cut late).trans (congrArg Host.Outcome.next (if_pos barred))),
    fun pass i held state => ⟨_, (looked pass).trans (congrArg Host.Outcome.next
      (State.lookupBurst_of_held (finds held) (entry i ▸ state) _)), ?_, ?_⟩,
    fun pass i held state => ?_, fun pass none => ?_⟩
  · rw [runs, if_pos cut, ← marked]
  · rw [entry]
    subst marked
    exact State.raise_told ..
  · subst marked
    exact (((State.gained_bump .localDuplicate).base rfl).raise _).perm (.swap ..)
  · have decided := (looked pass).trans (congrArg Host.Outcome.next
      (State.lookupBurst_of_retired (finds held) ((entry i).symm ▸ state) _))
    rw [count] at decided
    exact ⟨fun few => accept i (decided.trans (congrArg Host.Outcome.next (if_neg few.not_ge))),
      fun many => bumped _ (decided.trans (congrArg Host.Outcome.next (if_pos many)))⟩
  · refine ⟨fun i few vacant lowest => accept i ?_, fun refuses => bumped _ ?_⟩
    · have vacant : u.lowestVacant = some i := State.lowestVacant_eq_some_iff.mpr
        ⟨(entry i).symm ▸ vacant, fun j hj => (entry j).symm ▸ lowest j hj⟩
      rw [looked pass, State.lookupBurst_of_vacant (free none) vacant, count, if_neg few.not_ge]
    · rw [looked pass]
      cases vacant : u.lowestVacant with
      | none => rw [State.lookupBurst_of_none (free none) vacant]
      | some i =>
        rw [State.lookupBurst_of_vacant (free none) vacant, count, if_pos]
        refine refuses.resolve_right fun taken => taken i ?_
        rw [← entry]
        exact (State.lowestVacant_eq_some_iff.mp vacant).1

end Sys2Proof.Machine

/-! Window verdicts: misses, and the fourth miss of a home (R97, R98). -/

namespace Sys2Proof.Machine

open Sys2Proof

variable {s t : State} {i : HomeIdx} {w : Window} {o : RoundObs} {round : Round}

/-! ### The fourth miss (R98) -/

/-- What a home's move tells does not depend on the rest of its entry. -/
theorem State.partingMessages_modEntry {f : Entry → Entry} (h : (f (s.entry i)).tag = (s.entry i).tag)
    (round : Round) :
    (s.modEntry i f).partingMessages i round = s.partingMessages i round := by
  have home : (s.modEntry i f).home i = { s.home i with entry := f (s.entry i) } := by
    rw [State.home_modEntry, if_pos rfl]
  have entry : (s.modEntry i f).entry i = f (s.entry i) := congrArg Home.entry home
  have tagVal : ((s.modEntry i f).entry i).tagVal = (s.entry i).tagVal := by rw [entry, Entry.tagVal, h]; rfl
  rw [State.partingMessages, State.partingMessages, State.cancelMessages, State.cancelMessages, tagVal, home]
  rfl

theorem State.loseHome_of_active (h : (s.entry i).state = .active) (round : Round) :
    s.loseHome i round = ((((s.retire i .lost round).offerLeave (.leaveIndex i)).bump .homeLost)).raise
      (.homeLost i (s.entry i).tagVal round) := by
  simp only [State.loseHome, h]

theorem State.loseHome_of_held (h : (s.entry i).state = .held) (round : Round) :
    s.loseHome i round = (s.leaveFor i .lost round).raise (.enrollFailed i (s.entry i).tagVal .lost) := by
  simp only [State.loseHome, h]

/-- The entries whose verdicts count (R97). -/
def Entry.counts (e : Entry) : Bool := (e.state == .testing || e.state == .held || e.state == .active) && !e.probe

theorem Entry.counts_iff {e : Entry} :
    e.counts = true ↔ (e.state = .testing ∨ e.state = .held ∨ e.state = .active) ∧ e.probe = false := by
  simp [Entry.counts, or_assoc]

theorem State.applyWindow_eq (h : w.isWindow = true) (blank : Bool) :
    s.applyWindow o blank round w =
      if (s.entry w.index).counts = false then s
      else if w.litIn o then s.modEntry w.index fun e => { e with miss := 0 }
      else if blank || s.framer.silence then s
      else
        let u := s.modEntry w.index fun e => { e with miss := min (e.miss + 1) 4 }
        if (u.entry w.index).miss = 4 then u.loseHome w.index round else u := by
  simp only [State.applyWindow, h, Entry.counts, Bool.not_true, Bool.false_eq_true, if_false, Bool.not_eq_true']

/-- A dark window adds a miss, and the fourth loses the home. -/
theorem State.applyWindow_of_dark (h : w.isWindow = true) (counts : (s.entry w.index).counts = true)
    (dark : w.litIn o = false) (heard : s.framer.silence = false) {n : Nat} (miss : (s.entry w.index).miss = n)
    (few : n < 4) :
    s.applyWindow o false round w =
      if n = 3 then (s.modEntry w.index fun e => { e with miss := 4 }).loseHome w.index round
      else s.modEntry w.index fun e => { e with miss := n + 1 } := by
  have added : (s.modEntry w.index fun e => { e with miss := min (e.miss + 1) 4 })
      = s.modEntry w.index fun e => { e with miss := n + 1 } := by
    have same : min ((s.entry w.index).miss + 1) 4 = n + 1 := by omega
    simp only [State.modEntry, State.modHome]
    rw [← State.entry, same]
  rw [State.applyWindow_eq h, counts, dark, heard, added]
  have missed : ((s.modEntry w.index fun e => { e with miss := n + 1 }).entry w.index).miss = n + 1 := by
    simp [State.entry]
  simp only [missed]
  by_cases last : n = 3
  · subst last
    simp
  · simp [last, show n + 1 ≠ 4 by omega]

/-- Settles O51: the counts of misses by `applyWindow_of_dark`, and the move of a lost home by its state. -/
theorem fourthMissTakesHomeOff : Obligations.FourthMissTakesHomeOff := by
  intro s o round w window i e t counted withMiss
  have uncounted (h : ¬ counted) : e.counts = false := Bool.eq_false_iff.mpr fun c => h (Entry.counts_iff.mp c)
  refine ⟨fun h => ?_, fun h lit => ?_, fun h dark silent => ?_, fun h dark heard => ?_⟩
  · exact (State.applyWindow_eq window false).trans (if_pos (uncounted h))
  · have counts := Entry.counts_iff.mpr h
    exact (State.applyWindow_eq window false).trans ((if_neg (ne_false_of_eq_true counts)).trans (if_pos lit))
  · have counts := Entry.counts_iff.mpr h
    exact (State.applyWindow_eq window false).trans ((if_neg (ne_false_of_eq_true counts)).trans
      ((if_neg (ne_true_of_eq_false dark)).trans (if_pos (by rw [silent]; rfl))))
  have adds {n : Nat} (miss : e.miss = n) (few : n < 4) : t = _ :=
    State.applyWindow_of_dark window (Entry.counts_iff.mpr h) dark heard miss few
  have fourth (miss : e.miss = 3) : t = (withMiss 4).loseHome i round := adds miss (by decide)
  have entry : (withMiss 4).entry i = { e with miss := 4 } := by
    rw [State.entry, State.home_modEntry, if_pos rfl]
  have told : (withMiss 4).partingMessages i round = s.partingMessages i round :=
    State.partingMessages_modEntry rfl round
  refine ⟨fun few => ?_, fun miss testing => ?_, fun miss active => ?_, fun miss held => ?_⟩
  · exact (adds rfl (by omega)).trans (if_neg (by omega))
  · have state : ((withMiss 4).entry i).state = .testing := by rw [entry]; exact testing
    rw [fourth miss]
    simp only [State.loseHome, state]
  · have state : ((withMiss 4).entry i).state = .active := by rw [entry]; exact active
    have lost := (fourth miss).trans (State.loseHome_of_active state round)
    have tag : ((withMiss 4).entry i).tagVal = e.tagVal := by rw [entry]; rfl
    rw [tag] at lost
    rw [lost]
    refine ⟨(((State.departs_retire _ i .lost round (.inl ?_)).leave _ (by simp)).bump _).raise _, ?_, ?_, ?_, ?_⟩
    · rw [state]
      rfl
    · simp [withMiss]
    · simp [withMiss]
    · rw [State.counter_raise (by decide), State.counter_bump, if_pos rfl, State.counter_offerLeave (by decide),
        State.counter_retire (by decide) (.inl (by decide))]
      rfl
    · rw [State.raise_bus, State.bump_bus, State.offerLeave_bus, State.retire_bus, told, Bus.offered_append,
        State.reportStation_congr (s := s) (by simp [withMiss])]
      rfl
  · have state : ((withMiss 4).entry i).state = .held := by rw [entry]; exact held
    have lost := (fourth miss).trans (State.loseHome_of_held state round)
    have tag : ((withMiss 4).entry i).tagVal = e.tagVal := by rw [entry]; rfl
    rw [tag] at lost
    rw [lost]
    refine ⟨(State.departs_leaveFor _ i .lost round (.inl ?_)).raise _, ?_, ?_, ?_⟩
    · rw [state]
      rfl
    · simp [withMiss]
    · simp [withMiss]
    · rw [State.raise_bus, State.leaveFor_bus, told, Bus.offered_append,
        State.reportStation_congr (s := s) (by simp [withMiss])]
      rfl

end Sys2Proof.Machine

/-! Misbehaviour scores do not matter to a boundary: its map and counts commute with a change of scores (R78, R145). -/

namespace Sys2Proof.Machine

open Sys2Proof

variable {s t : State} {i : HomeIdx}

/-! ### A change of scores -/

/-- A home with another misbehaviour score. -/
def Home.rescored (h : Home) (n : Nat) : Home := { h with entry := { h.entry with score := n } }

/-- The part with other misbehaviour scores, and other decays owed. -/
def State.rescored (s : State) (f : HomeIdx → Nat) (owed : List HomeIdx) : State :=
  { s with
    homes := s.homes.mapFinIdx fun i h hi => h.rescored (f ⟨i, hi⟩)
    rogue := { s.rogue with owed } }

section

variable {f g : HomeIdx → Nat} {o l : List HomeIdx}

theorem State.home_rescored (s : State) (f : HomeIdx → Nat) (o : List HomeIdx) (i : HomeIdx) :
    (s.rescored f o).home i = (s.home i).rescored (f i) := by
  simp [State.rescored, State.home]

theorem State.entry_rescored (s : State) (f : HomeIdx → Nat) (o : List HomeIdx) (i : HomeIdx) :
    (s.rescored f o).entry i = { s.entry i with score := f i } := congrArg Home.entry (s.home_rescored f o i)

/-- A part whose homes carry the scores, and which agrees with another in all else. -/
theorem State.eq_rescored (frame : t = { s with homes := t.homes, rogue := { s.rogue with owed := o } })
    (homes : ∀ i, t.home i = (s.home i).rescored (f i)) : t = s.rescored f o := by
  have same : t.homes = (s.rescored f o).homes := State.homes_ext fun i => by rw [homes, State.home_rescored]
  rw [frame, same]
  rfl

theorem State.rescored_self (s : State) : s.rescored (fun i => (s.entry i).score) s.rogue.owed = s :=
  (State.eq_rescored rfl fun _ => rfl).symm

/-- An operation that a change of scores commutes with. -/
def Rescores (F : State → State) : Prop :=
  ∀ (s : State) (f : HomeIdx → Nat) (o : List HomeIdx), F (s.rescored f o) = (F s).rescored f o

theorem Rescores.comp {F G : State → State} (hF : Rescores F) (hG : Rescores G) : Rescores fun s => G (F s) :=
  fun s f o => by
    dsimp only
    rw [hF, hG]

theorem Rescores.foldl {α : Type} {F : State → α → State} (h : ∀ a, Rescores fun s => F s a) (l : List α) :
    Rescores fun s => l.foldl F s := by
  induction l with
  | nil => exact fun _ _ _ => rfl
  | cons a l ih => exact (h a).comp ih

theorem Rescores.ite {c : State → Prop} [∀ s, Decidable (c s)] {F G : State → State}
    (same : ∀ (s : State) (f : HomeIdx → Nat) (o : List HomeIdx), c (s.rescored f o) ↔ c s) (hF : Rescores F)
    (hG : Rescores G) : Rescores fun s => if c s then F s else G s := by
  intro s f o
  by_cases h : c s
  · simp only [if_pos h, if_pos ((same s f o).mpr h), hF s f o]
  · simp only [if_neg h, if_neg (mt (same s f o).mp h), hG s f o]

/-- What commutes with a change of scores leaves the scores, and the decays owed, alone. -/
theorem Rescores.keeps {F : State → State} (h : Rescores F) (s : State) :
    (∀ i, ((F s).entry i).score = (s.entry i).score) ∧ (F s).rogue.owed = s.rogue.owed := by
  have same : F s = (F s).rescored (fun i => (s.entry i).score) s.rogue.owed := by
    rw [← h, State.rescored_self]
  refine ⟨fun i => ?_, ?_⟩
  · rw [same, State.entry_rescored]
  · rw [same]
    rfl

theorem Rescores.modHome (i : HomeIdx) {k : State → Home → Home}
    (same : ∀ (s : State) (f : HomeIdx → Nat) (o : List HomeIdx) (h : Home) (n : Nat),
      k (s.rescored f o) (h.rescored n) = (k s h).rescored n) : Rescores fun s => s.modHome i (k s) := by
  intro s f o
  refine State.eq_rescored rfl fun j => ?_
  rw [State.home_modHome, State.home_modHome]
  split_ifs with e
  · subst e
    rw [State.home_rescored, same]
  · rw [State.home_rescored]

/-! ### The map (R67 to R78) -/

theorem State.skipsDiscovery_rescored (s : State) (f : HomeIdx → Nat) (o : List HomeIdx) :
    (s.rescored f o).skipsDiscovery = s.skipsDiscovery := by
  simp only [State.skipsDiscovery, State.lowestVacant, State.enrollingCount, State.entry_rescored]
  rfl

theorem rescores_decideDiscovery (p : Params) : Rescores fun s => s.decideDiscovery p := by
  intro s f o
  cases skip : s.skipsDiscovery with
  | true =>
    simp only [State.decideDiscovery_of_skip skip,
      State.decideDiscovery_of_skip ((s.skipsDiscovery_rescored f o).trans skip)]
    rfl
  | false =>
    simp only [State.decideDiscovery_of_offer skip,
      State.decideDiscovery_of_offer ((s.skipsDiscovery_rescored f o).trans skip)]
    rfl

theorem rescores_discoveryDue : Rescores State.discoveryDue := by
  intro s f o
  cases h : s.setup with
  | none =>
    have g : (s.rescored f o).setup = none := h
    simp only [State.discoveryDue, h, g]
  | some p =>
    have g : (s.rescored f o).setup = some p := h
    rw [State.discoveryDue_of_setup h, State.discoveryDue_of_setup g]
    exact Rescores.ite (c := fun s => s.clock.headerOpen ∧ s.clock.round = s.enrol.due) (fun _ _ _ => Iff.rfl)
      (rescores_decideDiscovery p) (G := id) (fun _ _ _ => rfl) s f o

theorem Entry.upkeepTick_rescored (e : Entry) (n : Nat) :
    ({ e with score := n } : Entry).upkeepTick = { e.upkeepTick with score := n } := by
  have same : ({ e with score := n } : Entry).pollable = e.pollable := rfl
  rw [Entry.upkeepTick, Entry.upkeepTick, same]
  split <;> rfl

theorem Entry.charged_rescored (e : Entry) (n : Nat) :
    ({ e with score := n } : Entry).charged = { e.charged with score := n } := by
  by_cases h : e.state = .held ∨ e.state = .active
  · rw [Entry.charged, Entry.charged, if_pos h, if_pos h]
  · rw [Entry.charged, Entry.charged, if_neg h, if_neg h]

theorem rescores_tickUpkeep (p : Params) : Rescores fun s => s.tickUpkeep p := by
  intro s f o
  refine State.eq_rescored rfl fun i => ?_
  have tick (v : State) : (v.tickUpkeep p).home i =
      if (v.light.loss || v.framer.silence) = false ∧ i.val % p.upkeep
          = (if v.clock.firstMap then 0 else (v.planner.phase + 1) % p.upkeep) then
        { v.home i with entry := (v.entry i).upkeepTick } else v.home i := by
    simp [State.tickUpkeep, State.home, State.entry]
  rw [tick, tick, State.home_rescored, State.entry_rescored, Entry.upkeepTick_rescored]
  by_cases due : (s.light.loss || s.framer.silence) = false ∧ i.val % p.upkeep
      = (if s.clock.firstMap then 0 else (s.planner.phase + 1) % p.upkeep)
  · rw [if_pos due, if_pos (by exact due)]
    rfl
  · rw [if_neg due, if_neg (by exact due)]

theorem rescores_dropOffer : Rescores State.dropOffer := by
  intro s f o
  have probing : (s.rescored f o).probing = s.probing := rfl
  have enrol : (s.rescored f o).enrol = s.enrol := rfl
  simp only [State.dropOffer, probing, enrol]
  split <;> rfl

section

variable {homes homes' : Vector Home 64} (same : ∀ i : HomeIdx, ∃ n, homes'[i.val] = (homes[i.val]).rescored n)
include same

theorem stepForced_rescored (span : Nat) : stepForced homes' span = stepForced homes span := by
  funext d i
  obtain ⟨n, h⟩ := same i
  simp only [stepForced, h]
  rfl

theorem stepDoze_rescored (span : Nat) : stepDoze homes' span = stepDoze homes span := by
  funext d i
  obtain ⟨n, h⟩ := same i
  simp only [stepDoze, h]
  rfl

theorem stepEnrol_rescored (span : Nat) : stepEnrol homes' span = stepEnrol homes span := by
  funext d i
  obtain ⟨n, h⟩ := same i
  simp only [stepEnrol, stepSpan, h]
  rfl

theorem stepGuaranteed_rescored (span : Nat) : stepGuaranteed homes' span = stepGuaranteed homes span := by
  funext d i
  obtain ⟨n, h⟩ := same i
  simp only [stepGuaranteed, h]
  rfl

theorem stepOptional_rescored (span : Nat) : stepOptional homes' span = stepOptional homes span := by
  funext d i
  obtain ⟨n, h⟩ := same i
  simp only [stepOptional, h]
  rfl

theorem visit_rescored (span : Nat) : visit homes' span = visit homes span := by
  funext d i
  obtain ⟨n, h⟩ := same i
  simp only [visit, remaining, h]
  rfl

theorem distribute_rescored (span : Nat) (p : HomeIdx) (n : Nat) (d : Draft) (last : Option HomeIdx) :
    distribute homes' span p n d last = distribute homes span p n d last := by
  have cycles : cycle homes' span p = cycle homes span p := by
    funext d
    simp only [cycle, visit_rescored same]
  induction n generalizing d last with
  | zero => rfl
  | succ n ih =>
    simp only [distribute, cycles]
    split
    · rfl
    · exact ih _ _

theorem planMap_rescored (p : HomeIdx) (span : Option (SpanKind × Nat)) :
    planMap homes' p span = planMap homes p span := by
  have filled : fillMap homes' p span = fillMap homes p span := by
    simp only [fillMap, stepForced_rescored same, stepDoze_rescored same, stepEnrol_rescored same,
      stepGuaranteed_rescored same, stepOptional_rescored same, distribute_rescored same]
  simp only [planMap, filled]

end

theorem State.planMap_rescored (s : State) (f : HomeIdx → Nat) (o : List HomeIdx) (p : HomeIdx)
    (span : Option (SpanKind × Nat)) : planMap (s.rescored f o).homes p span = planMap s.homes p span :=
  Machine.planMap_rescored (fun i => ⟨f i, s.home_rescored f o i⟩) p span

theorem Home.granted_rescored (h : Home) (n : Nat) (g : Grant) (r : Round) :
    (h.rescored n).granted g r = (h.granted g r).rescored n := by
  have charged := h.entry.charged_rescored n
  simp only [Home.granted, Home.rescored, charged]
  generalize h.entry.charged = e
  cases g.kind with
  | data | poll => rfl
  | test => by_cases h : e.state = .testing <;> simp [h]
  | ranging => by_cases h : e.state = .ranging <;> simp [h]

theorem rescores_completeMap (m : TalkMap) : Rescores fun s => s.completeMap m := by
  intro s f o
  have granted (r : Round) := Rescores.foldl (F := fun v (g : Grant) => v.modHome g.index fun h => h.granted g r)
    (fun g => Rescores.modHome g.index (k := fun _ h => h.granted g r) fun _ _ _ h n => h.granted_rescored n g r)
    m.grants s f o
  have windows : (m.grants.map fun g => g.window ((s.rescored f o).entry g.index))
      = m.grants.map fun g => g.window (s.entry g.index) := by
    simp only [State.entry_rescored]
    rfl
  have round : (s.rescored f o).clock = s.clock := rfl
  simp only [State.completeMap, windows, round, granted]
  rfl

theorem rescores_noteMap : Rescores State.noteMap := by
  intro s f o
  cases h : s.rogue.iso with
  | probing p =>
    have g : (s.rescored f o).rogue.iso = .probing p := h
    simp only [State.noteMap, h, g]
    rfl
  | idle =>
    have g : (s.rescored f o).rogue.iso = .idle := h
    simp only [State.noteMap, h, g]
  | backoff n =>
    have g : (s.rescored f o).rogue.iso = .backoff n := h
    simp only [State.noteMap, h, g]

theorem rescores_directiveSent (d : Directive) : Rescores fun s => s.directiveSent d := by
  cases d with
  | assign x i =>
    refine Rescores.modHome i (k := fun s h => { h with progress := h.progress.map fun p =>
      if p.stage = .awaitingAssign ∧ p.waiting = none ∧ (s.entry i).tag = some x ∧ .assign x i ∉ s.framer.queue
        then { p with stage := .spanDue } else p }) fun s f o h n => ?_
    rw [State.entry_rescored]
    rfl
  | setDelay i d =>
    exact Rescores.ite (c := fun s => s.framer.queue.any (fun q => match q with | .setDelay j _ => j == i | _ => false)
        = true) (fun _ _ _ => Iff.rfl) (fun _ _ _ => rfl) (Rescores.modHome i fun _ _ _ _ _ => rfl)
  | leaveIndex _ | leaveTag _ | dozeGranted _ _ | wake _ => exact fun _ _ _ => rfl

theorem rescores_startWaiting : Rescores State.startWaiting := by
  intro s f o
  have same : (s.rescored f o).framer = s.framer := rfl
  unfold State.startWaiting
  rw [same]
  split <;> rfl

theorem State.darkSet_rescored (s : State) (f : HomeIdx → Nat) (o : List HomeIdx) :
    (s.rescored f o).darkSet = s.darkSet := by
  simp only [State.darkSet, State.entry_rescored]

theorem rescores_closeHeader (m : TalkMap) : Rescores fun s => s.closeHeader m := by
  intro s f o
  have sent := ((Rescores.foldl rescores_directiveSent (s.framer.queue.take 8)).comp rescores_startWaiting)
  simp only [State.closeHeader, State.darkSet_rescored]
  exact sent { s with
    framer := { s.framer with
      queue := s.framer.queue.drop 8
      header := some
        { round := s.clock.round, idleFill := false, dark := s.darkSet, map := some m
          directives := s.framer.queue.take 8 } }
    clock := { s.clock with headerOpen := false } } f o

theorem rescores_buildMap (p : Params) : Rescores fun s => s.buildMap p := by
  intro s f o
  have ticked := (rescores_discoveryDue.comp (rescores_tickUpkeep p)) s f o
  dsimp only at ticked
  have dropped := rescores_dropOffer (s.discoveryDue.tickUpkeep p) f o
  simp only [State.buildMap, ticked, dropped, State.planMap_rescored]
  generalize s.discoveryDue.tickUpkeep p = u at *
  have span : (u.rescored f o).reservedSpan = u.reservedSpan := rfl
  have planner : (u.dropOffer.rescored f o).planner = u.dropOffer.planner := rfl
  rw [span, planner]
  generalize planMap _ _ _ = r
  have noted := ((rescores_completeMap r.1).comp rescores_noteMap) u.dropOffer f o
  dsimp only at noted
  rw [noted]
  exact rescores_closeHeader r.1
    { (u.dropOffer.completeMap r.1).noteMap with
      planner := { (u.dropOffer.completeMap r.1).noteMap.planner with rotation := r.2 } } f o

theorem rescores_handMap : Rescores State.handMap := by
  intro s f o
  cases h : s.setup with
  | none =>
    have g : (s.rescored f o).setup = none := h
    simp only [State.handMap, h, g]
  | some p =>
    have g : (s.rescored f o).setup = some p := h
    simp only [State.handMap, h, g]
    exact Rescores.ite (c := fun s => s.clock.headerOpen = true) (fun _ _ _ => Iff.rfl)
      (rescores_buildMap p) (G := id) (fun _ _ _ => rfl) s f o

/-! ### The counts of a boundary -/

theorem rescores_tickSilence : Rescores State.tickSilence :=
  Rescores.ite (c := fun s => s.framer.silence = true) (fun _ _ _ => Iff.rfl)
    (F := fun s => { s with framer := { s.framer with silenceAge := s.framer.silenceAge + 1 } }) (fun _ _ _ => rfl)
    (G := id) (fun _ _ _ => rfl)

theorem rescores_tickRing : Rescores State.tickRing := by
  intro s f o
  have ring : (s.rescored f o).ring = s.ring := rfl
  have banks : (s.rescored f o).banks = s.banks := rfl
  unfold State.tickRing
  rw [ring, banks]
  split <;> rfl

theorem rescores_tickRating : Rescores State.tickRating := by
  intro s f o
  have banks : (s.rescored f o).banks = s.banks := rfl
  unfold State.tickRating
  rw [banks]
  split
  · split
    · rfl
    · split
      · rfl
      · dsimp only
        split <;> split <;> rfl
  · rfl

theorem rescores_pushDirective (d : Directive) : Rescores fun s => s.pushDirective d := by
  cases d with
  | setDelay i n =>
    exact fun s f o => Rescores.modHome i (k := fun _ h => { h with marker := .queued }) (fun _ _ _ _ _ => rfl)
      { s with framer := { s.framer with queue := s.framer.queue ++ [.setDelay i n] } } f o
  | assign _ _ | leaveIndex _ | leaveTag _ | dozeGranted _ _ | wake _ => exact fun _ _ _ => rfl

theorem rescores_reofferEnrol (i : HomeIdx) : Rescores fun s => s.reofferEnrol i := by
  intro s f o
  have home : ((s.rescored f o).home i).progress = (s.home i).progress := by rw [State.home_rescored]; rfl
  dsimp only [State.reofferEnrol]
  rw [home]
  split
  · split
    · exact Rescores.ite (c := fun s => s.dirRoom = true) (fun _ _ _ => Iff.rfl)
        ((Rescores.modHome i (k := fun _ h => { h with progress := h.progress.map fun p => { p with waiting := none } })
          fun _ _ _ _ _ => rfl).comp (rescores_pushDirective _)) (G := id) (fun _ _ _ => rfl) s f o
    · rfl
  · rfl

theorem rescores_reofferWake (i : HomeIdx) : Rescores fun s => s.reofferWake i :=
  Rescores.ite (c := fun s => ((s.home i).keptWake && s.dirRoom) = true)
    (fun s f o => by rw [State.home_rescored]; exact Iff.rfl)
    ((Rescores.modHome i (k := fun _ h => { h with keptWake := false }) fun _ _ _ _ _ => rfl).comp
      (rescores_pushDirective _)) (G := id) (fun _ _ _ => rfl)

theorem rescores_reoffer : Rescores State.reoffer := by
  intro s f o
  unfold State.reoffer
  generalize allIdx = l
  exact ((Rescores.foldl rescores_reofferEnrol l).comp (Rescores.foldl rescores_reofferWake l)) s f o

theorem rescores_sendIdleHeader : Rescores State.sendIdleHeader := by
  intro s f o
  simp only [State.sendIdleHeader, State.darkSet_rescored]
  exact rescores_startWaiting { s with
    framer := { s.framer with
      header := some
        { round := s.clock.round, idleFill := true, dark := s.darkSet, map := none, directives := [] } } } f o

theorem rescores_beginRound : Rescores State.beginRound := by
  intro s f o
  have clock : (s.rescored f o).clock = s.clock := rfl
  simp only [State.beginRound, clock]
  split
  · exact congrArg State.expectUnmapped
      (rescores_sendIdleHeader ({ s with clock := { s.clock with idleLeft := s.clock.idleLeft - 1 } } : State) f o)
  · rfl

/-- What a boundary's opening does once the counts of the indices have moved. -/
def State.opens (s : State) : State := s.tickSilence.tickAges.tickRing.tickRating.reoffer.beginRound

theorem rescores_opens : Rescores State.opens := by
  intro s f o
  have ages (u : State) : (u.rescored f o).tickAges = u.tickAges.rescored f o := rfl
  simp only [State.opens]
  rw [rescores_tickSilence, ages, rescores_tickRing, rescores_tickRating, rescores_reoffer, rescores_beginRound]

end

end Sys2Proof.Machine

/-! What a boundary still owes: the events of the boundary before, taken until none is due (log 6). -/

namespace Sys2Proof.Machine

open Sys2Proof

variable {s t u : State} {i : HomeIdx} {p : Params}

/-! ### Homes for which nothing is due -/

/-- No wait of the home is over. -/
structure Home.Calm (h : Home) : Prop where
  approval : ∀ p, h.entry.state = .held → h.progress = some p → p.clock ≠ some 4000
  window : h.window = some 0 → h.entry.claim ≠ some .pending
  doze : h.entry.state = .dozing → h.entry.dozeLeft ≠ some 0

theorem Home.calm_of_state {h : Home} (held : h.entry.state ≠ .held) (dozing : h.entry.state ≠ .dozing)
    (window : h.window = none) : h.Calm :=
  ⟨fun _ e => absurd e held, fun e => by simp [window] at e, fun e => absurd e dozing⟩

theorem Home.Calm.probe {h : Home} (c : h.Calm) (b : Bool) :
    Home.Calm { h with entry := { h.entry with probe := b } } :=
  ⟨c.approval, c.window, c.doze⟩

theorem Home.calm_vacant : Home.vacant.Calm := Home.calm_of_state (by decide) (by decide) rfl

theorem Home.calm_retired (e : Entry) (q : RetireReason) : Home.Calm { Home.vacant with entry := e.retired q } :=
  Home.calm_of_state (by simp [Entry.retired]) (by simp [Entry.retired]) rfl

/-- An event of a boundary leaves a calm home calm, and what other blocks owe alone. -/
structure State.Calms (s t : State) : Prop where
  homes : ∀ i, (s.home i).Calm → (t.home i).Calm
  clock : t.clock = s.clock
  setup : t.setup = s.setup
  owed : t.rogue.owed = s.rogue.owed
  live : s.banks.live.isSome → t.banks.live.isSome

theorem State.Calms.refl (s : State) : s.Calms s := ⟨fun _ => id, rfl, rfl, rfl, id⟩

theorem State.Calms.trans (h : s.Calms t) (g : t.Calms u) : s.Calms u :=
  ⟨fun i => g.homes i ∘ h.homes i, g.clock.trans h.clock, g.setup.trans h.setup, g.owed.trans h.owed, g.live ∘ h.live⟩

/-! ### A departure -/

theorem State.endUnresolved_owed (s : State) (why : UnresolvedReason) (round : Round) (steps : Nat)
    (left : List HomeIdx) : (s.endUnresolved why round steps left).rogue.owed = s.rogue.owed := by
  rw [(s.endUnresolved_spec why round steps left).2.1]

theorem State.dropCandidate_owed (s : State) (i : HomeIdx) (round : Round) :
    (s.dropCandidate i round).rogue.owed = s.rogue.owed := by
  unfold State.dropCandidate
  split
  · split
    · dsimp only
      split
      · exact State.endUnresolved_owed ..
      · rfl
    · rfl
  · rfl

theorem State.leaveFor_owed (s : State) (i : HomeIdx) (q : RetireReason) (round : Round) :
    (s.leaveFor i q round).rogue.owed = s.rogue.owed := by
  unfold State.leaveFor State.retire State.vacate
  split
  · rw [State.dropCandidate_owed]
    simp
  · rw [State.dropCandidate_owed]
    simp

theorem State.failEnrolment_owed (s : State) (i : HomeIdx) (q : RetireReason) (why : EnrolReason) (round : Round) :
    (s.failEnrolment i q why round).rogue.owed = s.rogue.owed := by
  rw [State.failEnrolment, State.raise_rogue, State.endEnrolment, State.offerLeave_rogue, State.leaveFor_owed]

theorem State.Departs.calm {q : RetireReason} {l : Option Directive} (h : s.Departs t i q l) :
    (t.home i).Calm ∧ ∀ j, j ≠ i → (s.home j).Calm → (t.home j).Calm := by
  refine ⟨?_, fun j other calm => ?_⟩
  · rw [h.home]
    split
    · exact Home.calm_retired _ q
    · exact Home.calm_vacant
  · rcases h.others j other with same | ⟨_, probe⟩
    · rwa [same]
    · rw [probe]
      exact calm.probe false

theorem State.calms_failEnrolment (hs : (s.entry i).state.inService = false) (q : RetireReason) (why : EnrolReason)
    (round : Round) : s.Calms (s.failEnrolment i q why round) ∧ ((s.failEnrolment i q why round).home i).Calm := by
  have departs := s.departs_failEnrolment i q why round (.inl hs)
  obtain ⟨mine, others⟩ := departs.calm
  refine ⟨⟨fun j calm => ?_, by simp, by simp, s.failEnrolment_owed i q why round, fun live => ?_⟩, mine⟩
  · by_cases e : j = i
    · rwa [e]
    · exact others j e calm
  · have same := congrArg Option.isSome departs.banks.2
    simp only [Option.isSome_map] at same
    exact same.trans live

/-! ### The waits of one home -/

theorem State.calms_expireApproval (s : State) (i : HomeIdx) :
    s.Calms (s.expireApproval i) ∧ ∀ p, ((s.expireApproval i).entry i).state = .held →
      ((s.expireApproval i).home i).progress = some p → p.clock ≠ some 4000 := by
  unfold State.expireApproval
  split
  · rename_i q held progress
    split
    · obtain ⟨calms, calm⟩ := State.calms_failEnrolment (i := i) (by rw [held]; rfl) .lost .noApproval s.clock.round
      exact ⟨calms, calm.approval⟩
    · rename_i early
      refine ⟨.refl s, fun p _ h => ?_⟩
      rw [progress] at h
      rwa [← Option.some.inj h]
  · rename_i none
    exact ⟨.refl s, fun p held progress => absurd progress (none p held)⟩

theorem Home.confirm_calm {h : Home}
    (approval : ∀ p, h.entry.state = .held → h.progress = some p → p.clock ≠ some 4000) :
    (∀ p, h.confirm.entry.state = .held → h.confirm.progress = some p → p.clock ≠ some 4000)
      ∧ (h.confirm.window = some 0 → h.confirm.entry.claim ≠ some .pending) := by
  unfold Home.confirm
  split
  · exact ⟨approval, fun e => by simp at e⟩
  · rename_i early
    exact ⟨approval, fun e f => early ⟨e, f⟩⟩

theorem State.calms_confirm (s : State) (i : HomeIdx) : s.Calms (s.modHome i Home.confirm) := by
  refine ⟨fun j calm => ?_, rfl, rfl, rfl, id⟩
  rw [State.home_modHome]
  split
  · rename_i e
    subst e
    obtain ⟨approval, window⟩ := Home.confirm_calm calm.approval
    refine ⟨approval, window, ?_⟩
    unfold Home.confirm
    split
    · exact calm.doze
    · exact calm.doze
  · exact calm

theorem State.calms_expireDoze (s : State) (i : HomeIdx) : s.Calms (s.expireDoze i) := by
  unfold State.expireDoze
  split
  · rename_i due
    obtain ⟨mine, others, _, frame⟩ := s.wakeHome_spec i
    refine ⟨fun j calm => ?_, by rw [frame], by rw [frame], by rw [frame], fun live => by rwa [frame]⟩
    by_cases e : j = i
    · subst e
      rw [mine]
      exact ⟨fun _ e => by simp [wokenHome] at e, calm.window, fun e => by simp [wokenHome] at e⟩
    · rwa [others j e]
  · exact .refl s

/-- A home whose other waits are not over is calm once its doze is looked at. -/
theorem State.expireDoze_calm
    (approval : ∀ p, (s.entry i).state = .held → (s.home i).progress = some p → p.clock ≠ some 4000)
    (window : (s.home i).window = some 0 → (s.entry i).claim ≠ some .pending) : ((s.expireDoze i).home i).Calm := by
  unfold State.expireDoze
  split
  · rw [(s.wakeHome_spec i).1]
    exact ⟨fun _ e => by simp [wokenHome] at e, window, fun e => by simp [wokenHome] at e⟩
  · rename_i early
    exact ⟨approval, window, fun e f => early ⟨e, f⟩⟩

/-- The waits of one home taken, as a boundary takes them. -/
def State.takeWaits (s : State) (i : HomeIdx) : State := ((s.expireApproval i).modHome i Home.confirm).expireDoze i

theorem State.takeWaits_calm (s : State) (i : HomeIdx) :
    s.Calms (s.takeWaits i) ∧ ((s.takeWaits i).home i).Calm := by
  obtain ⟨calms, approval⟩ := s.calms_expireApproval i
  refine ⟨(calms.trans (State.calms_confirm _ i)).trans (State.calms_expireDoze _ i), ?_⟩
  have home : ((s.expireApproval i).modHome i Home.confirm).home i = ((s.expireApproval i).home i).confirm := by
    rw [State.home_modHome, if_pos rfl]
  obtain ⟨approval, window⟩ := Home.confirm_calm approval
  refine State.expireDoze_calm ?_ ?_
  · rw [State.entry, home]
    exact approval
  · rw [State.entry, home]
    exact window

theorem State.takeWaits_all (l : List HomeIdx) (s : State) :
    s.Calms (l.foldl State.takeWaits s) ∧ ∀ i ∈ l, ((l.foldl State.takeWaits s).home i).Calm := by
  induction l generalizing s with
  | nil => exact ⟨.refl s, fun i hi => absurd hi List.not_mem_nil⟩
  | cons j l ih =>
    obtain ⟨first, mine⟩ := s.takeWaits_calm j
    obtain ⟨rest, others⟩ := ih (s.takeWaits j)
    refine ⟨first.trans rest, fun i hi => ?_⟩
    rcases List.mem_cons.mp hi with rfl | hi
    · exact rest.homes i mine
    · exact others i hi

/-! ### Backoff, ring, epoch and rating -/

theorem State.StartsIsolation.calms {port : Bus} {round : Round} (h : s.StartsIsolation t port round)
    (live : s.banks.live.isSome → t.banks.live.isSome) : s.Calms t := by
  refine ⟨fun i calm => ?_, ?_, ?_, ?_, live⟩
  · by_cases abandoned : (s.entry i).state = .ranging ∨ (s.entry i).state = .testing
    · rw [h.abandoned i abandoned]
      split
      · exact Home.calm_retired _ .lost
      · exact Home.calm_vacant
    · rw [h.muted i (fun e => abandoned (.inl e)) fun e => abandoned (.inr e)]
      exact calm.probe _
  · rw [h.rest]
  · rw [h.rest]
  · rw [h.streaks]

theorem State.startIsolation_live (s : State) (round : Round) (live : s.banks.live.isSome) :
    (s.startIsolation round).banks.live.isSome := by
  have abandon (l : List HomeIdx) (t : State) :
      (l.foldl (fun s i => s.abandon round i) t).banks.live.isSome = t.banks.live.isSome := by
    refine State.foldl_field (fun t => t.banks.live.isSome) (fun t i => ?_) l t
    have departs (out : (t.entry i).state.inService = false) :=
      congrArg Option.isSome (t.departs_failEnrolment i .lost .abandoned round (.inl out)).banks.2
    simp only [Option.isSome_map] at departs
    unfold State.abandon
    split
    · rename_i ranging
      exact departs (by rw [ranging]; rfl)
    · rename_i testing
      exact departs (by rw [testing]; rfl)
    · rfl
  have kept := abandon allIdx (s.bump .isolationRun).clearStreaks
  have begun : (s.bump .isolationRun).clearStreaks.banks.live.isSome = true := live
  rw [begun] at kept
  unfold State.startIsolation
  dsimp only
  generalize allIdx.foldl (fun s i => s.abandon round i) (s.bump .isolationRun).clearStreaks = v at kept ⊢
  split
  · rw [State.endUnresolved_banks]
    exact kept
  · exact kept

theorem State.endBackoff_calms (set : s.setup = some p) :
    s.Calms s.endBackoff ∧ s.endBackoff.rogue.iso ≠ .backoff 0 := by
  unfold State.endBackoff
  split
  · rename_i ended _
    have idle : s.rogue.iso.cands = none := by rw [ended]; rfl
    split
    · have starts := (State.startsIsolation idle s.clock.round).1
      refine ⟨starts.calms (s.startIsolation_live _), ?_⟩
      · rw [starts.iso]
        split <;> simp
    · exact ⟨⟨fun _ => id, rfl, rfl, rfl, id⟩, by simp⟩
  · rename_i none
    exact ⟨.refl s, fun ended => none p ended set⟩

theorem State.advanceRing_calms (live : s.banks.live.isSome) :
    s.Calms s.advanceRing ∧ s.advanceRing.rogue = s.rogue ∧ ∀ r, s.advanceRing.ring = some r → r.due = false := by
  unfold State.advanceRing
  split
  · rename_i r l ring _
    split
    · refine ⟨⟨fun _ => id, rfl, rfl, rfl, id⟩, rfl, fun q next => ?_⟩
      rw [← Option.some.inj next]
      rfl
    · rename_i early
      refine ⟨.refl s, rfl, fun q same => ?_⟩
      rw [ring] at same
      rw [← Option.some.inj same]
      exact Bool.eq_false_iff.mpr early
  · rename_i none
    refine ⟨.refl s, rfl, fun r ring => ?_⟩
    obtain ⟨l, hl⟩ := Option.isSome_iff_exists.mp live
    exact absurd hl (none r l ring)

theorem openingRing_due (other : OtherBank) (closing : Plan) {r : Ring} (h : r.due = false) :
    (openingRing other closing r).1.due = false := by
  have settled : r.settled closing = r := if_neg (ne_true_of_eq_false h)
  unfold openingRing
  split
  · split
    · rw [settled, Ring.fit]
      split
      · split
        · exact h
        · rfl
      · rfl
    · rfl
  · rw [settled]
    exact h

theorem State.expireEpoch_calms (set : s.setup = some p) (long : 0 < p.epoch)
    (ring : ∀ r, s.ring = some r → r.due = false) :
    s.Calms s.expireEpoch ∧ s.expireEpoch.rogue = s.rogue ∧ (∀ r, s.expireEpoch.ring = some r → r.due = false)
      ∧ s.expireEpoch.epochDue = false := by
  unfold State.expireEpoch
  split
  · rename_i due
    split
    · rename_i free
      have live : s.banks.live.isSome := by
        simp only [State.epochDue, Bool.and_eq_true] at due
        exact due.1.1
      obtain ⟨l, live⟩ := Option.isSome_iff_exists.mp live
      obtain ⟨plan, opens⟩ : ∃ plan, s.banks.other.openingPlan l.plan = some plan :=
        Option.isSome_iff_exists.mp ((s.banks.other.openingPlan_isSome l.plan).trans free)
      have banks := State.swap_banks live set opens
      refine ⟨⟨fun i calm => ?_, by simp, by simp, by simp, fun _ => ?_⟩, by simp, fun r opened => ?_, ?_⟩
      · rw [State.swap_home live set opens]
        split
        · exact Home.calm_vacant
        · exact calm
      · rw [banks]
        rfl
      · rw [State.swap_ring live set opens] at opened
        rw [← Option.some.inj opened]
        refine openingRing_due _ _ ?_
        unfold State.closingRing
        cases held : s.ring with
        | none => rfl
        | some r => exact ring r held
      · have timer : (s.swappedBanks l p plan).timer = p.epoch := rfl
        simp [State.epochDue, banks, timer, long.ne']
    · refine ⟨⟨fun i calm => ?_, by simp [State.holdEpoch], by simp [State.holdEpoch], by simp [State.holdEpoch],
        fun live => by simpa [State.holdEpoch] using live⟩, by simp [State.holdEpoch], fun r same => ?_, ?_⟩
      · rwa [State.home_congr (s := s) (by simp [State.holdEpoch])]
      · exact ring r (by simpa [State.holdEpoch] using same)
      · simp [State.holdEpoch, State.epochDue]
  · rename_i early
    exact ⟨.refl s, rfl, ring, Bool.eq_false_iff.mpr early⟩

theorem State.completeRating_calms (s : State) :
    s.Calms s.completeRating ∧ s.completeRating.rogue = s.rogue ∧ s.completeRating.ring = s.ring
      ∧ s.completeRating.epochDue = s.epochDue
      ∧ ∀ b position, s.completeRating.banks.other ≠ .rating b position true := by
  unfold State.completeRating
  split
  · refine ⟨⟨fun i calm => ?_, by simp, by simp, by simp, fun live => by simpa using live⟩, by simp, by simp,
      by simp [State.epochDue], by simp⟩
    rwa [State.home_congr (State.raise_homes ..)]
  · rename_i other
    exact ⟨.refl s, rfl, rfl, rfl, fun b position => other b position⟩

end Sys2Proof.Machine

/-! The opening of a boundary: what is owed is taken, and then every count moves (R78, R145; logs 5, 6, 32). -/

namespace Sys2Proof.Machine

open Sys2Proof

variable {s t u : State} {i : HomeIdx} {p : Params}

/-! ### What is owed -/

theorem takes_append {l m : List Instr} (h : takes s l = .next t) : takes s (l ++ m) = takes t m := by
  induction l generalizing s with
  | nil =>
    cases h
    rfl
  | cons c l ih =>
    rw [List.cons_append]
    cases first : exec c s with
    | next v =>
      simp only [takes, first] at h ⊢
      exact ih h
    | fault f =>
      simp [takes, first] at h
    | refused r =>
      simp [takes, first] at h

theorem takes_waits (l : List HomeIdx) (s : State) :
    takes s (l.flatMap fun i => [.approvalTimeout i, .claimWindowExpiry i, .dozeExpiry i])
      = .next (l.foldl State.takeWaits s) := by
  induction l generalizing s with
  | nil => rfl
  | cons i l ih =>
    have first : takes s [.approvalTimeout i, .claimWindowExpiry i, .dozeExpiry i] = .next (s.takeWaits i) := rfl
    rw [List.flatMap_cons, takes_append first]
    exact ih _

theorem takes_owed (s : State) :
    takes s owedCommands =
      .next ((List.finRange 64).foldl State.takeWaits s.handMap).endBackoff.advanceRing.expireEpoch.completeRating := by
  have map : takes s [.roundBoundary .map] = .next s.handMap := rfl
  rw [owedCommands, List.append_assoc, takes_append map, takes_append (takes_waits _ _)]
  rfl

theorem State.settleDecays_rescored (s : State) : s.settleDecays = s.rescored
    (fun i => if s.rogue.owed.contains i then (s.entry i).score - 1 else (s.entry i).score) [] := by
  refine State.eq_rescored rfl fun i => ?_
  have mine : s.settleDecays.home i =
      if s.rogue.owed.contains i then { s.home i with entry := (s.home i).entry.decayed } else s.home i := by
    simp [State.settleDecays, State.home]
  rw [mine]
  split <;> rfl

/-- Taking the decays that are owed, and then the map, comes to the same as the other order. -/
theorem State.handMap_settleDecays (s : State) : s.handMap.settleDecays = s.settleDecays.handMap := by
  obtain ⟨score, owed⟩ := rescores_handMap.keeps s
  simp only [State.settleDecays_rescored, score, owed, rescores_handMap s]

/-- What is owed is taken by the commands that stand for it. -/
theorem takes_owed_catchUp (s : State) : takes (decaysTaken s) owedCommands = .next s.handMap.catchUp := by
  have decays : decaysTaken s = s.settleDecays := rfl
  rw [takes_owed, decays, ← State.handMap_settleDecays]
  rfl

/-! ### What has been caught up with is settled -/

theorem State.directiveSent_homes (s : State) (d : Directive) :
    s.directiveSent d = { s with homes := (s.directiveSent d).homes } := by
  unfold State.directiveSent
  split
  · rfl
  · split <;> rfl
  · rfl

theorem State.foldl_homes {α : Type} {f : State → α → State}
    (h : ∀ (s : State) a, f s a = { s with homes := (f s a).homes }) (l : List α) (s : State) :
    l.foldl f s = { s with homes := (l.foldl f s).homes } := by
  induction l generalizing s with
  | nil => rfl
  | cons a l ih =>
    have rest (x : Vector Home 64) : { f s a with homes := x } = { s with homes := x } := by rw [h]
    rw [List.foldl_cons]
    exact (ih _).trans (rest _)

theorem State.closeHeader_frame (s : State) (m : TalkMap) :
    s.closeHeader m = { s with
      homes := (s.closeHeader m).homes, framer := (s.closeHeader m).framer
      clock := { s.clock with headerOpen := false } } := by
  unfold State.closeHeader
  dsimp only
  rw [State.startWaiting_frame, State.foldl_homes State.directiveSent_homes]

theorem State.noteMap_frame (s : State) :
    s.noteMap = { s with rogue := { s.rogue with iso := s.noteMap.rogue.iso } } := by
  unfold State.noteMap
  split <;> rfl

theorem State.discoveryDue_frame (s : State) :
    s.discoveryDue = { s with enrol := s.discoveryDue.enrol, counters := s.discoveryDue.counters } := by
  unfold State.discoveryDue
  split
  · split
    · unfold State.decideDiscovery
      dsimp only
      split <;> rfl
    · rfl
  · rfl

/-- The fields that the building of a map leaves alone. -/
theorem State.buildMap_frame (s : State) (p : Params) :
    s.buildMap p = { s with
      homes := (s.buildMap p).homes, planner := (s.buildMap p).planner, enrol := (s.buildMap p).enrol
      framer := (s.buildMap p).framer, counters := (s.buildMap p).counters
      rx := { s.rx with next := (s.buildMap p).rx.next }
      rogue := { s.rogue with iso := (s.buildMap p).rogue.iso }
      clock := { s.clock with firstMap := false, headerOpen := false } } := by
  obtain ⟨enrol, counted, found⟩ : ∃ enrol counters, s.discoveryDue = { s with enrol, counters } :=
    ⟨_, _, s.discoveryDue_frame⟩
  obtain ⟨homes, phase, counters, next, granted⟩ : ∃ homes phase counters next, s.discoveryDue.granting p =
      { s with
        homes, planner := { s.planner with phase }, clock := { s.clock with firstMap := false }
        enrol := { enrol with offered := false }, counters, rx := { s.rx with next } } := by
    rw [found]
    exact ⟨_, _, _, _, State.granting_frame _ p⟩
  obtain ⟨iso, noted⟩ : ∃ iso, (s.discoveryDue.granting p).noteMap =
      { s with
        homes, planner := { s.planner with phase }, clock := { s.clock with firstMap := false }
        enrol := { enrol with offered := false }, counters, rx := { s.rx with next }
        rogue := { s.rogue with iso } } :=
    ⟨_, (congrArg State.noteMap granted).trans (State.noteMap_frame _)⟩
  have built := s.buildMap_eq p
  dsimp only at built
  rw [noted] at built
  have frame := built.trans (State.closeHeader_frame _ _)
  generalize s.buildMap p = t at frame
  rw [frame]

theorem State.handMap_banks (s : State) : s.handMap.banks = s.banks := by
  unfold State.handMap
  split
  · split
    · rw [State.buildMap_frame]
    · rfl
  · rfl

theorem State.handMap_closed (set : s.setup = some p) : s.handMap.clock.headerOpen = false := by
  rw [State.handMap, set]
  dsimp only
  split
  · rw [State.buildMap_frame]
  · rename_i closed
    exact Bool.eq_false_iff.mpr closed

theorem State.catchUp_settled (set : s.setup = some p) (long : 0 < p.epoch) (live : s.banks.live.isSome)
    (closed : s.clock.headerOpen = false) : s.catchUp.Settled ∧ s.catchUp.setup = some p := by
  have waits := s.settleDecays.takeWaits_all allIdx
  have same : s.catchUp =
      (allIdx.foldl State.takeWaits s.settleDecays).endBackoff.advanceRing.expireEpoch.completeRating := rfl
  rw [same]
  have all (i : HomeIdx) : i ∈ allIdx := List.mem_finRange i
  generalize allIdx.foldl State.takeWaits s.settleDecays = a at waits ⊢
  obtain ⟨waited, calm⟩ := waits
  have set_a : a.setup = some p := waited.setup.trans set
  obtain ⟨backed, noBackoff⟩ := a.endBackoff_calms set_a
  have live_b := (waited.trans backed).live live
  obtain ⟨advanced, rogue_c, ring_c⟩ := State.advanceRing_calms live_b
  have set_c := advanced.setup.trans (backed.setup.trans set_a)
  obtain ⟨expired, rogue_d, ring_d, epoch_d⟩ := State.expireEpoch_calms set_c long ring_c
  obtain ⟨completed, rogue_e, ring_e, epoch_e, rating⟩ := a.endBackoff.advanceRing.expireEpoch.completeRating_calms
  have calms := (waited.trans backed).trans ((advanced.trans expired).trans completed)
  have home (i : HomeIdx) := (((backed.trans advanced).trans expired).trans completed).homes i (calm i (all i))
  refine ⟨⟨?_, fun i => (home i).approval, fun i => (home i).window, fun i => (home i).doze, calms.owed, ?_, ?_, ?_,
    rating⟩, calms.setup.trans set⟩
  · rw [calms.clock]
    exact closed
  · rw [rogue_e, rogue_d, rogue_c]
    exact noBackoff
  · rw [ring_e]
    exact ring_d
  · rw [epoch_e, epoch_d]

/-! ### Nothing is owed to a settled part -/

theorem State.Settled.takeWaits (h : s.Settled) (i : HomeIdx) : s.takeWaits i = s := by
  have approval : s.expireApproval i = s := by
    unfold State.expireApproval
    split
    · rename_i q held progress
      exact if_neg (h.approvals i q held progress)
    · rfl
  have window : s.modHome i Home.confirm = s := by
    refine State.modHome_of_fixed ?_
    exact if_neg fun due => h.windows i due.1 due.2
  rw [State.takeWaits, approval, window]
  exact if_neg fun due => h.dozes i due.1 due.2

theorem State.Settled.catchUp (h : s.Settled) : s.catchUp = s := by
  have waits (l : List HomeIdx) : l.foldl State.takeWaits s = s := by
    induction l with
    | nil => rfl
    | cons i l ih => rw [List.foldl_cons, h.takeWaits, ih]
  have backoff : s.endBackoff = s := by
    unfold State.endBackoff
    split
    · rename_i ended _
      exact absurd ended h.backoff
    · rfl
  have ring : s.advanceRing = s := by
    unfold State.advanceRing
    split
    · rename_i r l ring _
      exact if_neg (ne_true_of_eq_false (h.ring r ring))
    · rfl
  have epoch : s.expireEpoch = s := if_neg (ne_true_of_eq_false h.epoch)
  have rating : s.completeRating = s := by
    unfold State.completeRating
    split
    · rename_i b position other
      exact absurd other (h.rating b position)
    · rfl
  have same : s.catchUp =
      (allIdx.foldl State.takeWaits s.settleDecays).endBackoff.advanceRing.expireEpoch.completeRating := rfl
  rw [same, s.settleDecays_of_none h.decays, waits, backoff, ring, epoch, rating]

/-- The opening of a settled part: its counts move, and a header goes out or opens. -/
theorem State.Settled.openBoundary (h : s.Settled) (set : s.setup = some p) (hold : List HomeIdx) :
    s.openBoundary hold = (s.endFrame.tickCounts hold).beginRound := by
  have map : s.handMap = s := by
    rw [State.handMap, set]
    exact if_neg (ne_true_of_eq_false h.header)
  rw [State.openBoundary, set]
  dsimp only
  rw [map, h.catchUp]

/-- The opening of a part takes what is owed, and is then that of a settled part. -/
theorem State.openBoundary_catchUp (set : s.setup = some p) (long : 0 < p.epoch) (live : s.banks.live.isSome) :
    s.handMap.catchUp.Settled ∧ ∀ hold, s.openBoundary hold = s.handMap.catchUp.openBoundary hold := by
  obtain ⟨settled, set'⟩ := s.handMap.catchUp_settled ((State.handMap_setup s).trans set) long
    (by rwa [State.handMap_banks]) (State.handMap_closed set)
  refine ⟨settled, fun hold => ?_⟩
  rw [settled.openBoundary set', State.openBoundary, set]

end Sys2Proof.Machine

/-! The directives that wait for the queue join it at a boundary, as far as there is room (R28, R80; log 13). -/

namespace Sys2Proof.Machine

open Sys2Proof

variable {s t u : State} {i : HomeIdx} {p : Params}

/-! ### One directive for each home that has one -/

/-- The directive is a Set delay of the home. -/
def Directive.delays (d : Directive) (i : HomeIdx) : Bool :=
  match d with
  | .setDelay j _ => j == i
  | _ => false

/-- A home whose correction marker is queued. -/
def Home.marked (h : Home) (b : Bool) : Home := { h with marker := if b then .queued else h.marker }

theorem Home.marked_marked (h : Home) (a b : Bool) : (h.marked a).marked b = h.marked (a || b) := by
  cases a <;> cases b <;> rfl

theorem State.home_pushDirective (s : State) (d : Directive) (i : HomeIdx) :
    (s.pushDirective d).home i = (s.home i).marked (d.delays i) := by
  cases d with
  | setDelay j n =>
    have same : (s.pushDirective (.setDelay j n)).home i
        = (s.modHome j fun h => { h with marker := .queued }).home i := rfl
    rw [same, State.home_modHome]
    by_cases e : i = j
    · simp [Home.marked, Directive.delays, e]
    · simp [Home.marked, Directive.delays, e, Ne.symm e]
  | assign _ _ | leaveIndex _ | leaveTag _ | dozeGranted _ _ | wake _ => rfl

section

variable (slot : HomeIdx → Home → Option Directive) (clear : Home → Home)

/-- The directive that a home holds back joins the queue where there is room. -/
def State.rejoin (s : State) (i : HomeIdx) : State :=
  match slot i (s.home i) with
  | some d => if s.dirRoom then (s.modHome i clear).pushDirective d else s
  | none => s

/-- The directives that homes hold back, in the order of the homes. -/
def State.heldBack (s : State) (l : List HomeIdx) : List Directive := l.filterMap fun i => slot i (s.home i)

variable {slot} in
theorem State.heldBack_cons_none {l : List HomeIdx} (h : slot i (s.home i) = none) :
    State.heldBack slot s (i :: l) = State.heldBack slot s l :=
  List.filterMap_cons_none h

variable {slot} in
theorem State.heldBack_cons_some {l : List HomeIdx} {d : Directive} (h : slot i (s.home i) = some d) :
    State.heldBack slot s (i :: l) = d :: State.heldBack slot s l :=
  List.filterMap_cons_some h

/-- What rejoining leaves of a part: the first of the held directives have joined, and the rest are held on. -/
structure State.Rejoined (l : List HomeIdx) (s t : State) (joined kept : List Directive) : Prop where
  homes : ∀ i, ∃ h, (h = s.home i ∨ h = clear (s.home i)) ∧ t.home i = h.marked (joined.any fun d => d.delays i)
  others : ∀ i, i ∉ l → t.home i = (s.home i).marked (joined.any fun d => d.delays i)
  kept : State.heldBack slot t l = kept
  rest : t = { s with homes := t.homes, framer := { s.framer with queue := s.framer.queue ++ joined } }

variable {slot clear}
variable (cleared : ∀ i h, slot i (clear h) = none) (markedSlot : ∀ i h b, slot i (h.marked b) = slot i h)
  (markedClear : ∀ h b, clear (h.marked b) = (clear h).marked b)
include cleared markedSlot markedClear

theorem State.rejoin_all {l : List HomeIdx} (nodup : l.Nodup) (s : State) :
    State.Rejoined slot clear l s (l.foldl (State.rejoin slot clear) s)
      ((State.heldBack slot s l).take (32 - s.framer.queue.length))
      ((State.heldBack slot s l).drop (32 - s.framer.queue.length)) := by
  induction l generalizing s with
  | nil =>
    refine ⟨fun i => ⟨_, .inl rfl, ?_⟩, fun i _ => ?_, ?_, ?_⟩ <;> simp [Home.marked, State.heldBack]
  | cons j l ih =>
    obtain ⟨fresh, nodup⟩ := List.nodup_cons.mp nodup
    rw [List.foldl_cons]
    cases held : slot j (s.home j) with
    | none =>
      have same : s.rejoin slot clear j = s := by rw [State.rejoin, held]
      rw [same]
      obtain ⟨homes, others, kept, rest⟩ := ih nodup s
      have mine : slot j ((l.foldl (State.rejoin slot clear) s).home j) = none := by
        rw [others j fresh, markedSlot, held]
      rw [State.heldBack_cons_none held]
      refine ⟨homes, fun i out => others i fun hi => out (List.mem_cons_of_mem j hi), ?_, rest⟩
      rw [State.heldBack_cons_none mine, kept]
    | some d =>
      rw [State.heldBack_cons_some held]
      by_cases room : s.framer.queue.length < 32
      · have same : s.rejoin slot clear j = (s.modHome j clear).pushDirective d := by
          rw [State.rejoin, held]
          exact if_pos (decide_eq_true room)
        have home (i : HomeIdx) : (s.rejoin slot clear j).home i =
            (if i = j then clear (s.home i) else s.home i).marked (d.delays i) := by
          rw [same, State.home_pushDirective, State.home_modHome]
          by_cases e : i = j <;> simp [e]
        have queue : (s.rejoin slot clear j).framer = { s.framer with queue := s.framer.queue ++ [d] } := by
          rw [same]
          cases d <;> rfl
        have frame : s.rejoin slot clear j = { s with
            homes := (s.rejoin slot clear j).homes, framer := { s.framer with queue := s.framer.queue ++ [d] } } := by
          rw [same]
          cases d <;> rfl
        have slots : State.heldBack slot (s.rejoin slot clear j) l = State.heldBack slot s l := by
          refine List.filterMap_congr fun i hi => ?_
          rw [home, if_neg (ne_of_mem_of_not_mem hi fresh), markedSlot]
        have left : 32 - s.framer.queue.length = 32 - (s.rejoin slot clear j).framer.queue.length + 1 := by
          rw [queue]
          simp
          omega
        obtain ⟨homes, others, kept, rest⟩ := ih nodup (s.rejoin slot clear j)
        rw [slots] at homes others kept rest
        rw [left, List.take_succ_cons, List.drop_succ_cons]
        generalize l.foldl (State.rejoin slot clear) (s.rejoin slot clear j) = t at homes others kept rest ⊢
        generalize (State.heldBack slot s l).take _ = joined at homes others rest ⊢
        have mine : slot j (t.home j) = none := by
          rw [others j fresh, markedSlot, home, if_pos rfl, markedSlot, cleared]
        refine ⟨fun i => ?_, fun i out => ?_, ?_, ?_⟩
        · obtain ⟨h, form, hi⟩ := homes i
          rw [home] at form
          by_cases e : i = j
          · subst e
            rw [others i fresh, home, if_pos rfl, Home.marked_marked]
            exact ⟨_, .inr rfl, by rw [List.any_cons]⟩
          · rw [if_neg e] at form
            rcases form with rfl | rfl
            · refine ⟨_, .inl rfl, ?_⟩
              rw [hi, Home.marked_marked, List.any_cons]
            · refine ⟨_, .inr rfl, ?_⟩
              rw [hi, markedClear, Home.marked_marked, List.any_cons]
        · rw [others i fun hi => out (List.mem_cons_of_mem j hi), home, if_neg (List.ne_of_not_mem_cons out),
            Home.marked_marked, List.any_cons]
        · rw [State.heldBack_cons_none mine, kept]
        · generalize s.rejoin slot clear j = v at frame rest
          rw [rest, frame]
          simp
      · have same : s.rejoin slot clear j = s := by
          rw [State.rejoin, held]
          exact if_neg (by simpa [State.dirRoom] using room)
        have full : 32 - s.framer.queue.length = 0 := by omega
        rw [same]
        obtain ⟨homes, others, kept, rest⟩ := ih nodup s
        rw [full] at homes others kept rest ⊢
        have mine : slot j ((l.foldl (State.rejoin slot clear) s).home j) = some d := by
          rw [others j fresh, markedSlot, held]
        refine ⟨homes, fun i out => others i fun hi => out (List.mem_cons_of_mem j hi), ?_, rest⟩
        rw [State.heldBack_cons_some mine, kept]
        rfl

end

/-! ### Enrolment's directives, then the kept Wakes -/

def enrolSlot (_ : HomeIdx) (h : Home) : Option Directive := h.progress.bind (·.waiting)

def Home.waitCleared (h : Home) : Home := { h with progress := h.progress.map fun p => { p with waiting := none } }

def wakeSlot (i : HomeIdx) (h : Home) : Option Directive := if h.keptWake then some (.wake i) else none

def Home.wakeCleared (h : Home) : Home := { h with keptWake := false }

theorem State.reofferEnrol_eq (s : State) (i : HomeIdx) :
    s.reofferEnrol i = s.rejoin enrolSlot Home.waitCleared i := by
  unfold State.reofferEnrol State.rejoin enrolSlot
  cases s.home i |>.progress with
  | none => rfl
  | some p =>
    cases h : p.waiting with
    | none => simp [h]
    | some d =>
      simp only [h, Option.bind_some]
      rfl

theorem State.reofferWake_eq (s : State) (i : HomeIdx) :
    s.reofferWake i = s.rejoin wakeSlot Home.wakeCleared i := by
  unfold State.reofferWake State.rejoin wakeSlot
  cases (s.home i).keptWake with
  | false => rfl
  | true =>
    simp only [Bool.true_and, if_true]
    rfl

theorem State.waitingDirectives_eq (s : State) : s.waitingDirectives =
    State.heldBack enrolSlot s allIdx ++ State.heldBack wakeSlot s allIdx := rfl

/-- What the boundary's offer leaves: the first waiting directives have joined, the others wait on. -/
theorem State.reoffer_spec (s : State) :
    let room := 32 - s.framer.queue.length
    let offered := s.waitingDirectives.take room
    (∀ i, ∃ progress keptWake, s.reoffer.home i =
        { s.home i with progress, keptWake, marker := if offered.any fun d => d.delays i then .queued
                                                      else (s.home i).marker }
        ∧ (progress.map fun q => { q with waiting := none })
          = (s.home i).progress.map fun q => { q with waiting := none })
      ∧ s.reoffer.waitingDirectives = s.waitingDirectives.drop room
      ∧ s.reoffer = { s with
          homes := s.reoffer.homes, framer := { s.framer with queue := s.framer.queue ++ offered } } := by
  intro room offered
  have first := State.rejoin_all (slot := enrolSlot) (clear := Home.waitCleared)
    (fun _ h => by cases e : h.progress <;> simp [enrolSlot, Home.waitCleared, e]) (fun _ _ _ => rfl)
    (fun _ _ => rfl) (l := allIdx) (List.nodup_finRange 64) s
  have folds : s.reoffer =
      allIdx.foldl (State.rejoin wakeSlot Home.wakeCleared)
        (allIdx.foldl (State.rejoin enrolSlot Home.waitCleared) s) := by
    have enrol : State.reofferEnrol = State.rejoin enrolSlot Home.waitCleared :=
      funext fun s => funext fun i => s.reofferEnrol_eq i
    have wake : State.reofferWake = State.rejoin wakeSlot Home.wakeCleared :=
      funext fun s => funext fun i => s.reofferWake_eq i
    rw [State.reoffer, enrol, wake]
  have second := State.rejoin_all (slot := wakeSlot) (clear := Home.wakeCleared) (fun _ _ => rfl) (fun _ _ _ => rfl)
    (fun _ _ => rfl) (l := allIdx) (List.nodup_finRange 64) (allIdx.foldl (State.rejoin enrolSlot Home.waitCleared) s)
  rw [← folds] at second
  generalize allIdx.foldl (State.rejoin enrolSlot Home.waitCleared) s = v at first second
  generalize s.reoffer = t at second ⊢
  obtain ⟨homes₁, -, kept₁, rest₁⟩ := first
  obtain ⟨homes₂, -, kept₂, rest₂⟩ := second
  have wakes : State.heldBack wakeSlot v allIdx = State.heldBack wakeSlot s allIdx := by
    refine List.filterMap_congr fun i _ => ?_
    obtain ⟨h, form, hi⟩ := homes₁ i
    rw [hi]
    rcases form with rfl | rfl <;> rfl
  have enrols : State.heldBack enrolSlot t allIdx = State.heldBack enrolSlot v allIdx := by
    refine List.filterMap_congr fun i _ => ?_
    obtain ⟨h, form, hi⟩ := homes₂ i
    rw [hi]
    rcases form with rfl | rfl <;> rfl
  have queue : v.framer.queue = s.framer.queue ++
      (State.heldBack enrolSlot s allIdx).take room := by rw [rest₁]
  rw [wakes] at homes₂ kept₂ rest₂
  clear wakes
  have all := s.waitingDirectives_eq
  have all_t := t.waitingDirectives_eq
  rw [enrols, kept₁, kept₂] at all_t
  have quiet (i : HomeIdx) : ∀ d ∈ State.heldBack wakeSlot s allIdx, d.delays i = false := by
    intro d hd
    obtain ⟨j, -, hj⟩ := List.mem_filterMap.mp hd
    unfold wakeSlot at hj
    split at hj
    · rw [← Option.some.inj hj]
      rfl
    · cases hj
  generalize State.heldBack enrolSlot s allIdx = enrol at *
  generalize State.heldBack wakeSlot s allIdx = wake at *
  have left : 32 - v.framer.queue.length = room - enrol.length := by
    rw [queue]
    simp [room]
    omega
  have joins : offered = enrol.take room ++ wake.take (room - enrol.length) := by
    simp only [offered, all, List.take_append]
  rw [left] at homes₂ all_t rest₂
  refine ⟨fun i => ?_, ?_, ?_⟩
  · obtain ⟨g, form₁, hv⟩ := homes₁ i
    obtain ⟨h, form₂, ht⟩ := homes₂ i
    have silent (n : Nat) : ((wake.take n).any fun d => d.delays i) = false :=
      List.any_eq_false.mpr fun d hd => ne_true_of_eq_false (quiet i d (List.mem_of_mem_take hd))
    rw [silent] at ht
    rw [joins, List.any_append, silent, Bool.or_false, ht]
    refine ⟨h.progress, h.keptWake, ?_, ?_⟩
    · rw [hv] at form₂
      rcases form₁ with rfl | rfl <;> rcases form₂ with rfl | rfl <;> rfl
    · have clears (g : Option Progress) : ((g.map fun q => { q with waiting := none }).map
          fun q => { q with waiting := none }) = g.map fun q => { q with waiting := none } := by
        cases g <;> rfl
      rw [hv] at form₂
      rcases form₁ with rfl | rfl <;> rcases form₂ with rfl | rfl
      · rfl
      · rfl
      · exact clears _
      · exact clears _
  · rw [all_t, all, List.drop_append]
  · rw [rest₁] at rest₂
    rw [rest₂, joins, ← List.append_assoc]
end Sys2Proof.Machine

/-! The opening of a settled part, field by field, and what becomes of a decay that is held back (R78, R120; log 32). -/

namespace Sys2Proof.Machine

open Sys2Proof

variable {s t u v : State} {i : HomeIdx} {p : Params}

/-! ### The counts of the indices, and the rest of the opening -/

/-- The part once the counts of its indices, the clock, the backoff, the timer and the receiver have moved. -/
def State.counted (s : State) (hold : List HomeIdx) : State :=
  let decay := decide ((s.clock.round + 1).toNat % 64 = 0)
  { s with
    clock := { s.clock with round := s.clock.round + 1 }
    homes := s.homes.mapFinIdx fun i h hi => Home.tick h s.probing (decay && !hold.contains ⟨i, hi⟩)
    rogue := { s.rogue with iso := s.rogue.iso.tick, owed := if decay then hold else [] }
    banks := { s.banks with timer := down s.banks.timer }
    rx := Receiver.shift s.rx }

theorem State.Settled.openBoundary_eq (h : s.Settled) (set : s.setup = some p) (hold : List HomeIdx) :
    s.openBoundary hold = (s.endFrame.counted hold).opens := h.openBoundary set hold

theorem State.home_counted (s : State) (hold : List HomeIdx) (i : HomeIdx) : (s.counted hold).home i =
    (s.home i).tick s.probing (decide ((s.clock.round + 1).toNat % 64 = 0) && !hold.contains i) := by
  simp [State.counted, State.home]

/-- To hold decays back changes the scores, and which decays are owed. -/
theorem State.counted_rescored (s : State) (hold : List HomeIdx) :
    s.counted hold = (s.counted []).rescored
      (fun i => if i ∈ hold then (s.entry i).score else ((s.counted []).entry i).score)
      (if decide ((s.clock.round + 1).toNat % 64 = 0) then hold else []) := by
  refine State.eq_rescored rfl fun i => ?_
  rw [State.entry, State.home_counted, State.home_counted]
  by_cases held : i ∈ hold
  · have kept : hold.contains i = true := List.contains_iff_mem.mpr held
    simp only [if_pos held, kept]
    cases decide ((s.clock.round + 1).toNat % 64 = 0) <;> rfl
  · have free : hold.contains i = false := Bool.eq_false_iff.mpr (mt List.contains_iff_mem.mp held)
    have score : ((s.counted []).entry i).score =
        ((s.home i).tick s.probing (decide ((s.clock.round + 1).toNat % 64 = 0) && !false)).entry.score := by
      rw [State.entry, State.home_counted]
      rfl
    simp only [if_neg held, free, score]
    rfl

/-- Holding decays back changes the scores that the opening leaves, and nothing else. -/
theorem State.opens_holding (s : State) (hold : List HomeIdx) :
    (s.counted hold).opens = ((s.counted []).opens).rescored
      (fun i => if i ∈ hold then (s.entry i).score else (((s.counted []).opens).entry i).score)
      (if decide ((s.clock.round + 1).toNat % 64 = 0) then hold else []) := by
  rw [State.counted_rescored, rescores_opens]
  simp only [(rescores_opens.keeps _).1]

/-! ### Ages, ring and rating -/

theorem State.tickRating_sound (s : State) :
    s.tickRating = { s with
      banks := { s.banks with other := s.tickRating.banks.other }, counters := s.tickRating.counters } := by
  unfold State.tickRating
  split
  · split
    · rfl
    · split
      · rfl
      · dsimp only
        split <;> split <;> rfl
  · rfl

/-- Rating looks at the bank that is not Live, and at the counters. -/
theorem State.tickRating_congr (banks : t.banks.other = s.banks.other) (counters : t.counters = s.counters) :
    t.tickRating.banks.other = s.tickRating.banks.other ∧ t.tickRating.counters = s.tickRating.counters := by
  have bump {v w : State} (same : v.counters = w.counters) (c : Counter) :
      (v.bump c).counters = (w.bump c).counters := by
    simp only [State.bump, State.counter, same]
  unfold State.tickRating
  rw [banks]
  split
  · split
    · exact ⟨rfl, counters⟩
    · split
      · exact ⟨rfl, counters⟩
      · dsimp only
        split <;> split <;> refine ⟨rfl, ?_⟩
        · exact bump (bump counters _) _
        · exact bump counters _
        · exact bump counters _
        · exact counters
  · exact ⟨banks, counters⟩

/-- The band ring after a boundary: the segment goes on, or an advance falls due. -/
def ringTicked : Option Ring → Option LiveBank → Option Ring
  | some r, some l => some (r.tick l.plan)
  | r, _ => r

theorem State.tickRing_eq (s : State) : s.tickRing = { s with ring := ringTicked s.ring s.banks.live } := by
  unfold State.tickRing
  split
  · rename_i r l ring live
    rw [ring, live]
    rfl
  · rename_i absent
    have same : ringTicked s.ring s.banks.live = s.ring := by
      unfold ringTicked
      split
      · rename_i r l ring live
        exact absurd live (absent r l ring)
      · rfl
    rw [same]

/-- The ages, the ring and the rating of an opening. -/
theorem State.aged_eq (v : State) :
    v.tickSilence.tickAges.tickRing.tickRating = { v with
      framer := { v.framer with
        silenceAge := if v.framer.silence then v.framer.silenceAge + 1 else v.framer.silenceAge }
      light := { v.light with lossAge := if v.light.loss then v.light.lossAge + 1 else v.light.lossAge }
      rogue := { v.rogue with alarmAge := if v.rogue.alarm then v.rogue.alarmAge + 1 else v.rogue.alarmAge }
      ring := ringTicked v.ring v.banks.live
      banks := { v.banks with other := v.tickRating.banks.other }
      counters := v.tickRating.counters } := by
  have silent : v.tickSilence = { v with framer := { v.framer with
      silenceAge := if v.framer.silence then v.framer.silenceAge + 1 else v.framer.silenceAge } } := by
    unfold State.tickSilence
    split <;> rfl
  have ring : v.tickSilence.tickAges.tickRing =
      { v.tickSilence.tickAges with ring := ringTicked v.ring v.banks.live } := by
    rw [State.tickRing_eq, silent]
    rfl
  obtain ⟨other, counters⟩ := State.tickRating_congr (s := v) (t := v.tickSilence.tickAges.tickRing)
    (by rw [ring, silent]; rfl) (by rw [ring, silent]; rfl)
  rw [State.tickRating_sound, other, counters, ring, silent]
  rfl

/-! ### The header -/

theorem State.darkSet_of_entries
    (same : ∀ i, (t.entry i).state = (s.entry i).state ∧ (t.entry i).probe = (s.entry i).probe) :
    t.darkSet = s.darkSet := by
  simp only [State.darkSet, (same _).1, (same _).2]

/-- A round begins with its idle-fill header, or opens a mapped one. -/
theorem State.beginRound_eq (idle : s.framer.sending = none) (closed : s.clock.headerOpen = false)
    (next : s.rx.next = none) :
    s.beginRound = { s with
      clock := { s.clock with
        idleLeft := s.clock.idleLeft - 1, headerOpen := !decide (0 < s.clock.idleLeft) }
      framer := { s.framer with
        sending := if decide (0 < s.clock.idleLeft) then s.framer.waiting else none
        waiting := if decide (0 < s.clock.idleLeft) then none else s.framer.waiting
        header := if decide (0 < s.clock.idleLeft) then
            some { round := s.clock.round, idleFill := true, dark := s.darkSet, map := none, directives := [] }
          else s.framer.header }
      rx := { s.rx with
        next := if decide (0 < s.clock.idleLeft) then
            some { round := s.clock.round + 1, map := none, spanGood := false, cutOff := false }
          else none } } := by
  by_cases fill : 0 < s.clock.idleLeft
  · rw [State.beginRound, if_pos fill]
    simp only [fill, decide_true, if_true]
    have frame (w : State) : w.sendIdleHeader = { w with framer := w.sendIdleHeader.framer } :=
      State.startWaiting_frame _
    have framer := State.sendIdleHeader_framer
      (s := { s with clock := { s.clock with idleLeft := s.clock.idleLeft - 1 } }) (dark := s.darkSet) rfl
    rw [State.expectUnmapped, frame, framer]
    simp only [idle, closed, if_true, Bool.not_true]
  · have last : s.clock.idleLeft = 0 := by omega
    rw [State.beginRound, if_neg fill]
    simp only [last, Nat.lt_irrefl, decide_false, Bool.not_false, Bool.false_eq_true, if_false]
    have framer : s.framer = { s.framer with sending := none } := by rw [← idle]
    have rx : s.rx = { s.rx with next := none } := by rw [← next]
    rw [← framer, ← rx]

/-! ### The opening, field by field -/

/-- What an opening does once the counts of the indices have moved. -/
theorem State.opens_eq (idle : v.framer.sending = none) (closed : v.clock.headerOpen = false)
    (next : v.rx.next = none) :
    let idleFill := decide (0 < v.clock.idleLeft)
    let aged := v.tickSilence.tickAges.tickRing.tickRating
    v.opens = { v with
      clock := { v.clock with idleLeft := v.clock.idleLeft - 1, headerOpen := !idleFill }
      homes := aged.reoffer.homes
      framer := { v.framer with
        queue := aged.reoffer.framer.queue
        silenceAge := if v.framer.silence then v.framer.silenceAge + 1 else v.framer.silenceAge
        sending := if idleFill then v.framer.waiting else none
        waiting := if idleFill then none else v.framer.waiting
        header := if idleFill then
            some { round := v.clock.round, idleFill := true, dark := aged.reoffer.darkSet, map := none
                   directives := [] }
          else v.framer.header }
      rx := { v.rx with
        next := if idleFill then some { round := v.clock.round + 1, map := none, spanGood := false, cutOff := false }
                else none }
      light := { v.light with lossAge := if v.light.loss then v.light.lossAge + 1 else v.light.lossAge }
      rogue := { v.rogue with alarmAge := if v.rogue.alarm then v.rogue.alarmAge + 1 else v.rogue.alarmAge }
      ring := ringTicked v.ring v.banks.live
      banks := { v.banks with other := v.tickRating.banks.other }
      counters := v.tickRating.counters } := by
  intro idleFill aged
  obtain ⟨-, -, frame⟩ := aged.reoffer_spec
  have form : aged = _ := v.aged_eq
  have sent : aged.reoffer.framer.sending = none := by rw [frame, form]; exact idle
  have shut : aged.reoffer.clock.headerOpen = false := by rw [frame, form]; exact closed
  have free : aged.reoffer.rx.next = none := by rw [frame, form]; exact next
  have opens : v.opens = aged.reoffer.beginRound := rfl
  rw [opens, State.beginRound_eq sent shut free]
  generalize aged.reoffer = w at frame ⊢
  rw [frame]
  generalize aged.waitingDirectives.take _ = offered
  generalize (_ : State).darkSet = dark
  rw [form]

end Sys2Proof.Machine

/-! The whole opening of a boundary (O41), and the idle fill that ends with the first map (O44). -/

namespace Sys2Proof.Machine

open Sys2Proof

variable {s t u v : State} {i : HomeIdx} {p : Params}

theorem Receiver.arrivingWindows_eq (rx : Receiver) :
    (rx.arriving.map RoundExp.windows).getD [] = ((rx.arriving.bind (·.map)).map (·.windows)).getD [] := by
  cases rx.arriving <;> rfl

theorem Isolation.tick_eq (iso : Isolation) :
    iso.tick = match iso with
      | .backoff n => .backoff (n - 1)
      | other => other := by
  cases iso <;> rfl

/-- A home as the boundary's counts leave it. -/
theorem Home.tick_eq (h : Home) (probing decay : Bool) :
    h.tick probing decay = { h with
      entry := { h.entry with
        dozeLeft := if h.entry.state = .dozing then h.entry.dozeLeft.map (· - 1) else h.entry.dozeLeft
        score := if decay then h.entry.score - 1 else h.entry.score }
      window := if h.entry.claim = some .pending then h.window.map (· - 1) else h.window
      progress := (h.tick probing decay).progress } := rfl

theorem Home.tick_waitCleared (h : Home) (probing decay : Bool) :
    ((h.tick probing decay).progress.map fun q => { q with waiting := none }) = h.progress.map fun q => { q with
      waiting := none
      clock :=
        if h.entry.state = .held ∧ probing = false then q.clock.map fun c => min (c + 1) 4000 else q.clock } := by
  have form : (h.tick probing decay).progress =
      if h.entry.state = .held ∧ probing = false then
        h.progress.map fun p => { p with clock := p.clock.map fun c => min (c + 1) 4000 }
      else h.progress := rfl
  rw [form]
  cases h.progress <;> split_ifs <;> rfl

theorem State.waitingDirectives_of_slots (enrol : ∀ i, enrolSlot i (t.home i) = enrolSlot i (s.home i))
    (wake : ∀ i, wakeSlot i (t.home i) = wakeSlot i (s.home i)) : t.waitingDirectives = s.waitingDirectives := by
  simp only [State.waitingDirectives_eq, State.heldBack, enrol, wake]

theorem Home.tick_enrolSlot (h : Home) (probing decay : Bool) (i : HomeIdx) :
    enrolSlot i (h.tick probing decay) = enrolSlot i h := by
  have form : (h.tick probing decay).progress =
      if h.entry.state = .held ∧ probing = false then
        h.progress.map fun p => { p with clock := p.clock.map fun c => min (c + 1) 4000 }
      else h.progress := rfl
  rw [enrolSlot, enrolSlot, form]
  cases h.progress <;> split_ifs <;> rfl

/-- What the opening of a settled part makes of its homes, and of the directives that wait. -/
theorem State.reoffer_counted (s : State) :
    let aged := (s.endFrame.counted []).tickSilence.tickAges.tickRing.tickRating
    let room := 32 - s.framer.queue.length
    let offered := s.waitingDirectives.take room
    (∀ i, ∃ progress keptWake,
        aged.reoffer.home i =
          { (s.home i).tick s.probing (decide ((s.clock.round + 1).toNat % 64 = 0)) with
            progress, keptWake, marker := if offered.any fun d => d.delays i then .queued else (s.home i).marker }
        ∧ (progress.map fun q => { q with waiting := none })
          = ((s.home i).tick s.probing (decide ((s.clock.round + 1).toNat % 64 = 0))).progress.map
              fun q => { q with waiting := none })
      ∧ aged.reoffer.waitingDirectives = s.waitingDirectives.drop room
      ∧ aged.reoffer.framer.queue = s.framer.queue ++ offered ∧ aged.reoffer.darkSet = s.darkSet := by
  intro aged room offered
  obtain ⟨homes, waiting, frame⟩ := aged.reoffer_spec
  have form : aged = _ := (s.endFrame.counted []).aged_eq
  have queue : aged.framer.queue = s.framer.queue := by rw [form]; rfl
  have home (i : HomeIdx) :
      aged.home i = (s.home i).tick s.probing (decide ((s.clock.round + 1).toNat % 64 = 0)) := by
    have same : aged.home i = (s.endFrame.counted []).home i := State.home_congr (by rw [form]) i
    rw [same, State.home_counted]
    simp only [List.contains_nil, Bool.not_false, Bool.and_true]
    rfl
  have held : aged.waitingDirectives = s.waitingDirectives := by
    refine State.waitingDirectives_of_slots (fun i => ?_) fun i => ?_
    · rw [home, Home.tick_enrolSlot]
    · rw [home]
      rfl
  simp only [queue, held, home] at homes waiting frame
  refine ⟨homes, waiting, by rw [frame], State.darkSet_of_entries fun i => ?_⟩
  obtain ⟨progress, keptWake, hi, -⟩ := homes i
  rw [State.entry, hi]
  exact ⟨rfl, rfl⟩

/-- Settles O41: the parts of a boundary in order; what is owed is taken by its commands (`takes_owed_catchUp`) and
leaves a settled part; there the opening is `State.opens_eq`, and decays held back change scores alone
(`State.opens_holding`). -/
theorem boundaryOpeningMovesCounts : Obligations.BoundaryOpeningMovesCounts := by
  refine ⟨fun s t h => ?_, fun s p set long live => ?_, fun s l unset => ?_, fun s l set settled => ?_,
    fun s p set settled => ?_⟩
  · cases h
    rfl
  · obtain ⟨settled, same⟩ := State.openBoundary_catchUp set long live
    exact ⟨_, takes_owed_catchUp s, settled,
      fun l => ⟨congrArg Host.Outcome.next (same []), congrArg Host.Outcome.next (same l)⟩⟩
  · have same (hold : List HomeIdx) : s.openBoundary hold = s.tickSilence.sendIdleHeader := by
      rw [State.openBoundary, unset]
    exact congrArg Host.Outcome.next ((same l).trans (same []).symm)
  · intro decay
    obtain ⟨p, set⟩ := Option.isSome_iff_exists.mp set
    have holding := s.endFrame.opens_holding l
    rw [← settled.openBoundary_eq set, ← settled.openBoundary_eq set] at holding
    have none_owed : (s.openBoundary []).rogue.owed = [] := by
      rw [settled.openBoundary_eq set, (rescores_opens.keeps _).2]
      exact ite_self _
    refine ⟨_, _, rfl, rfl, ?_, ?_, fun i => ?_⟩
    · rw [holding]
      rfl
    · rw [holding]
      rfl
    · rw [holding, State.home_rescored]
      rfl
  · intro round room offered idleFill started
    have opening : exec (.roundBoundary .opening) s = .next (s.endFrame.counted []).opens :=
      congrArg Host.Outcome.next (settled.openBoundary_eq set [])
    have eq := State.opens_eq (v := s.endFrame.counted []) rfl settled.header rfl
    obtain ⟨homes, waiting, queue, dark⟩ := s.reoffer_counted
    dsimp only at eq
    generalize (s.endFrame.counted []).tickSilence.tickAges.tickRing.tickRating.reoffer = aged at *
    rw [dark, queue] at eq
    have rated := State.tickRating_congr (s := s) (t := s.endFrame.counted []) rfl rfl
    rw [rated.1, rated.2] at eq
    generalize (s.endFrame.counted []).opens = t at opening eq
    have kept : t.homes = aged.homes := by rw [eq]
    refine ⟨t, opening, by rw [eq]; rfl, fun i => ?_, ?_, by rw [eq]; rfl, ?_, by rw [eq]; rfl, ?_, ?_, ?_, ?_, ?_⟩
    · obtain ⟨progress, keptWake, hi, cleared⟩ := homes i
      rw [(State.home_congr kept i).trans hi]
      refine ⟨?_, cleared.trans (Home.tick_waitCleared ..)⟩
      rw [Home.tick_eq]
      simp only [decide_eq_true_eq]
      rfl
    · have slots (i : HomeIdx) : t.home i = aged.home i := State.home_congr kept i
      exact (State.waitingDirectives_of_slots (fun i => by rw [slots]) fun i => by rw [slots]).trans waiting
    · have rx : t.rx = { s.rx.shift with
          next := if idleFill then some { round := round + 1, map := none, spanGood := false, cutOff := false }
                  else none } := by
        rw [eq]
        rfl
      rw [rx, Receiver.shift, Receiver.presetAt, Receiver.arrivingWindows_eq]
      rfl
    · have rogue : t.rogue = { s.rogue with
          alarmAge := if s.rogue.alarm then s.rogue.alarmAge + 1 else s.rogue.alarmAge
          iso := s.rogue.iso.tick, owed := if decide (round.toNat % 64 = 0) then [] else [] } := by
        rw [eq]
        rfl
      rw [rogue, ite_self, ← settled.decays]
      cases s.rogue.iso <;> rfl
    · have ring : t.ring = ringTicked s.ring s.banks.live := by
        rw [eq]
        rfl
      rw [ring]
      cases s.ring with
      | none => rfl
      | some r => cases s.banks.live <;> rfl
    · rw [eq]
      rfl
    · rw [eq]
    · rw [eq]
      rfl

end Sys2Proof.Machine

/-! The header that a map closes, and the idle fill that ends with the first map (R78, R82, R88; O44). -/

namespace Sys2Proof.Machine

open Sys2Proof

variable {s t u v : State} {i : HomeIdx} {p : Params}

/-! ### The header closes -/

theorem State.closeHeader_framer (s : State) (m : TalkMap) :
    (s.closeHeader m).framer = { s.framer with
      queue := s.framer.queue.drop 8
      header := some { round := s.clock.round, idleFill := false, dark := s.darkSet, map := some m
                       directives := s.framer.queue.take 8 }
      sending := if s.framer.sending = none then s.framer.waiting else s.framer.sending
      waiting := if s.framer.sending = none then none else s.framer.waiting } := by
  unfold State.closeHeader
  dsimp only
  rw [State.startWaiting_framer, State.foldl_homes State.directiveSent_homes]

theorem State.granting_planner (s : State) (p : Params) : (s.granting p).planner = { s.planner with
    phase := if s.clock.firstMap then 0 else (s.planner.phase + 1) % p.upkeep } := by
  have grants (l : List Grant) (r : Round) (v : State) :=
    State.foldl_field (f := fun s (g : Grant) => s.modHome g.index fun h => h.granted g r) State.planner
      (fun _ _ => rfl) l v
  unfold State.granting State.completeMap State.dropOffer
  dsimp only
  rw [grants]
  split <;> rfl

/-- The map that a boundary plans, and the new rotation pointer: with the ticks added and the span reserved. -/
def State.planned (s : State) (p : Params) : TalkMap × HomeIdx :=
  planMap (s.discoveryDue.tickUpkeep p).homes s.planner.rotation (s.discoveryDue.tickUpkeep p).reservedSpan

/-- The part with its map planned, before the header closes. -/
def State.mapped (s : State) (p : Params) : State :=
  { (s.discoveryDue.granting p).noteMap with
    planner := { (s.discoveryDue.granting p).noteMap.planner with rotation := (s.planned p).2 } }

theorem State.discoveryDue_planner (s : State) : s.discoveryDue.planner = s.planner := by
  rw [State.discoveryDue_frame]

theorem State.dropOffer_homes (s : State) : s.dropOffer.homes = s.homes := by
  unfold State.dropOffer
  dsimp only
  split <;> rfl

theorem State.dropOffer_planner (s : State) : s.dropOffer.planner = s.planner := by
  unfold State.dropOffer
  dsimp only
  split <;> rfl

theorem State.buildMap_mapped (s : State) (p : Params) : s.buildMap p = (s.mapped p).closeHeader (s.planned p).1 := by
  have planner : (s.discoveryDue.tickUpkeep p).planner.rotation = s.planner.rotation := by
    rw [← s.discoveryDue_planner]
    rfl
  have built := s.buildMap_eq p
  dsimp only at built
  rw [State.dropOffer_homes, State.dropOffer_planner, planner] at built
  exact built

theorem State.mapped_frame (s : State) (p : Params) :
    s.mapped p = { s with
      homes := (s.mapped p).homes
      planner := { rotation := (s.planned p).2
                   phase := if s.clock.firstMap then 0 else (s.planner.phase + 1) % p.upkeep }
      clock := { s.clock with firstMap := false }, enrol := { s.discoveryDue.enrol with offered := false }
      counters := (s.mapped p).counters, rx := { s.rx with next := (s.mapped p).rx.next }
      rogue := { s.rogue with iso := (s.mapped p).rogue.iso } } := by
  unfold State.mapped
  generalize (s.planned p).2 = rotation
  have planner := s.discoveryDue.granting_planner p
  rw [s.discoveryDue_planner] at planner
  have clock : s.discoveryDue.clock = s.clock := by rw [State.discoveryDue_frame]
  rw [clock] at planner
  have noted := (s.discoveryDue.granting p).noteMap_frame
  have granted := s.discoveryDue.granting_frame p
  have found := s.discoveryDue_frame
  generalize (s.discoveryDue.granting p).noteMap = w at noted ⊢
  generalize s.discoveryDue.granting p = v at noted granted planner
  rw [noted, planner]
  generalize w.rogue.iso = iso
  generalize s.discoveryDue = u at *
  rw [granted, found]

theorem State.home_mapped (s : State) (p : Params) (i : HomeIdx) :
    (s.mapped p).home i =
      ((s.tickUpkeep p).home i).grantedAll i (s.planned p).1.grants (s.clock.round + 1) := by
  have noted : (s.mapped p).home i = (s.discoveryDue.granting p).home i :=
    State.home_congr (congrArg State.homes (s.discoveryDue.granting p).noteMap_frame :) i
  have ticked : (s.discoveryDue.tickUpkeep p).home i = (s.tickUpkeep p).home i := by
    rw [State.discoveryDue_frame]
    rfl
  have planner : (s.discoveryDue.tickUpkeep p).planner.rotation = s.planner.rotation := by
    rw [← s.discoveryDue_planner]
    rfl
  have clock : s.discoveryDue.clock = s.clock := by rw [State.discoveryDue_frame]
  rw [noted, State.home_granting, ticked, planner, clock]
  rfl

/-- A map leaves the state and the probe mute of every entry alone. -/
theorem State.mapped_darkSet (s : State) (p : Params) : (s.mapped p).darkSet = s.darkSet := by
  refine State.darkSet_of_entries fun i => ?_
  rw [State.entry, State.home_mapped]
  have granted (l : List Grant) (h : Home) :
      (h.grantedAll i l (s.clock.round + 1)).entry.state = h.entry.state
        ∧ (h.grantedAll i l (s.clock.round + 1)).entry.probe = h.entry.probe := by
    unfold Home.grantedAll
    induction l generalizing h with
    | nil => exact ⟨rfl, rfl⟩
    | cons g l ih =>
      rw [List.foldl_cons, (ih _).1, (ih _).2]
      split
      · rw [Home.granted_entry]
        exact ⟨rfl, rfl⟩
      · exact ⟨rfl, rfl⟩
  rw [(granted _ _).1, (granted _ _).2]
  rcases s.home_tickUpkeep p i with e | e
  · rw [e]
    exact ⟨rfl, rfl⟩
  · rw [e, Entry.upkeepTick_frame]
    exact ⟨rfl, rfl⟩

/-! ### The clock up to the first map -/

theorem State.catchUp_clock (set : s.setup = some p) : s.catchUp.clock = s.clock ∧ s.catchUp.setup = some p := by
  have same : s.catchUp =
      (allIdx.foldl State.takeWaits s.settleDecays).endBackoff.advanceRing.expireEpoch.completeRating := rfl
  have waited := (s.settleDecays.takeWaits_all allIdx).1
  rw [same]
  generalize allIdx.foldl State.takeWaits s.settleDecays = a at waited ⊢
  have backed := (a.endBackoff_calms (waited.setup.trans set)).1
  have ring (b : State) : b.advanceRing.clock = b.clock ∧ b.advanceRing.setup = b.setup := by
    unfold State.advanceRing
    split
    · split <;> exact ⟨rfl, rfl⟩
    · exact ⟨rfl, rfl⟩
  have epoch (b : State) : b.expireEpoch.clock = b.clock ∧ b.expireEpoch.setup = b.setup := by
    unfold State.expireEpoch
    split
    · split
      · exact ⟨by simp, by simp⟩
      · exact ⟨by simp [State.holdEpoch], by simp [State.holdEpoch]⟩
    · exact ⟨rfl, rfl⟩
  have rated := (a.endBackoff.advanceRing.expireEpoch.completeRating_calms).1
  constructor
  · rw [rated.clock, (epoch _).1, (ring _).1, backed.clock, waited.clock]
    rfl
  · rw [rated.setup, (epoch _).2, (ring _).2, backed.setup, waited.setup]
    exact set

/-- The opening of a boundary after the last idle-fill header: a mapped header opens for the next round. -/
theorem State.openBoundary_clock (set : s.setup = some p) (closed : s.clock.headerOpen = false)
    (last : s.clock.idleLeft = 0) :
    (s.openBoundary []).setup = some p
      ∧ (s.openBoundary []).clock = { s.clock with round := s.clock.round + 1, headerOpen := true } := by
  have map : s.handMap = s := by
    rw [State.handMap, set]
    exact if_neg (ne_true_of_eq_false closed)
  obtain ⟨clock, set'⟩ := s.catchUp_clock set
  have opened : s.openBoundary [] = (s.catchUp.endFrame.counted []).opens := by
    rw [State.openBoundary, set]
    dsimp only
    rw [map]
    rfl
  generalize s.catchUp = c at clock set' opened
  have eq := State.opens_eq (v := c.endFrame.counted []) rfl (by rw [← closed, ← clock]; rfl) rfl
  have left : (c.endFrame.counted []).clock = { s.clock with round := s.clock.round + 1 } := by
    rw [← clock]
    rfl
  have kept : (c.endFrame.counted []).setup = some p := set'
  rw [opened]
  generalize c.endFrame.counted [] = w at eq left kept ⊢
  rw [eq, left, kept]
  simp [last]

theorem State.handMap_open (set : s.setup = some p) (opened : s.clock.headerOpen = true) :
    s.handMap = (s.mapped p).closeHeader (s.planned p).1 := by
  rw [State.handMap, set]
  dsimp only
  rw [if_pos opened, State.buildMap_mapped]

/-- The first map: its tick phase is 0, and its header carries the round of the boundary. -/
theorem State.firstMap_spec (set : s.setup = some p) (opened : s.clock.headerOpen = true)
    (first : s.clock.firstMap = true) :
    ∃ map, s.handMap.clock.firstMap = false ∧ s.handMap.clock.headerOpen = false ∧ s.handMap.planner.phase = 0
      ∧ (s.handMap.framer.header.map fun h => (h.round, h.idleFill, h.map))
        = some (s.clock.round, false, some map) := by
  have closed := (s.mapped p).closeHeader_frame (s.planned p).1
  have framer := (s.mapped p).closeHeader_framer (s.planned p).1
  have mapped := s.mapped_frame p
  rw [State.handMap_open set opened]
  refine ⟨(s.planned p).1, ?_, ?_, ?_, ?_⟩
  · rw [closed, mapped]
  · rw [closed]
  · rw [closed, mapped]
    exact if_pos first
  · rw [framer, mapped]
    rfl

/-- Settles O44: the branches of `State.endIdleFill`; the first map is that of `State.firstMap_spec`, at the header that
is open or at the one that `State.openBoundary_clock` opens; an Unset boundary moves the framer alone. -/
theorem idleFillEndsWithFirstMap : Obligations.IdleFillEndsWithFirstMap := by
  intro s
  have ends (t : State) (h : s.endIdleFill = t) : exec .idleFillEnd s = .next t := congrArg Host.Outcome.next h
  have atOpen (set : s.setup.isSome) (first : s.clock.firstMap = true) (opened : s.clock.headerOpen = true) :
      exec .idleFillEnd s = .next s.handMap := by
    refine ends _ ?_
    rw [State.endIdleFill, if_pos ⟨set, first⟩, if_pos opened]
  have atLast (set : s.setup.isSome) (first : s.clock.firstMap = true) (closed : s.clock.headerOpen = false)
      (last : s.clock.idleLeft = 0) : exec .idleFillEnd s = .next (s.openBoundary []).handMap := by
    refine ends _ ?_
    rw [State.endIdleFill, if_pos ⟨set, first⟩, if_neg (ne_true_of_eq_false closed), if_pos last]
  refine ⟨atOpen, atLast, fun set first due => ?_, fun early => ends _ ?_, fun unset => ?_⟩
  · obtain ⟨p, hp⟩ := Option.isSome_iff_exists.mp set
    cases opened : s.clock.headerOpen with
    | true =>
      obtain ⟨map, spec⟩ := State.firstMap_spec hp opened first
      exact ⟨_, map, atOpen set first opened, spec⟩
    | false =>
      have last : s.clock.idleLeft = 0 := due.resolve_left (by simp [opened])
      obtain ⟨set', clock⟩ := State.openBoundary_clock hp opened last
      obtain ⟨map, spec⟩ := State.firstMap_spec set' (by rw [clock]) (by rw [clock]; exact first)
      rw [clock] at spec
      exact ⟨_, map, atLast set first opened last, spec⟩
  · unfold State.endIdleFill
    split
    · rename_i due
      rcases early with unset | later | ⟨closed, left⟩
      · simp [unset] at due
      · simp [later] at due
      · rw [if_neg (ne_true_of_eq_false closed), if_neg left]
    · rfl
  · have opening : exec (.roundBoundary .opening) s = .next s.tickSilence.sendIdleHeader := by
      refine congrArg Host.Outcome.next ?_
      rw [State.openBoundary, unset]
    refine ⟨_, opening, ?_, ?_⟩
    · have silent := s.tickSilence_framer
      have clock : s.tickSilence.clock = s.clock := by
        unfold State.tickSilence
        split <;> rfl
      rw [State.sendIdleHeader_framer (State.darkSet_congr s.tickSilence_homes), silent, clock]
    · have frame (w : State) : w.sendIdleHeader = { w with framer := w.sendIdleHeader.framer } :=
        State.startWaiting_frame _
      have silent : s.tickSilence = { s with framer := s.tickSilence.framer } := by
        unfold State.tickSilence
        split <;> rfl
      have shape := frame s.tickSilence
      generalize s.tickSilence.sendIdleHeader = t at shape
      rw [shape, silent]

end Sys2Proof.Machine

/-! The bytes of a round header: its fields, grants and directives, packed in the order of its table (R216, R217). -/

namespace Sys2Proof.Machine

open Sys2Proof

/-! ### Places of consecutive fields -/

theorem placed_append (o : Nat) (l m : List (Nat × Nat)) :
    placed o (l ++ m) = placed o l ++ placed (o + (l.map (·.1)).sum) m := by
  induction l generalizing o with
  | nil => simp [placed]
  | cons f l ih => simp [placed, ih, Nat.add_assoc]

theorem packed_append (l m : List (Nat × Nat)) : packed (l ++ m) = packed l ++ packed m := List.flatMap_append

theorem packed_flatMap {α : Type} (l : List α) (f : α → List (Nat × Nat)) :
    packed (l.flatMap f) = l.flatMap fun a => packed (f a) := List.flatMap_assoc

/-- Elements of one size each, at their places, are placed one after another. -/
theorem flatMap_zipIdx_placed {α : Type} (size o : Nat) (fields : α → List (Nat × Nat))
    (sized : ∀ a, ((fields a).map (·.1)).sum = size) (l : List α) (n : Nat) :
    ((l.zipIdx n).flatMap fun a => placed (o + size * a.2) (fields a.1))
      = placed (o + size * n) (l.flatMap fields) := by
  induction l generalizing n with
  | nil => rfl
  | cons a l ih =>
    rw [List.zipIdx_cons, List.flatMap_cons, List.flatMap_cons, placed_append, sized, ih, Nat.mul_add, Nat.mul_one,
      Nat.add_assoc]

/-! ### Directives -/

/-- The fields of a directive: type byte, what its type carries, and zeros. -/
def directiveFields (d : Directive) : List (Nat × Nat) := (directiveTable 0 d).map (·.2)

theorem directiveTable_eq (o : Nat) (d : Directive) : directiveTable o d = placed o (directiveFields d) := by
  cases d <;> simp [directiveTable, directiveFields, placed, Nat.add_assoc]

theorem directiveFields_size (d : Directive) : ((directiveFields d).map (·.1)).sum = 10 := by cases d <;> rfl

theorem Directive.bytes_eq (d : Directive) : d.bytes = packed (directiveFields d) := by
  cases d <;> simp [Directive.bytes, Directive.fields, directiveFields, directiveTable, bytesOf_length] <;> rfl

/-! ### The header -/

theorem GrantKind.code_eq (k : GrantKind) : k.code = codeIn [GrantKind.data, .poll, .test, .ranging] k := by
  cases k <;> rfl

/-- The fields of a header's fixed part. -/
def Header.fixedFields (h : Header) : List (Nat × Nat) :=
  [(5, h.round.toNat), (1, bitIf h.invite 1 + bitIf h.idleFill 0),
   (8, ((List.finRange 64).map fun i => if i ∈ h.dark then 2 ^ (63 - i.val) else 0).sum),
   (1, h.spanField.1), (2, h.spanField.2), (1, h.grants.length), (1, h.directives.length)]

def grantFields (g : Grant) : List (Nat × Nat) :=
  [(4, codeIn [GrantKind.data, .poll, .test, .ranging] g.kind * 2 ^ 30 + g.index.val * 2 ^ 24 + g.start * 2 ^ 12
    + g.length)]

/-- The fields of a header: the fixed part, the grants of its map, and its directives. -/
def Header.fields (h : Header) : List (Nat × Nat) :=
  h.fixedFields ++ h.grants.flatMap grantFields ++ h.directives.flatMap directiveFields

theorem Header.checked_eq (h : Header) : h.checked = packed h.fields := by
  have grant : Grant.bytes = fun g => packed (grantFields g) := funext fun g => by
    simp [Grant.bytes, grantFields, GrantKind.code_eq]
  have directive : Directive.bytes = fun d => packed (directiveFields d) := funext Directive.bytes_eq
  rw [Header.checked, Header.fields, packed_append, packed_append, packed_flatMap, packed_flatMap, grant, directive,
    indexBits_eq]
  simp [Header.fixedFields]

theorem sum_sizes_flatMap {α : Type} {f : α → List (Nat × Nat)} {size : Nat}
    (sized : ∀ a, ((f a).map (·.1)).sum = size) (l : List α) : ((l.flatMap f).map (·.1)).sum = size * l.length := by
  induction l with
  | nil => rfl
  | cons a l ih =>
    rw [List.flatMap_cons, List.map_append, List.sum_append, sized, ih, List.length_cons]
    ring

theorem Header.fields_size (h : Header) :
    (h.fields.map (·.1)).sum = 19 + 4 * h.grants.length + 10 * h.directives.length := by
  rw [Header.fields, List.map_append, List.map_append, List.sum_append, List.sum_append,
    sum_sizes_flatMap (f := grantFields) (size := 4) fun _ => rfl, sum_sizes_flatMap directiveFields_size]
  rfl

theorem Header.fixedTable_eq (h : Header) :
    (let span := h.map.bind (·.span)
     let grants : List Grant := match h.map with | some m => m.grants | none => []
     let invite : Bool := match span with | some (.discovery, _) => true | _ => false
     [(0, 5, h.round.toNat),
      (5, 1, (if invite then 2 else 0) + if h.idleFill then 1 else 0),
      (6, 8, ((List.finRange 64).map fun i => if i ∈ h.dark then 2 ^ (63 - i.val) else 0).sum),
      (14, 1, match span with | some (.discovery, _) => 1 | some (.quiet, _) => 2 | none => 0),
      (15, 2, match span with | some (_, n) => n | none => 0),
      (17, 1, grants.length),
      (18, 1, h.directives.length)]) = placed 0 h.fixedFields := by
  obtain ⟨round, idleFill, dark, map, directives⟩ := h
  simp only [Header.fixedFields, Header.grants, Header.invite, Header.spanField, placed, bitIf]
  rcases map with _ | ⟨_ | ⟨_ | _, n⟩, grants⟩ <;> cases idleFill <;> rfl

theorem headerTable_eq (h : Header) : headerTable h = placed 0 h.fields := by
  have entries := flatMap_zipIdx_placed 4 19 grantFields (fun _ => rfl) h.grants 0
  have sent := flatMap_zipIdx_placed 10 (19 + 4 * h.grants.length) directiveFields directiveFields_size h.directives 0
  rw [Header.fields, List.append_assoc, placed_append, placed_append,
    sum_sizes_flatMap (f := grantFields) (size := 4) fun _ => rfl, ← h.fixedTable_eq, headerTable, List.append_assoc]
  simp only [directiveTable_eq]
  obtain ⟨round, idleFill, dark, map, directives⟩ := h
  cases map with
  | none => exact congrArg₂ (· ++ ·) rfl (congrArg₂ (· ++ ·) (List.map_eq_flatMap.trans entries) sent)
  | some m => exact congrArg₂ (· ++ ·) rfl (congrArg₂ (· ++ ·) (List.map_eq_flatMap.trans entries) sent)

theorem Header.bytes_laidOut (h : Header) : LaidOut h.bytes (headerTable h) := by
  rw [headerTable_eq, Header.bytes, Header.checked_eq]
  exact laidOut_placed h.fields [] _

theorem Header.checked_length (h : Header) :
    h.checked.length = 19 + 4 * h.grants.length + 10 * h.directives.length := by
  rw [Header.checked_eq, packed_length, Header.fields_size]

theorem Header.bytes_length (h : Header) : h.bytes.length = h.checked.length + 2 := by
  rw [Header.bytes, List.length_append, bytesOf_length]

/-- The check of a header is over every byte before it. -/
theorem Header.bytes_check (h : Header) : h.bytes.drop h.checked.length =
    bytesOf 2 (crcBytes (h.bytes.take h.checked.length)).toNat := by
  rw [Header.bytes, List.drop_left, List.take_left]

end Sys2Proof.Machine

/-! One map, home by home: the ticks, the one grant of a home, and the directives that went out (R74, R79, R88; O42). -/

namespace Sys2Proof.Machine

open Sys2Proof

variable {s t u v : State} {i : HomeIdx} {p : Params} {d : Draft}

/-! ### One grant for each home (R62) -/

theorem insertGrant_perm (g : Grant) (l : List Grant) : (insertGrant g l).Perm (g :: l) := by
  induction l with
  | nil => exact .refl _
  | cons h l ih =>
    unfold insertGrant
    split
    · exact .refl _
    · exact (ih.cons h).trans (.swap g h l)

theorem foldr_insertGrant_perm (l m : List Grant) : (l.foldr insertGrant m).Perm (l ++ m) := by
  induction l with
  | nil => exact .refl _
  | cons g l ih => exact (insertGrant_perm g _).trans (ih.cons g)

theorem layAll_indices (d : Draft) (l : List HomeIdx) (cursor : Nat) (spans : List Nat) :
    ((layAll d l cursor spans).map (·.index)).Sublist l := by
  induction l generalizing cursor spans with
  | nil => exact List.Sublist.refl _
  | cons i l ih =>
    unfold layAll
    split
    · exact (ih _ _).cons _
    · exact (ih _ _).cons _
    · exact (ih _ _).cons_cons _

theorem rangingGrants_indices (d : Draft) : ((rangingGrants d).map (·.index)).Sublist allIdx := by
  unfold rangingGrants
  generalize allIdx = l
  induction l with
  | nil => exact List.Sublist.refl _
  | cons i l ih =>
    rw [List.filterMap_cons]
    split
    · exact ih.cons _
    · rename_i g held
      have mine : g.index = i := by
        split at held
        · cases held
          rfl
        · cases held
      rw [List.map_cons, mine]
      exact ih.cons_cons _

theorem layout_perm (d : Draft) (span : Nat) :
    (layout d span).Perm (rangingGrants d ++ layAll d allIdx span d.spans) := foldr_insertGrant_perm _ _

/-- A laid-out map holds at most one grant for each home. -/
theorem layout_nodup (d : Draft) (span : Nat) : ((layout d span).map (·.index)).Nodup := by
  rw [((layout_perm d span).map _).nodup_iff, List.map_append, List.nodup_append]
  refine ⟨(rangingGrants_indices d).nodup (List.nodup_finRange 64),
    (layAll_indices d _ _ _).nodup (List.nodup_finRange 64), fun i hi j hj e => ?_⟩
  obtain ⟨x, hx, rfl⟩ := List.mem_map.mp hi
  obtain ⟨y, hy, rfl⟩ := List.mem_map.mp hj
  obtain ⟨s, ranging, -⟩ := mem_rangingGrants.mp hx
  obtain ⟨-, g, holds, -, other⟩ := (layAll_spec d allIdx span d.spans).1 y hy
  rw [← e, ranging] at holds
  exact other s (Option.some.inj holds).symm

theorem planMap_nodup (homes : Vector Home 64) (p : HomeIdx) (span : Option (SpanKind × Nat)) :
    ((planMap homes p span).1.grants.map (·.index)).Nodup := layout_nodup _ _

/-! ### The grant of a home (R74, R90) -/

theorem Home.grantedAll_of_absent {l : List Grant} (absent : ∀ g ∈ l, g.index ≠ i) (h : Home) (r : Round) :
    h.grantedAll i l r = h := by
  unfold Home.grantedAll
  induction l with
  | nil => rfl
  | cons g l ih =>
    rw [List.foldl_cons, if_neg (absent g List.mem_cons_self)]
    exact ih fun x hx => absent x (List.mem_cons_of_mem g hx)

/-- What the grant of a home, where it has one, brings to it. -/
theorem Home.grantedAll_eq {l : List Grant} (nodup : (l.map (·.index)).Nodup) (h : Home) (i : HomeIdx) (r : Round) :
    h.grantedAll i l r = ((l.find? fun g => g.index == i).map fun g => h.granted g r).getD h := by
  induction l with
  | nil => rfl
  | cons g l ih =>
    obtain ⟨fresh, nodup⟩ := List.nodup_cons.mp nodup
    by_cases mine : g.index = i
    · have others : ∀ x ∈ l, x.index ≠ i := fun x hx e =>
        fresh (List.mem_map.mpr ⟨x, hx, e.trans mine.symm⟩)
      have first : h.grantedAll i (g :: l) r = (h.granted g r).grantedAll i l r := by
        rw [Home.grantedAll, List.foldl_cons, if_pos mine]
        rfl
      rw [first, Home.grantedAll_of_absent others, List.find?_cons_of_pos (by simpa using mine)]
      rfl
    · have first : h.grantedAll i (g :: l) r = h.grantedAll i l r := by
        rw [Home.grantedAll, List.foldl_cons, if_neg mine]
        rfl
      rw [first, ih nodup, List.find?_cons_of_neg (by simpa using mine)]

theorem Home.granted_eq (h : Home) (grant : Option Grant) (r : Round) :
    let kind := grant.map (·.kind)
    let e := h.entry
    (grant.map fun g => h.granted g r).getD h = { h with
      entry := { e with
        balance := if (e.state = .held ∨ e.state = .active) ∧ grant.isSome then max (-8) (e.balance - 1)
                   else e.balance
        backlog := match grant with
          | some g => if g.kind = .data then e.backlog.map (· - (g.length - 3)) else e.backlog
          | none => e.backlog }
      retest := if kind = some .test ∧ e.state ≠ .testing then .placed r else h.retest
      inPlace := if kind = some .ranging ∧ e.state ≠ .ranging then .placed r else h.inPlace
      progress := h.progress.map fun q =>
        { q with
          stage :=
            if kind = some .test ∧ e.state = .testing then .testOutstanding r
            else if kind = some .ranging ∧ e.state = .ranging then .spanOutstanding r
            else q.stage } } := by
  intro kind e
  cases grant with
  | none => simp [kind, e]
  | some g =>
    obtain ⟨k, index, start, length⟩ := g
    have charged : h.entry.charged = { e with
        balance := if e.state = .held ∨ e.state = .active then max (-8) (e.balance - 1) else e.balance } := by
      unfold Entry.charged
      split <;> rfl
    simp only [Home.granted, charged, kind, e]
    cases k with
    | data => simp
    | poll => simp
    | test => by_cases testing : h.entry.state = .testing <;> simp [testing]
    | ranging => by_cases ranging : h.entry.state = .ranging <;> simp [ranging]

/-! ### The directives that went out (R79, R29, R34, R114) -/

/-- A home whose Assign or Set delay went out: the stage of its enrolment and its correction marker move on. -/
def Home.sent (h : Home) (assign delay : Bool) (round : Round) : Home :=
  { h with
    marker := if h.marker = .queued ∧ delay = true then .sent round else h.marker
    progress := h.progress.map fun q =>
      { q with
        stage :=
          if q.stage = .awaitingAssign ∧ q.waiting = none ∧ assign = true then .spanDue
          else if q.stage = .awaitingSetDelay ∧ q.waiting = none ∧ delay = true then .testDue
          else q.stage } }

theorem Home.sent_none (h : Home) (round : Round) : h.sent false false round = h := by
  simp [Home.sent]

theorem Home.sent_sent (h : Home) (a d b e : Bool) (round : Round) :
    (h.sent a d round).sent b e round = h.sent (a || b) (d || e) round := by
  have marker : (if (if h.marker = .queued ∧ d = true then Marker.sent round else h.marker) = .queued ∧ e = true
        then Marker.sent round else if h.marker = .queued ∧ d = true then .sent round else h.marker)
      = if h.marker = .queued ∧ (d || e) = true then .sent round else h.marker := by
    cases d <;> cases e <;> by_cases queued : h.marker = .queued <;> simp [queued]
  simp only [Home.sent, Option.map_map]
  congr 1
  refine congrArg (fun f => h.progress.map f) (funext fun q => ?_)
  obtain ⟨coarse, tries, tests, stage, waiting, clock⟩ := q
  cases waiting with
  | some _ => simp
  | none => cases stage <;> cases a <;> cases b <;> cases d <;> cases e <;> simp

/-- The directive is an Assign for the home's tag and index. -/
def Directive.assigns (d : Directive) (tag : Option Tag) (i : HomeIdx) : Bool :=
  match tag with
  | some x => d == .assign x i
  | none => false

theorem Directive.assigns_eq_true_iff {d : Directive} {tag : Option Tag} :
    d.assigns tag i = true ↔ ∃ x, tag = some x ∧ d = .assign x i := by
  cases tag <;> simp [Directive.assigns]

theorem Home.sent_of_assign (h : Home) (c : Progress → Prop) [∀ q, Decidable (c q)] (assign : Bool) (round : Round)
    (same : ∀ q, c q ↔ q.stage = .awaitingAssign ∧ q.waiting = none ∧ assign = true) :
    { h with progress := h.progress.map fun q => if c q then { q with stage := .spanDue } else q }
      = h.sent assign false round := by
  simp only [Home.sent, same]
  congr 1
  · refine congrArg (fun f => h.progress.map f) (funext fun q => ?_)
    by_cases due : q.stage = .awaitingAssign ∧ q.waiting = none ∧ assign = true
    · rw [if_pos due, if_pos due]
    · rw [if_neg due, if_neg due]
      simp
  · simp

theorem Home.sent_of_delay (h : Home) (round : Round) :
    { h with
      marker := if h.marker = .queued then .sent round else h.marker
      progress := h.progress.map fun q =>
        if q.stage = .awaitingSetDelay ∧ q.waiting = none then { q with stage := .testDue } else q }
      = h.sent false true round := by
  simp only [Home.sent, and_true]
  congr 1
  refine congrArg (fun f => h.progress.map f) (funext fun q => ?_)
  by_cases due : q.stage = .awaitingSetDelay ∧ q.waiting = none
  · rw [if_pos due, if_pos due]
    simp
  · rw [if_neg due, if_neg due]
    simp

theorem State.home_directiveSent (s : State) (d : Directive) (i : HomeIdx) :
    (s.directiveSent d).home i = (s.home i).sent
      (d.assigns (s.entry i).tag i && !(s.framer.queue.any fun q => q.assigns (s.entry i).tag i))
      (d.delays i && !(s.framer.queue.any fun q => q.delays i)) s.clock.round := by
  cases d with
  | assign x j =>
    have silent : (Directive.assign x j).delays i = false := rfl
    have moved : (s.directiveSent (.assign x j)).home i = (s.modProgress j fun p =>
        if p.stage = .awaitingAssign ∧ p.waiting = none ∧ (s.entry j).tag = some x
            ∧ Directive.assign x j ∉ s.framer.queue then { p with stage := .spanDue } else p).home i := rfl
    rw [moved, State.home_modProgress, silent, Bool.false_and]
    by_cases e : i = j
    · subst e
      rw [if_pos rfl]
      refine Home.sent_of_assign _ _ _ _ fun q => and_congr_right fun _ => and_congr_right fun _ => ?_
      rw [Bool.and_eq_true, Bool.not_eq_true', List.any_eq_false, Directive.assigns_eq_true_iff]
      constructor
      · rintro ⟨tag, fresh⟩
        refine ⟨⟨x, tag, rfl⟩, fun d hd assigns => ?_⟩
        obtain ⟨y, tag', rfl⟩ := Directive.assigns_eq_true_iff.mp assigns
        obtain rfl : x = y := Option.some.inj (tag.symm.trans tag')
        exact fresh hd
      · rintro ⟨⟨y, tag, same⟩, fresh⟩
        obtain rfl : x = y := by simpa using same
        exact ⟨tag, fun hd => fresh _ hd (Directive.assigns_eq_true_iff.mpr ⟨x, tag, rfl⟩)⟩
    · have other : (Directive.assign x j).assigns (s.entry i).tag i = false := by
        refine Bool.eq_false_iff.mpr fun assigns => ?_
        obtain ⟨y, -, same⟩ := Directive.assigns_eq_true_iff.mp assigns
        exact e (by simpa using same.symm : y = x ∧ i = j).2
      rw [if_neg e, other]
      exact (Home.sent_none ..).symm
  | setDelay j n =>
    have unassigned : (Directive.setDelay j n).assigns (s.entry i).tag i = false := by
      refine Bool.eq_false_iff.mpr fun assigns => ?_
      obtain ⟨y, -, same⟩ := Directive.assigns_eq_true_iff.mp assigns
      cases same
    have moved : (s.directiveSent (.setDelay j n)).home i =
        (if (s.framer.queue.any fun q => q.delays j) = true then s
         else s.modHome j fun h => h.sent false true s.clock.round).home i := by
      simp only [← Home.sent_of_delay]
      rfl
    rw [moved, unassigned, Bool.false_and]
    by_cases e : i = j
    · subst e
      have mine : (Directive.setDelay i n).delays i = true := beq_self_eq_true i
      rw [mine, Bool.true_and]
      cases queued : s.framer.queue.any fun q => q.delays i with
      | true => simp [Home.sent_none]
      | false => simp [State.home_modHome]
    · have other : (Directive.setDelay j n).delays i = false := beq_eq_false_iff_ne.mpr (Ne.symm e)
      rw [other, Bool.false_and, Home.sent_none]
      split
      · rfl
      · rw [State.home_modHome, if_neg e]
  | leaveIndex _ | leaveTag _ | dozeGranted _ _ | wake _ =>
    have quiet (d : Directive) (assigns : ∀ x, d ≠ .assign x i) (delays : d.delays i = false) :
        (s.home i) = (s.home i).sent
          (d.assigns (s.entry i).tag i && !(s.framer.queue.any fun q => q.assigns (s.entry i).tag i))
          (d.delays i && !(s.framer.queue.any fun q => q.delays i)) s.clock.round := by
      have none : d.assigns (s.entry i).tag i = false := by
        unfold Directive.assigns
        split
        · exact beq_eq_false_iff_ne.mpr (assigns _)
        · rfl
      rw [none, delays]
      exact (Home.sent_none ..).symm
    exact quiet _ (by simp) rfl

end Sys2Proof.Machine

/-! The map of a boundary, whole: what it makes of the part, and the header that carries it (O42). -/

namespace Sys2Proof.Machine

open Sys2Proof

variable {s t u v : State} {i : HomeIdx} {p : Params}

/-! ### The directives of a header, home by home -/

theorem State.home_directivesSent (l : List Directive) (s : State) (i : HomeIdx) :
    (l.foldl State.directiveSent s).home i = (s.home i).sent
      ((l.any fun d => d.assigns (s.entry i).tag i) && !(s.framer.queue.any fun q => q.assigns (s.entry i).tag i))
      ((l.any fun d => d.delays i) && !(s.framer.queue.any fun q => q.delays i)) s.clock.round := by
  induction l generalizing s with
  | nil => exact (Home.sent_none ..).symm
  | cons d l ih =>
    have frame := s.directiveSent_homes d
    have queue : (s.directiveSent d).framer = s.framer := by rw [frame]
    have clock : (s.directiveSent d).clock = s.clock := by rw [frame]
    have tag : ((s.directiveSent d).entry i).tag = (s.entry i).tag := by
      rw [State.entry, State.home_directiveSent]
      rfl
    rw [List.foldl_cons, ih, queue, clock, tag, State.home_directiveSent, Home.sent_sent, List.any_cons, List.any_cons,
      Bool.and_or_distrib_right, Bool.and_or_distrib_right]

theorem State.home_closeHeader (s : State) (m : TalkMap) (i : HomeIdx) :
    let out := s.framer.queue.take 8
    let rest := s.framer.queue.drop 8
    (s.closeHeader m).home i = (s.home i).sent
      ((out.any fun d => d.assigns (s.entry i).tag i) && !(rest.any fun q => q.assigns (s.entry i).tag i))
      ((out.any fun d => d.delays i) && !(rest.any fun q => q.delays i)) s.clock.round := by
  intro out rest
  have waiting (w : State) : w.startWaiting.home i = w.home i :=
    State.home_congr (congrArg State.homes w.startWaiting_frame :) i
  unfold State.closeHeader
  dsimp only
  rw [waiting, State.home_directivesSent]
  rfl

/-! ### The ticks and the grants -/

theorem State.home_ticked (s : State) (p : Params) (i : HomeIdx) :
    (s.tickUpkeep p).home i = { s.home i with entry := { s.entry i with
      balance :=
        if s.light.loss = false ∧ s.framer.silence = false
            ∧ i.val % p.upkeep = (if s.clock.firstMap then 0 else (s.planner.phase + 1) % p.upkeep)
            ∧ ((s.entry i).state = .held ∨ (s.entry i).state = .active) ∧ (s.entry i).probe = false then
          min 8 ((s.entry i).balance + 1)
        else (s.entry i).balance } } := by
  have tick : (s.tickUpkeep p).home i =
      if (s.light.loss || s.framer.silence) = false ∧ i.val % p.upkeep
          = (if s.clock.firstMap then 0 else (s.planner.phase + 1) % p.upkeep) then
        { s.home i with entry := (s.entry i).upkeepTick } else s.home i := by
    simp [State.tickUpkeep, State.home, State.entry]
  have polls : (s.entry i).pollable = true ↔
      ((s.entry i).state = .held ∨ (s.entry i).state = .active) ∧ (s.entry i).probe = false := by
    simp [Entry.pollable]
  rw [tick, Entry.upkeepTick]
  by_cases due : (s.light.loss || s.framer.silence) = false ∧ i.val % p.upkeep
      = (if s.clock.firstMap then 0 else (s.planner.phase + 1) % p.upkeep)
  · rw [if_pos due]
    obtain ⟨lit, phase⟩ := due
    rw [Bool.or_eq_false_iff] at lit
    by_cases polled : (s.entry i).pollable = true
    · rw [if_pos polled, if_pos ⟨lit.1, lit.2, phase, polls.mp polled⟩]
    · rw [if_neg polled, if_neg fun due => polled (polls.mpr due.2.2.2)]
  · rw [if_neg due, if_neg fun h => due ⟨Bool.or_eq_false_iff.mpr ⟨h.1, h.2.1⟩, h.2.2.1⟩]
    rfl

theorem State.dropOffer_frame (s : State) : s.dropOffer =
    { s with enrol := { s.enrol with offered := false }, counters := s.dropOffer.counters } := by
  unfold State.dropOffer
  dsimp only
  split <;> rfl

theorem State.entry_ticked_window (s : State) (p : Params) (g : Grant) :
    g.window ((s.tickUpkeep p).entry g.index) = g.window (s.entry g.index) := by
  rw [State.entry, State.home_ticked]
  rfl

theorem State.mapped_next (early : s.discoveryDue = s) :
    (s.mapped p).rx.next = some
      { round := s.clock.round + 1, spanGood := false, cutOff := false
        map := some { span := s.reservedSpan
                      windows := (s.planned p).1.grants.map fun g => g.window (s.entry g.index) } } := by
  have noted : (s.mapped p).rx = (s.granting p).rx := by
    have frame := (s.granting p).noteMap_frame
    rw [State.mapped, early]
    generalize (s.granting p).noteMap = w at frame
    rw [frame]
  have completed (v : State) (m : TalkMap) : (v.completeMap m).rx.next = some
      { round := v.clock.round + 1, spanGood := false, cutOff := false
        map := some { span := m.span, windows := m.grants.map fun g => g.window (v.entry g.index) } } := rfl
  have span : (s.planned p).1.span = s.reservedSpan := by
    rw [State.planned, early]
    rfl
  have entries (i : HomeIdx) : (s.tickUpkeep p).dropOffer.entry i = (s.tickUpkeep p).entry i :=
    State.entry_congr (State.dropOffer_homes _) i
  have map : (planMap (s.tickUpkeep p).dropOffer.homes (s.tickUpkeep p).dropOffer.planner.rotation
      (s.tickUpkeep p).reservedSpan).1 = (s.planned p).1 := by
    rw [State.dropOffer_homes, State.dropOffer_planner, State.planned, early]
    rfl
  have round : (s.tickUpkeep p).dropOffer.clock.round = s.clock.round := by
    rw [State.dropOffer_frame]
    rfl
  rw [noted, State.granting, completed, map, span, round]
  simp only [entries, State.entry_ticked_window]

theorem State.mapped_rogue (early : s.discoveryDue = s) :
    (s.mapped p).rogue = match s.rogue.iso with
      | .probing q => { s.rogue with iso := .probing (q.mapBuilt (s.clock.round + 1)) }
      | _ => s.rogue := by
  have granted := s.granting_frame p
  have noted : (s.mapped p).rogue = (s.granting p).noteMap.rogue := by
    rw [State.mapped, early]
  have rogue : (s.granting p).rogue = s.rogue := by rw [granted]
  have round : (s.granting p).clock.round = s.clock.round := by rw [granted]
  rw [noted, State.noteMap, rogue, round]
  cases s.rogue.iso with
  | idle => exact rogue
  | backoff _ => exact rogue
  | probing _ => rfl

theorem State.mapped_gained (early : s.discoveryDue = s) :
    s.Gained (s.mapped p) (if s.probing = true ∧ s.enrol.offered = true then [.enrolDeferred] else []) := by
  have counters : (s.mapped p).counters = (s.tickUpkeep p).dropOffer.counters := by
    have frame := (s.granting p).noteMap_frame
    have granted : (s.granting p).counters = (s.tickUpkeep p).dropOffer.counters := by
      have grants (l : List Grant) (r : Round) (v : State) :=
        State.foldl_field (f := fun s (g : Grant) => s.modHome g.index fun h => h.granted g r) State.counters
          (fun _ _ => rfl) l v
      exact grants ..
    rw [State.mapped, early]
    generalize (s.granting p).noteMap = w at frame
    rw [frame]
    exact granted
  refine State.Gained.congr ?_ counters
  have offers : (s.tickUpkeep p).probing = s.probing ∧ (s.tickUpkeep p).enrol = s.enrol := ⟨rfl, rfl⟩
  unfold State.dropOffer
  rw [offers.1, offers.2]
  simp only [Bool.and_eq_true]
  by_cases overtaken : s.probing = true ∧ s.enrol.offered = true
  · rw [if_pos overtaken, if_pos overtaken]
    exact (State.Gained.of_eq rfl).bump _
  · rw [if_neg overtaken, if_neg overtaken]
    exact .of_eq rfl

/-! ### The whole map -/

theorem Directive.any_assigns (l : List Directive) (tag : Option Tag) (i : HomeIdx) :
    (l.any fun d => d.assigns tag i) = match tag with
      | some x => l.contains (.assign x i)
      | none => false := by
  cases tag with
  | none => simp [Directive.assigns]
  | some x =>
    rw [Bool.eq_iff_iff, List.any_eq_true, List.contains_iff_mem]
    simp [Directive.assigns]

/-- DISCOVERY_DUE taken before the map leaves the same map (R21). -/
theorem State.handMap_discoveryDue (opened : s.clock.headerOpen = true)
    (next : s.discoveryDue.enrol.due ≠ s.clock.round) :
    s.discoveryDue.handMap = s.handMap := by
  have found := s.discoveryDue_frame
  have setup : s.discoveryDue.setup = s.setup := by rw [found]
  have clock : s.discoveryDue.clock = s.clock := by rw [found]
  cases hp : s.setup with
  | none =>
    rw [State.handMap, State.handMap, setup, hp]
    simp only [State.discoveryDue, hp]
  | some p =>
    have again : s.discoveryDue.discoveryDue = s.discoveryDue := by
      rw [State.discoveryDue_of_setup (setup.trans hp), if_neg]
      rw [clock]
      exact fun due => next due.2.symm
    rw [State.handMap_open hp opened, State.handMap_open (setup.trans hp) (by rw [clock]; exact opened)]
    simp only [State.mapped, State.planned, again, State.discoveryDue_planner]

theorem Grant.window_eq (g : Grant) (e : Entry) : g.window e =
    { index := g.index, start := g.start, length := g.length, tag := e.tag
      purpose := match g.kind with
        | .data => .data
        | .poll => .poll
        | .test => if e.state = .testing then .enrolTest else .retest
        | .ranging => if e.state = .ranging then .enrolRanging else .inPlaceRanging
      payload := match g.kind with
        | .data => g.length - 3
        | .test => 16
        | .poll | .ranging => 0
      preset := if g.kind = .ranging then 128 else e.level.getD 128 } := by
  obtain ⟨kind, index, start, length⟩ := g
  cases kind <;> rfl

theorem Probe.mapBuilt_eq (q : Probe) (upstream : Round) : q.mapBuilt upstream =
    if 0 < q.settle then { q with settle := q.settle - 1 }
    else if q.obs = none then { q with obs := some upstream }
    else q := by
  simp [Probe.mapBuilt]

/-- Settles O42: the header's bytes pack its fields (`headerTable_eq`); the map is planned on the ticked homes, each
home takes its own grant (`Home.grantedAll_eq`) and what its directives brought (`State.home_closeHeader`). -/
theorem mapIsBuiltIntoOpenHeader : Obligations.MapIsBuiltIntoOpenHeader := by
  refine ⟨fun h => ?_, fun s => ⟨fun i => ?_, ?_, fun closed => ?_, fun u found opened next => ?_,
    fun p set opened early => ?_⟩⟩
  · have grants : (match h.map with | some m => m.grants.length | none => 0) = h.grants.length := by
      unfold Header.grants
      cases h.map <;> rfl
    intro size
    have sized : size = h.checked.length :=
      (congrArg (fun n => 19 + 4 * n + 10 * h.directives.length) grants).trans h.checked_length.symm
    rw [sized]
    exact ⟨h.bytes_length, h.bytes_laidOut, h.bytes_check⟩
  · simp [State.darkSet, allIdx]
  · unfold State.feederHeader
    cases s.framer.header <;> rfl
  · refine congrArg Host.Outcome.next ?_
    unfold State.handMap
    split
    · exact if_neg (ne_true_of_eq_false closed)
    · rfl
  · cases found
    exact congrArg Host.Outcome.next (State.handMap_discoveryDue opened next).symm
  · intro phase ticked span upstream out rest delays delaySent assignSent
    have due : s.discoveryDue = s := by
      rw [State.discoveryDue_of_setup set]
      exact if_neg fun h => early h.2
    have runs : exec (.roundBoundary .map) s = .next ((s.mapped p).closeHeader (s.planned p).1) :=
      congrArg Host.Outcome.next (State.handMap_open set opened)
    have frame := (s.mapped p).closeHeader_frame (s.planned p).1
    have framer := (s.mapped p).closeHeader_framer (s.planned p).1
    have homes := (s.mapped p).home_closeHeader (s.planned p).1
    have mapped := s.mapped_frame p
    have reserved : s.reservedSpan = span := by
      have reach : Reach.discoverySpan s.straps.reach = if s.straps.reach = .long then 3238 else 1638 := by
        cases s.straps.reach <;> rfl
      rw [State.reservedSpan, reach]
      rfl
    have next := State.mapped_next (p := p) due
    have rogue := State.mapped_rogue (p := p) due
    have gained := State.mapped_gained (p := p) due
    have plans : s.planned p = planMap (s.tickUpkeep p).homes s.planner.rotation span := by
      rw [State.planned, due, ← reserved]
      rfl
    refine ⟨(s.tickUpkeep p).homes, (s.planned p).1, (s.planned p).2, _, fun i => s.home_ticked p i, plans.symm, runs,
      ?_, ?_, ?_, ?_, ?_, ?_, ?_, ?_, ?_⟩
    · rw [frame, mapped]
    · rw [frame, mapped]
    · rw [framer, State.mapped_darkSet, mapped]
    · intro i grant kind e
      have kept : (s.mapped p).framer = s.framer ∧ (s.mapped p).clock.round = s.clock.round := by
        rw [mapped]
        exact ⟨rfl, rfl⟩
      have granted := ((s.tickUpkeep p).home i).granted_eq grant upstream
      have home : (s.mapped p).home i = _ :=
        (s.home_mapped p i).trans ((Home.grantedAll_eq (planMap_nodup ..) _ i _).trans granted)
      have tag : ((s.mapped p).entry i).tag = e.tag := by
        rw [State.entry, home, State.home_ticked]
      have assigned : ((out.any fun d => d.assigns e.tag i) && !(rest.any fun q => q.assigns e.tag i))
          = assignSent i := by
        rw [Directive.any_assigns, Directive.any_assigns]
        have : e.tag = (s.entry i).tag := rfl
        simp only [assignSent, this]
        cases (s.entry i).tag <;> rfl
      rw [homes, kept.1, kept.2, tag, assigned, home, State.home_ticked]
      simp only [Home.sent, Option.map_map] <;> rfl
    · rw [frame, mapped, due]
    · rw [frame, mapped, next, reserved]
      exact congrArg (fun f : Grant → Window => ({ s.rx with
        next := some
          { round := upstream, spanGood := false, cutOff := false
            map := some { span := span, windows := (s.planned p).1.grants.map f } } } : Receiver))
        (funext fun g => g.window_eq (s.entry g.index))
    · rw [frame, rogue]
      cases s.rogue.iso with
      | idle => rfl
      | backoff _ => rfl
      | probing q =>
        exact congrArg (fun q => { s.rogue with iso := .probing q }) (q.mapBuilt_eq upstream)
    · refine State.Gained.congr gained ?_
      rw [frame]
    · have shape := frame
      generalize (s.mapped p).closeHeader (s.planned p).1 = t at shape ⊢
      rw [shape, mapped]

end Sys2Proof.Machine

/-! The check sequence of a test burst, its bit errors, and the fine round trip of a span (R30, R35, R36). -/

namespace Sys2Proof.Machine

open Sys2Proof

/-! ### The check sequence (R35) -/

theorem prbsStep_low (r : BitVec 11) : (prbsStep r).getLsbD 0 = (r.getLsbD 10 != r.getLsbD 8) := by
  unfold prbsStep
  cases r.getLsbD 10 != r.getLsbD 8 <;> simp

/-- A step moves the content of every stage to the next one. -/
theorem prbsStep_high (r : BitVec 11) {j : Nat} (hj : j < 10) : (prbsStep r).getLsbD (j + 1) = r.getLsbD j := by
  unfold prbsStep
  have wide : j + 1 < 11 := by omega
  cases r.getLsbD 10 != r.getLsbD 8 <;> simp [wide, BitVec.getLsbD_eq_getElem (show j < 11 by omega)]

theorem prbsStep_iterate (r : BitVec 11) {j m : Nat} (h : j + m ≤ 10) :
    (prbsStep^[m] r).getLsbD (j + m) = r.getLsbD j := by
  induction m with
  | zero => rfl
  | succ m ih =>
    rw [Function.iterate_succ_apply', ← Nat.add_assoc, prbsStep_high _ (by omega), ih (by omega)]

theorem prbsBits_length (n : Nat) (r : BitVec 11) : (prbsBits n r).length = n := by
  induction n generalizing r with
  | zero => rfl
  | succ n ih => rw [prbsBits, List.length_cons, ih]

theorem prbsBits_getElem? (n : Nat) (r : BitVec 11) {k : Nat} (hk : k < n) :
    (prbsBits n r)[k]? = some ((prbsStep^[k] r).getLsbD 10) := by
  induction n generalizing r k with
  | zero => omega
  | succ n ih =>
    cases k with
    | zero => rfl
    | succ k => exact ih _ (by omega)

theorem checkSequence_getElem? {k : Nat} (hk : k < 2048) :
    checkSequence[k]? = some ((prbsStep^[k] (BitVec.allOnes 11)).getLsbD 10) := prbsBits_getElem? _ _ hk

theorem checkSequence_length : checkSequence.length = 2048 := prbsBits_length _ _

theorem checkSequence_ones {k : Nat} (hk : k < 11) : checkSequence[k]? = some true := by
  have first := prbsStep_iterate (BitVec.allOnes 11) (j := 10 - k) (m := k) (by omega)
  rw [show 10 - k + k = 10 by omega] at first
  rw [checkSequence_getElem? (by omega), first, BitVec.getLsbD_allOnes]
  exact congrArg some (decide_eq_true (by omega))

/-- Each bit of the sequence is the sum of those 11 and 9 places before it. -/
theorem checkSequence_recurs {k : Nat} (hk : k + 11 < 2048) :
    checkSequence.getD (k + 11) false = (checkSequence.getD k false != checkSequence.getD (k + 2) false) := by
  have bit {n : Nat} (hn : n < 2048) :
      checkSequence.getD n false = (prbsStep^[n] (BitVec.allOnes 11)).getLsbD 10 := by
    rw [List.getD_eq_getElem?_getD, checkSequence_getElem? hn, Option.getD_some]
  rw [bit hk, bit (show k < 2048 by omega), bit (show k + 2 < 2048 by omega), Nat.add_comm k 11, Nat.add_comm k 2,
    Function.iterate_add_apply, Function.iterate_add_apply]
  generalize prbsStep^[k] (BitVec.allOnes 11) = r
  have eleventh : prbsStep^[11] r = prbsStep^[10] (prbsStep r) := rfl
  have low := prbsStep_iterate (prbsStep r) (j := 0) (m := 10) (by omega)
  have second := prbsStep_iterate r (j := 8) (m := 2) (by omega)
  rw [eleventh, low, second, prbsStep_low]

/-! ### Bit errors (R36) -/

theorem zipWith_eq_map_range {α β γ : Type} (f : α → β → γ) {l : List α} {m : List β} (a : α) (b : β) {n : Nat}
    (hl : l.length = n) (hm : n ≤ m.length) :
    List.zipWith f l m = (List.range n).map fun k => f (l.getD k a) (m.getD k b) := by
  refine List.ext_getElem (by simp [hl, hm]) fun k hk _ => ?_
  have inside : k < n := by simpa [hl, hm] using hk
  have inLeft : k < l.length := by omega
  have inRight : k < m.length := by omega
  rw [List.getElem_zipWith, List.getElem_map, List.getElem_range, List.getD_eq_getElem _ _ inLeft,
    List.getD_eq_getElem _ _ inRight]

/-- The bits of a payload, with zeros after its end. -/
theorem payloadBit (payload : List Byte) {k : Nat} (hk : k < 2048) :
    (byteBits payload ++ List.replicate 2048 false).getD k false = (payload.getD (k / 8) 0).getLsbD (7 - k % 8) := by
  have size : (byteBits payload).length = 8 * payload.length := by simp [byteBits_eq]
  by_cases inside : k < 8 * payload.length
  · rw [List.getD_append _ _ _ _ (by omega), byteBits_eq, List.getD_eq_getElem _ _ (by simpa using inside)]
    simp
  · have absent : payload.length ≤ k / 8 := by omega
    have zero (n : Nat) : (0 : Byte).getLsbD n = false := BitVec.getLsbD_zero
    rw [List.getD_append_right _ _ _ _ (by omega), List.getD_eq_default _ _ absent, zero,
      List.getD_eq_getElem _ _ (by rw [List.length_replicate]; omega), List.getElem_replicate]

theorem bitErrors_eq (payload : List Byte) : bitErrors payload = (List.range 2048).countP fun k =>
    checkSequence.getD k false != (payload.getD (k / 8) 0).getLsbD (7 - k % 8) := by
  rw [bitErrors, zipWith_eq_map_range _ false false checkSequence_length
    (by rw [List.length_append, List.length_replicate]; omega), List.countP_map]
  refine List.countP_congr fun k hk => ?_
  rw [Function.comp_apply, payloadBit payload (List.mem_range.mp hk)]
  rfl

/-! ### The fine round trip (R30) -/

/-- A good ranging burst of a span: its delimiter in the span, its check, and the tag of the window. -/
def Window.goodSpanBurst (w : Window) (b : Nat × List Byte) : Bool :=
  decide (16 * w.start ≤ b.1 ∧ b.1 < 16 * (w.start + w.length)) && bodyCheck b.2 && some (bodyTag b.2) == w.tag

theorem Window.goodSpanBurst_iff {w : Window} {b : Nat × List Byte} : w.goodSpanBurst b = true ↔
    16 * w.start ≤ b.1 ∧ b.1 < 16 * (w.start + w.length)
      ∧ (crcBytes (b.2.take 9)).toNat = field b.2 9 2 ∧ some (tagAt b.2 0) = w.tag := by
  simp [Window.goodSpanBurst, bodyCheck_iff, bodyTag, and_assoc]

theorem Window.fineTrip_eq (w : Window) (o : RoundObs) : w.fineTrip o =
    ((o.spans.flatMap fun r => if r.index = w.index then r.bursts else []).find? w.goodSpanBurst).map
      fun b => b.1 - 16 := rfl

theorem Window.fineTrip_eq_none_iff (w : Window) (o : RoundObs) : w.fineTrip o = none ↔
    ∀ b ∈ o.spans.flatMap fun r => if r.index = w.index then r.bursts else [], ¬ w.goodSpanBurst b = true := by
  rw [Window.fineTrip_eq, Option.map_eq_none_iff, List.find?_eq_none]

theorem Window.fineTrip_of_first {w : Window} {o : RoundObs} {before later : List (Nat × List Byte)}
    {b : Nat × List Byte}
    (bursts : (o.spans.flatMap fun r => if r.index = w.index then r.bursts else []) = before ++ b :: later)
    (bad : ∀ c ∈ before, ¬ w.goodSpanBurst c = true) (good : w.goodSpanBurst b = true) :
    w.fineTrip o = some (b.1 - 16) := by
  rw [Window.fineTrip_eq, bursts, List.find?_append, List.find?_eq_none.mpr bad, Option.none_or,
    List.find?_cons_of_pos good]
  rfl

end Sys2Proof.Machine

/-! The outcomes of ranging spans and of tests (R30 to R37, R42; O52). -/

namespace Sys2Proof.Machine

open Sys2Proof

variable {s t : State} {i : HomeIdx} {w : Window} {o : RoundObs} {p : Params} {round : Round} {q : Progress}

/-! ### A Set delay that is offered (R28, R33, R114) -/

theorem State.home_pushSetDelay (s : State) (i j : HomeIdx) (n : Nat) :
    (s.pushDirective (.setDelay i n)).home j =
      if j = i then { s.home i with marker := .queued } else s.home j := by
  rw [State.home_pushDirective]
  by_cases mine : j = i
  · subst mine
    simp [Directive.delays, Home.marked]
  · simp [Directive.delays, Home.marked, mine, Ne.symm mine]

/-- A Set delay of an enrolment joins the queue, or waits with its entry. -/
theorem State.offerEnrol_setDelay (s : State) (i : HomeIdx) (n : Nat) :
    (s.offerEnrol i (.setDelay i n)).home i = { s.home i with
      progress := if s.framer.queue.length < 32 then (s.home i).progress
        else (s.home i).progress.map fun p => { p with waiting := some (.setDelay i n) }
      marker := if s.framer.queue.length < 32 then .queued else (s.home i).marker }
    ∧ (s.offerEnrol i (.setDelay i n)).framer =
        { s.framer with queue := joined s.framer.queue (.setDelay i n) } := by
  by_cases room : s.framer.queue.length < 32
  · rw [State.offerEnrol, if_pos (State.dirRoom_iff.mpr room), joined, if_pos room, if_pos room, if_pos room,
      State.home_pushSetDelay, if_pos rfl]
    exact ⟨rfl, rfl⟩
  · rw [State.offerEnrol, if_neg fun h => room (State.dirRoom_iff.mp h), joined, if_neg room, if_neg room,
      if_neg room, State.home_congr (State.bump_homes ..), State.home_modProgress, if_pos rfl]
    exact ⟨rfl, rfl⟩

/-- A correction is made where its Set delay joins the queue, and is counted as dropped otherwise. -/
theorem State.offerCorrection_spec (s : State) (i : HomeIdx) (n : Nat) :
    let room := decide (s.framer.queue.length < 32)
    (s.offerCorrection i n).home i = { s.home i with
      entry := if room then { s.entry i with delay := some n } else s.entry i
      marker := if room then .queued else (s.home i).marker }
    ∧ (∀ j, j ≠ i → (s.offerCorrection i n).home j = s.home j)
    ∧ s.Gained (s.offerCorrection i n) (if room then [] else [.driftDropped])
    ∧ s.offerCorrection i n = { s with
        homes := (s.offerCorrection i n).homes, counters := (s.offerCorrection i n).counters
        framer := { s.framer with queue := joined s.framer.queue (.setDelay i n) } } := by
  intro room
  by_cases free : s.framer.queue.length < 32
  · have form : s.offerCorrection i n =
        (s.pushDirective (.setDelay i n)).modEntry i fun e => { e with delay := some n } := by
      rw [State.offerCorrection, if_pos (State.dirRoom_iff.mpr free)]
    simp only [room, free, decide_true, if_true, joined, form]
    refine ⟨?_, fun j other => ?_, .of_eq rfl, rfl⟩
    · rw [State.home_modEntry, if_pos rfl, State.pushDirective_entry, State.home_pushSetDelay, if_pos rfl]
    · rw [State.home_modEntry, if_neg other, State.home_pushSetDelay, if_neg other]
  · have form : s.offerCorrection i n = s.bump .driftDropped := by
      rw [State.offerCorrection, if_neg fun h => free (State.dirRoom_iff.mp h)]
    simp only [room, free, decide_false, Bool.false_eq_true, if_false, joined, form]
    exact ⟨rfl, fun _ _ => rfl, s.gained_bump _, rfl⟩

/-! ### What an outcome needs -/

theorem Progress.any_stage {g : Option Progress} {stage : Stage} :
    (g.any fun p => p.stage == stage) = true ↔ ∃ q, g = some q ∧ q.stage = stage := by
  cases g <;> simp

theorem State.rangingOutcome_of_other
    (other : ¬ ((s.entry w.index).state = .ranging ∧ (s.entry w.index).tag = w.tag
      ∧ ∃ q, (s.home w.index).progress = some q ∧ q.stage = .spanOutstanding round)) :
    s.rangingOutcome w o round = s := by
  refine if_neg fun due => other ?_
  obtain ⟨state, tag, stage⟩ := due
  exact ⟨state, tag, Progress.any_stage.mp stage⟩

theorem State.enrolTestOutcome_of_other
    (other : ¬ ((s.entry w.index).state = .testing ∧ (s.entry w.index).tag = w.tag
      ∧ ∃ q, (s.home w.index).progress = some q ∧ q.stage = .testOutstanding round)) :
    s.enrolTestOutcome p w o round = s := by
  refine if_neg fun due => other ?_
  obtain ⟨state, tag, stage⟩ := due
  exact ⟨state, tag, Progress.any_stage.mp stage⟩

/-- The enrolment of an entry that is not in service ends as Lost, with its Leave and its notice. -/
theorem State.failEnrolment_spec (out : (s.entry i).state.inService = false) (why : EnrolReason) (round : Round) :
    s.Departs (s.failEnrolment i .lost why round) i .lost (some ((s.entry i).leaveDirective i))
      ∧ (s.failEnrolment i .lost why round).bus = s.bus.offered
        (s.partingMessages i round ++ [(Notice.enrollFailed i (s.entry i).tagVal why).message s.reportStation]) :=
  ⟨s.departs_failEnrolment i .lost why round (.inl out), State.failEnrolment_bus ..⟩

/-! ### Ranging (R31, R32) -/

section

variable (state : (s.entry w.index).state = .ranging) (tag : (s.entry w.index).tag = w.tag)
  (progress : (s.home w.index).progress = some q) (stage : q.stage = .spanOutstanding round)
include state tag progress stage

theorem State.rangingOutcome_eq : s.rangingOutcome w o round =
    match w.fineTrip o with
    | none => s.failTry w.index round
    | some rf =>
      if rf ≤ s.target then
        (s.modHome w.index fun h =>
          { h with
            entry := h.entry.tested (s.target - rf)
            progress := h.progress.map fun p =>
              { p with coarse := rf / 16, tests := 0, stage := .awaitingSetDelay } }).offerEnrol w.index
          (.setDelay w.index (s.target - rf))
      else s.failEnrolment w.index .lost .outOfReach round :=
  if_pos ⟨state, tag, Progress.any_stage.mpr ⟨q, progress, stage⟩⟩

/-- In reach: the entry is Testing, with the D that brings its bursts to the target. -/
theorem State.rangingOutcome_reach {rf : Nat} (found : w.fineTrip o = some rf) (reach : rf ≤ s.target) :
    (s.rangingOutcome w o round).home w.index = { s.home w.index with
        entry := { s.entry w.index with
          state := .testing, delay := some (s.target - rf), level := some 128 }
        progress := some { q with
          coarse := rf / 16, tests := 0, stage := .awaitingSetDelay
          waiting := if s.framer.queue.length < 32 then q.waiting else some (.setDelay w.index (s.target - rf)) }
        marker := if s.framer.queue.length < 32 then .queued else (s.home w.index).marker }
      ∧ (s.rangingOutcome w o round).framer =
          { s.framer with queue := joined s.framer.queue (.setDelay w.index (s.target - rf)) } := by
  rw [State.rangingOutcome_eq state tag progress stage, found]
  dsimp only
  rw [if_pos reach]
  obtain ⟨home, framer⟩ := State.offerEnrol_setDelay
    (s.modHome w.index fun h =>
      { h with
        entry := h.entry.tested (s.target - rf)
        progress := h.progress.map fun p => { p with coarse := rf / 16, tests := 0, stage := .awaitingSetDelay } })
    w.index (s.target - rf)
  rw [home, framer, State.home_modHome, if_pos rfl, progress]
  refine ⟨?_, rfl⟩
  have queue (f : Home → Home) : (s.modHome w.index f).framer = s.framer := rfl
  rw [queue]
  split_ifs <;> rfl

theorem State.rangingOutcome_beyond {rf : Nat} (found : w.fineTrip o = some rf) (beyond : s.target < rf) :
    s.rangingOutcome w o round = s.failEnrolment w.index .lost .outOfReach round := by
  rw [State.rangingOutcome_eq state tag progress stage, found]
  exact if_neg (by omega)

theorem State.rangingOutcome_none (found : w.fineTrip o = none) :
    s.rangingOutcome w o round = s.failTry w.index round := by
  rw [State.rangingOutcome_eq state tag progress stage, found]

end

theorem State.failTry_again (progress : (s.home i).progress = some q) (left : q.tries < 2) (round : Round) :
    (s.failTry i round).home i = { s.home i with
      progress := some { q with tries := q.tries + 1, stage := .spanDue } } := by
  simp only [State.failTry, progress]
  rw [if_neg (by omega), State.home_modProgress, if_pos rfl, progress]
  rfl

theorem State.failTry_last (progress : (s.home i).progress = some q) (last : 2 ≤ q.tries) (round : Round) :
    s.failTry i round = s.failEnrolment i .lost .noRange round := by
  simp only [State.failTry, progress]
  exact if_pos last

theorem State.failTest_again (progress : (s.home i).progress = some q) (first : q.tests = 0) (round : Round) :
    (s.failTest i round).home i = { s.home i with progress := some { q with tests := 1, stage := .testDue } } := by
  simp only [State.failTest, progress]
  rw [if_neg (by omega), State.home_modProgress, if_pos rfl, progress, Option.map_some, first]

theorem State.failTest_last (progress : (s.home i).progress = some q) (last : 1 ≤ q.tests) (round : Round) :
    s.failTest i round = s.failEnrolment i .lost .poorLink round := by
  simp only [State.failTest, progress]
  exact if_pos last

theorem Entry.leaveDirective_of_ranging {e : Entry} (h : e.state = .ranging) (i : HomeIdx) :
    e.leaveDirective i = .leaveTag e.tagVal := if_pos h

theorem Entry.leaveDirective_of_testing {e : Entry} (h : e.state = .testing) (i : HomeIdx) :
    e.leaveDirective i = .leaveIndex i := by
  rw [Entry.leaveDirective, if_neg (by simp [h])]

/-! ### Tests (R36, R37, R42) -/

theorem Window.testOutcome_dark (dark : w.litIn o = false) (errMax : Nat) : w.testOutcome o errMax = .dark :=
  if_neg (ne_true_of_eq_false dark)

theorem Window.testOutcome_garbled (lit : w.litIn o = true) (none : w.decoded o = none) (errMax : Nat) :
    w.testOutcome o errMax = .garbled := by
  rw [Window.testOutcome, if_pos lit, none]

theorem Window.testOutcome_decoded {b : BurstObs} {f : Int} (lit : w.litIn o = true)
    (found : w.decoded o = some (b, f)) (errMax : Nat) : w.testOutcome o errMax =
      if 3 ≤ f.natAbs then .misaligned b.level.toNat f
      else if bitErrors b.payload ≤ errMax then .pass (bitErrors b.payload) b.level.toNat f
      else .fail (bitErrors b.payload) b.level.toNat f := by
  rw [Window.testOutcome, if_pos lit, found]
  rfl

section

variable (state : (s.entry w.index).state = .testing) (tag : (s.entry w.index).tag = w.tag)
  (progress : (s.home w.index).progress = some q) (stage : q.stage = .testOutstanding round)
include state tag progress stage

theorem State.enrolTestOutcome_eq : s.enrolTestOutcome p w o round =
    match w.testOutcome o p.errMax with
    | .pass errors level _ => s.passTest w.index errors level
    | .misaligned _ _ => (s.modEntry w.index Entry.reranged).failTry w.index round
    | .fail .. | .garbled | .dark | .cancelled => s.failTest w.index round :=
  if_pos ⟨state, tag, Progress.any_stage.mpr ⟨q, progress, stage⟩⟩

theorem State.enrolTestOutcome_pass {errors level : Nat} {offset : Int}
    (result : w.testOutcome o p.errMax = .pass errors level offset) :
    (s.enrolTestOutcome p w o round).home w.index = { s.home w.index with
        entry := { s.entry w.index with state := .held, level := some level }
        progress := some { q with stage := .waitingApproval, clock := some 0 } }
      ∧ (s.enrolTestOutcome p w o round).bus = s.bus.offered
        [(Notice.offer w.index (s.entry w.index).tagVal (s.target - (s.entry w.index).delay.getD 0) level
          errors).message s.reportStation] := by
  rw [State.enrolTestOutcome_eq state tag progress stage, result]
  dsimp only
  unfold State.passTest
  dsimp only
  refine ⟨?_, State.raise_bus ..⟩
  rw [State.home_congr (State.raise_homes ..), State.home_modHome, if_pos rfl, progress]
  rfl

theorem State.enrolTestOutcome_misaligned {level : Nat} {offset : Int}
    (result : w.testOutcome o p.errMax = .misaligned level offset) :
    s.enrolTestOutcome p w o round = (s.modEntry w.index Entry.reranged).failTry w.index round := by
  rw [State.enrolTestOutcome_eq state tag progress stage, result]

theorem State.enrolTestOutcome_fail (pass : ∀ e l f, w.testOutcome o p.errMax ≠ .pass e l f)
    (misaligned : ∀ l f, w.testOutcome o p.errMax ≠ .misaligned l f) :
    s.enrolTestOutcome p w o round = s.failTest w.index round := by
  rw [State.enrolTestOutcome_eq state tag progress stage]
  cases result : w.testOutcome o p.errMax with
  | pass e l f => exact absurd result (pass e l f)
  | misaligned l f => exact absurd result (misaligned l f)
  | fail _ _ _ | garbled | dark | cancelled => rfl

end

/-! ### Ranging in place (R33) -/

theorem State.inPlaceOutcome_eq (placed : (s.home w.index).inPlace = .placed round)
    (tag : (s.entry w.index).tag = w.tag) : s.inPlaceOutcome w o round =
      match w.fineTrip o with
      | none => (s.modHome w.index fun h => { h with inPlace := .idle }).bump .reRangeFailed
      | some rf =>
        let u := (s.modHome w.index fun h => { h with inPlace := .idle }).offerCorrection w.index (s.target - rf)
        if s.target < rf then u.bump .outOfReach else u := by
  rw [State.inPlaceOutcome]
  dsimp only
  rw [if_pos ⟨placed, tag⟩]
  cases w.fineTrip o with
  | none => rfl
  | some rf =>
    dsimp only
    have target (f : Home → Home) : (s.modHome w.index f).target = s.target := rfl
    rw [target]
    by_cases beyond : s.target < rf
    · rw [if_neg (by omega), if_pos beyond, Nat.sub_eq_zero_of_le (by omega)]
    · rw [if_pos (by omega), if_neg beyond]

/-- Settles O52: the sequence recurs (`checkSequence_recurs`), the first good burst is found by `List.find?`, and each
outcome is one branch of its function, which ends the enrolment or moves the entry on. -/
theorem enrolmentFollowsItsOutcomes : Obligations.EnrolmentFollowsItsOutcomes := by
  refine ⟨⟨checkSequence_length, fun k hk => checkSequence_ones hk, fun k hk => checkSequence_recurs hk⟩, bitErrors_eq,
    fun w o => ?_, fun s p w o round => ?_⟩
  · intro bursts good
    have iff (b : Nat × List Byte) : good b ↔ w.goodSpanBurst b = true := Window.goodSpanBurst_iff.symm
    refine ⟨(w.fineTrip_eq_none_iff o).trans (forall₂_congr fun b _ => not_congr (iff b).symm),
      fun before b later split bad isGood => Window.fineTrip_of_first split (fun c hc => mt (iff c).mpr (bad c hc))
        ((iff b).mp isGood)⟩
  · intro i result failed waits
    refine ⟨by unfold State.target; cases s.straps.reach <;> rfl, State.rangingOutcome_of_other,
      State.enrolTestOutcome_of_other, fun q progress tag => ⟨fun ranging stage => ?_, fun testing stage => ?_⟩,
      fun dark => Window.testOutcome_dark dark _, fun lit none => Window.testOutcome_garbled lit none _,
      fun b f lit found => Window.testOutcome_decoded lit found _, fun other => if_neg other, fun placed => ?_,
      fun other => if_neg ?_, fun placed tag => ?_, ?_⟩
    · intro t
      have fails (why : EnrolReason) :
          s.Departs (s.failEnrolment i .lost why round) i .lost (some (.leaveTag (s.entry i).tagVal))
            ∧ failed (s.failEnrolment i .lost why round) why := by
        have spec := State.failEnrolment_spec (s := s) (i := i) (by rw [ranging]; rfl) why round
        rwa [Entry.leaveDirective_of_ranging ranging] at spec
      refine ⟨fun rf => State.rangingOutcome_reach ranging tag progress stage, fun rf found beyond => ?_,
        fun found left => ?_, fun found last => ?_⟩
      · have ends : t = _ := State.rangingOutcome_beyond ranging tag progress stage found beyond
        rw [ends]
        exact fails .outOfReach
      · have again : t = _ := State.rangingOutcome_none ranging tag progress stage found
        rw [again]
        exact State.failTry_again progress left round
      · have ends : t = _ := State.rangingOutcome_none ranging tag progress stage found
        rw [ends, State.failTry_last progress last]
        exact fails .noRange
    · intro t
      refine ⟨fun errors level offset => State.enrolTestOutcome_pass testing tag progress stage,
        fun level offset res left => ?_, fun level offset res last => ?_, fun pass misaligned => ?_⟩
      · have again : t = _ := State.enrolTestOutcome_misaligned testing tag progress stage res
        have reranged : (s.modEntry i Entry.reranged).home i = { s.home i with entry := (s.entry i).reranged } := by
          rw [State.home_modEntry, if_pos rfl]
        rw [again, State.failTry_again (q := q) (by rw [reranged]; exact progress) left round, reranged]
        rfl
      · have reranged : (s.modEntry i Entry.reranged).home i = { s.home i with entry := (s.entry i).reranged } := by
          rw [State.home_modEntry, if_pos rfl]
        have ends : t = _ := State.enrolTestOutcome_misaligned testing tag progress stage res
        have entry : (s.modEntry i Entry.reranged).entry i = (s.entry i).reranged := congrArg Home.entry reranged
        have spec := State.failEnrolment_spec (s := s.modEntry i Entry.reranged) (i := i)
          (by rw [entry]; rfl) .noRange round
        rw [Entry.leaveDirective_of_ranging (by rw [entry]; rfl), entry,
          State.partingMessages_modEntry rfl] at spec
        rw [ends, State.failTry_last (q := q) (by rw [reranged]; exact progress) last]
        exact spec
      · have tested : t = _ := State.enrolTestOutcome_fail testing tag progress stage pass misaligned
        rw [tested]
        refine ⟨fun first => State.failTest_again progress first round, fun last => ?_⟩
        have spec := State.failEnrolment_spec (s := s) (i := i) (by rw [testing]; rfl) .poorLink round
        rw [Entry.leaveDirective_of_testing testing] at spec
        rw [State.failTest_last progress last]
        exact spec
    · intro t
      have ends : t = (s.modHome i fun h => { h with retest := .idle }).raise
          (.testResult i (s.entry i).tagVal result) := if_pos placed
      have told := (s.modHome i fun h => { h with retest := .idle }).raise_told
        (.testResult i (s.entry i).tagVal result)
      have home (j : HomeIdx) : t.home j = if j = i then { s.home i with retest := .idle } else s.home j := by
        rw [ends, State.home_congr (State.raise_homes ..), State.home_modHome]
      refine ⟨by rw [home, if_pos rfl], fun j other => by rw [home, if_neg other], ?_, ?_⟩
      · rw [← ends] at told
        rw [told]
        rfl
      · rw [ends]
        exact (State.Gained.of_eq rfl).raise _
    · rintro ⟨placed, tag⟩
      rcases other with away | away
      · exact away placed
      · exact away tag
    · intro t room
      have begun := State.inPlaceOutcome_eq (o := o) placed tag
      cases found : w.fineTrip o with
      | none =>
        rw [found] at begun
        have failed : t = (s.modHome i fun h => { h with inPlace := .idle }).bump .reRangeFailed := begun
        have home (j : HomeIdx) : t.home j = if j = i then { s.home i with inPlace := .idle } else s.home j := by
          rw [failed, State.home_congr (State.bump_homes ..), State.home_modHome]
        refine ⟨fun j other => by rw [home, if_neg other], fun _ => ⟨by rw [home, if_pos rfl], ?_, ?_⟩, fun rf h => ?_⟩
        · rw [failed]
          exact (State.gained_bump _).base rfl
        · rw [failed]
          rfl
        · cases h
      | some rf =>
        rw [found] at begun
        have spec := (s.modHome i fun h => { h with inPlace := .idle }).offerCorrection_spec i (s.target - rf)
        obtain ⟨u, hu⟩ :
            ∃ u, u = (s.modHome i fun h => { h with inPlace := .idle }).offerCorrection i (s.target - rf) := ⟨_, rfl⟩
        have corrected : t = if s.target < rf then u.bump .outOfReach else u := by
          rw [hu]
          exact begun
        rw [← hu] at spec
        obtain ⟨home, others, gained, frame⟩ := spec
        rw [State.home_modHome, if_pos rfl] at home
        have homes : t.homes = u.homes := by
          rw [corrected]
          split <;> rfl
        refine ⟨fun j other => ?_, fun h => ?_, fun rf' h => ?_⟩
        · rw [State.home_congr homes, others j other, State.home_modHome, if_neg other]
        · cases h
        · cases h
          refine ⟨?_, ?_, ?_⟩
          · have entry (f : Home → Home) (same : (f (s.home i)).entry = s.entry i) :
                (s.modHome i f).entry i = s.entry i := by
              rw [State.entry, State.home_modHome, if_pos rfl, same]
            rw [State.home_congr homes, home, entry _ rfl]
            rfl
          · rw [corrected]
            exact (gained.base (u := s) rfl).bump_if _ _
          · rw [corrected]
            clear home others gained homes corrected hu
            split
            · rw [frame]
              rfl
            · rw [frame]
              rfl
    · unfold State.takeOutcome
      cases w.purpose <;> rfl

end Sys2Proof.Machine

/-! What is found in a window, and what a payload holds (R109, R110, R116, R152). -/

namespace Sys2Proof.Machine

open Sys2Proof

variable {s t : State} {i j : HomeIdx} {w : Window} {o : RoundObs} {p : Params} {b : BurstObs} {f : Int}

/-! ### The burst of a window (R109, R110, R116) -/

theorem Window.litIn_iff : w.litIn o = true ↔ ∃ q ∈ o.lit, w.start ≤ q ∧ q < w.start + w.length := by
  simp [Window.litIn, Window.holds]

theorem Window.offset_eq_some_iff : w.offset b = some f ↔
    (∃ d, b.delimiter = some d ∧ f = (d : Int) - (16 * w.start + 16 : Nat)) ∧ -31 ≤ f ∧ f ≤ 31 := by
  unfold Window.offset Window.expected
  cases b.delimiter with
  | none => simp
  | some d =>
    dsimp only
    by_cases near : -31 ≤ (d : Int) - (16 * w.start + 16 : Nat) ∧ (d : Int) - (16 * w.start + 16 : Nat) ≤ 31
    · rw [if_pos near]
      constructor
      · intro h
        cases h
        exact ⟨⟨d, rfl, rfl⟩, near⟩
      · rintro ⟨⟨e, he, rfl⟩, -⟩
        cases he
        rfl
    · rw [if_neg near]
      constructor
      · intro h
        cases h
      · rintro ⟨⟨e, he, rfl⟩, close⟩
        cases he
        exact absurd close near

theorem Window.found_eq_some_iff : w.found o = some (b, f) ↔
    (∃ q ∈ o.lit, w.start ≤ q ∧ q < w.start + w.length) ∧ (o.windows.find? fun b => b.index == w.index) = some b
      ∧ (∃ d, b.delimiter = some d ∧ f = (d : Int) - (16 * w.start + 16 : Nat)) ∧ -31 ≤ f ∧ f ≤ 31 := by
  rw [← Window.litIn_iff, ← Window.offset_eq_some_iff]
  unfold Window.found Window.burst
  cases w.litIn o with
  | false => simp
  | true =>
    cases (o.windows.find? fun b => b.index == w.index) with
    | none => simp
    | some c =>
      simp only [if_true, Option.map_eq_some_iff, Prod.mk.injEq, Option.some.injEq, true_and]
      constructor
      · rintro ⟨d, hd, rfl, rfl⟩
        exact ⟨rfl, hd⟩
      · rintro ⟨rfl, hd⟩
        exact ⟨f, hd, rfl, rfl⟩

theorem Window.headerGood_iff {h : List Byte} : w.headerGood h = true ↔
    (crcBytes (h.take 6)).toNat = field h 6 2 ∧ byteAt h 0 % 64 = w.index.val
      ∧ (w.purpose = .data → field h 2 2 ≤ 16 * w.payload) ∧ (w.purpose = .poll → field h 2 2 = 0) := by
  unfold Window.headerGood headerCheck headerIndex headerLength
  cases w.purpose <;> simp [and_assoc]

theorem Window.decoded_eq_some_iff :
    w.decoded o = some (b, f) ↔ w.found o = some (b, f) ∧ w.headerGood b.header = true := by
  unfold Window.decoded
  cases w.found o with
  | none => simp
  | some c =>
    dsimp only
    constructor
    · intro h
      split at h
      · rename_i good
        cases h
        exact ⟨rfl, good⟩
      · cases h
    · rintro ⟨h, good⟩
      cases h
      exact if_pos good

theorem Window.overlaps_iff : w.overlaps o = true ↔
    (w.purpose = .data ∨ w.purpose = .poll ∨ w.purpose = .retest)
      ∧ ∃ b f, w.found o = some (b, f) ∧ w.preset + 12 < b.level.toNat := by
  have levelled : w.levelled = true ↔ w.purpose = .data ∨ w.purpose = .poll ∨ w.purpose = .retest := by
    unfold Window.levelled
    cases w.purpose <;> simp
  rw [Window.overlaps, Bool.and_eq_true, levelled]
  refine and_congr_right fun _ => ?_
  cases w.found o with
  | none => simp
  | some c =>
    simp only [decide_eq_true_eq, Option.some.injEq]
    exact ⟨fun h => ⟨c.1, c.2, rfl, h⟩, by rintro ⟨b, f, rfl, h⟩; exact h⟩

/-! ### The frames of a payload (R152) -/

theorem field_two_bytes {n : Nat} (hn : n < 65536) (rest : List Byte) : field (bytesOf 2 n ++ rest) 0 2 = n := by
  have read := field_append [] (bytesOf 2 n) rest
  rw [bytesOf_length, List.nil_append, List.length_nil, natOf_bytesOf] at read
  rw [read]
  exact Nat.mod_eq_of_lt hn

/-- A frame of a length in range is taken, and the rest of the payload follows. -/
theorem parseFrames_frame {bytes : List Byte} (short : 64 ≤ bytes.length) (long : bytes.length ≤ 2000) (n : Nat)
    (rest : List Byte) : parseFrames (n + 1) (bytesOf 2 bytes.length ++ bytes ++ rest) =
      (bytes :: (parseFrames n rest).1, (parseFrames n rest).2) := by
  have length := field_two_bytes (n := bytes.length) (by omega) (bytes ++ rest)
  have size : (bytesOf 2 bytes.length).length = 2 := bytesOf_length ..
  have skip : (bytesOf 2 bytes.length ++ (bytes ++ rest)).drop (bytes.length + 2) = rest := by
    rw [← List.append_assoc]
    exact List.drop_left' (by rw [List.length_append, size, Nat.add_comm])
  have body : ((bytesOf 2 bytes.length ++ (bytes ++ rest)).drop 2).take bytes.length = bytes := by
    rw [List.drop_left' size, List.take_left]
  rw [List.append_assoc, parseFrames, length]
  dsimp only
  rw [if_neg (by rw [List.length_append, size]; omega), if_neg (by omega), if_pos ⟨short, long, by
    rw [List.length_append, List.length_append, size]; omega⟩, skip, body]

/-- Frames in range are taken one by one, and what follows them decides the end. -/
theorem parseFrames_frames {frames : List (List Byte)} (range : ∀ f ∈ frames, 64 ≤ f.length ∧ f.length ≤ 2000)
    (n : Nat) (rest : List Byte) :
    parseFrames (frames.length + n) (frames.flatMap (fun f => bytesOf 2 f.length ++ f) ++ rest) =
      (frames ++ (parseFrames n rest).1, (parseFrames n rest).2) := by
  induction frames with
  | nil => simp
  | cons f frames ih =>
    obtain ⟨short, long⟩ := range f List.mem_cons_self
    rw [List.flatMap_cons, List.append_assoc, List.length_cons, Nat.add_right_comm, parseFrames_frame short long,
      ih fun g hg => range g (List.mem_cons_of_mem f hg)]
    rfl

theorem parseFrames_end {rest : List Byte} (ends : rest.length < 2 ∨ field rest 0 2 = 0) (n : Nat) :
    parseFrames n rest = ([], false) := by
  cases n with
  | zero => rfl
  | succ n =>
    rw [parseFrames]
    dsimp only
    split
    · rfl
    · rename_i long
      exact if_pos (ends.resolve_left long)

theorem parseFrames_malformed {rest : List Byte} (long : 2 ≤ rest.length)
    (bad : (0 < field rest 0 2 ∧ field rest 0 2 < 64) ∨ 2000 < field rest 0 2 ∨ rest.length < field rest 0 2 + 2)
    (next : field rest 0 2 ≠ 0) (n : Nat) : parseFrames (n + 1) rest = ([], true) := by
  rw [parseFrames]
  dsimp only
  rw [if_neg (by omega), if_neg next, if_neg (by omega)]

theorem field_zeros (k n : Nat) : field (List.replicate k 0) 0 n = 0 := by
  have zeros (m : Nat) : natOf (List.replicate m 0) = 0 := by
    induction m with
    | zero => rfl
    | succ m ih =>
      rw [List.replicate_succ, natOf_cons, ih]
      simp
  rw [field, List.drop_zero, List.take_replicate]
  exact zeros _

end Sys2Proof.Machine

/-! What a decoded burst brings its home: offset, gain, level, doze wish and payload (R92, R111 to R116, R144; O53). -/

namespace Sys2Proof.Machine

open Sys2Proof

variable {s t : State} {i j : HomeIdx} {w : Window} {p : Params} {round : Round} {gains : Bool}

/-! ### The arrival offset (R113 to R115) -/

theorem State.applyOffset_idle {n : Int} (idle : (s.home i).marker ≠ .clear ∨ n.natAbs < 3) :
    s.applyOffset p gains round i n = s := if_pos idle

theorem State.applyOffset_acts {n : Int} (clear : (s.home i).marker = .clear) (far : 3 ≤ n.natAbs) :
    s.applyOffset p gains round i n =
      if 8 ≤ n.natAbs ∧ gains = true then ((s.correctDelay i n).gain p i round).decayInTurn i
      else s.correctDelay i n := by
  refine if_neg ?_
  rintro (marked | near)
  · exact marked clear
  · omega

/-- An offset whose correction lies in reach corrects the delay where the queue has room. -/
theorem State.correctDelay_within {n : Int} {d : Nat} (delay : (s.entry i).delay = some d)
    (within : 0 ≤ (d : Int) - n ∧ (d : Int) - n ≤ (s.target : Int)) :
    s.correctDelay i n =
      if s.framer.queue.length < 32 then (s.offerCorrection i ((d : Int) - n).toNat).bump .driftCorrection
      else s.offerCorrection i ((d : Int) - n).toNat := by
  unfold State.correctDelay
  rw [delay, Option.getD_some]
  dsimp only
  rw [if_pos within]
  simp only [State.dirRoom_iff]

theorem State.correctDelay_beyond {n : Int} {d : Nat} (delay : (s.entry i).delay = some d)
    (beyond : ¬ (0 ≤ (d : Int) - n ∧ (d : Int) - n ≤ (s.target : Int))) :
    (s.correctDelay i n).home i = { s.home i with
        inPlace := match (s.home i).inPlace with
          | .placed k => .placed k
          | _ => .asked (((s.target : Int) - d + n) / 16).toNat }
      ∧ (∀ j, j ≠ i → (s.correctDelay i n).home j = s.home j)
      ∧ s.Gained (s.correctDelay i n) [.reRangeRequest]
      ∧ s.correctDelay i n = { s with
          homes := (s.correctDelay i n).homes, counters := (s.correctDelay i n).counters } := by
  unfold State.correctDelay
  rw [delay, Option.getD_some]
  dsimp only
  rw [if_neg beyond]
  refine ⟨?_, fun j other => ?_, (s.gained_bump _).congr rfl, rfl⟩
  · rw [State.home_modHome, if_pos rfl]
    have same : (s.bump .reRangeRequest).home i = s.home i := rfl
    rw [same]
    cases h : (s.home i).inPlace with
    | placed k =>
      dsimp only
      rw [← h]
    | idle => rfl
    | asked c => rfl
  · rw [State.home_modHome, if_neg other]
    rfl

/-! ### Gains and decays (R144, R145; log 32) -/

theorem State.decayInTurn_of_free (free : i ∉ s.rogue.owed) : s.decayInTurn i = s := if_neg free

theorem State.decayInTurn_waits (more : i ∈ s.rogue.owed.erase i) :
    s.decayInTurn i = { s with rogue := { s.rogue with owed := s.rogue.owed.erase i } } := by
  rw [State.decayInTurn, if_pos (List.mem_of_mem_erase more)]
  exact if_pos more

theorem State.decayInTurn_decays (due : i ∈ s.rogue.owed) (last : i ∉ s.rogue.owed.erase i) :
    (s.decayInTurn i).home i = { s.home i with entry := { s.entry i with score := (s.entry i).score - 1 } }
      ∧ (∀ j, j ≠ i → (s.decayInTurn i).home j = s.home j)
      ∧ s.decayInTurn i = { s with
          homes := (s.decayInTurn i).homes, rogue := { s.rogue with owed := s.rogue.owed.erase i } } := by
  have decays : s.decayInTurn i =
      ({ s with rogue := { s.rogue with owed := s.rogue.owed.erase i } } : State).modEntry i Entry.decayed := by
    rw [State.decayInTurn, if_pos due]
    exact if_neg last
  refine ⟨?_, fun j other => ?_, s.decayInTurn_eq i⟩
  · rw [decays, State.home_modEntry, if_pos rfl]
    rfl
  · rw [decays, State.home_modEntry, if_neg other]
    rfl

/-- A gain that does not mute raises the score and changes nothing else. -/
theorem State.gain_raises
    (low : min ((s.entry i).score + 1) 31 < p.misLim ∨ (s.entry i).state ≠ .active ∧ (s.entry i).state ≠ .dozing) :
    s.gain p i round = s.modEntry i fun e => { e with score := min ((s.entry i).score + 1) 31 } := by
  refine if_neg ?_
  rintro ⟨reached, served⟩
  rcases low with low | ⟨active, dozing⟩
  · omega
  · exact served.elim active dozing

/-- A gain that reaches the limit mutes an entry in service. -/
theorem State.gain_mutes (reached : p.misLim ≤ min ((s.entry i).score + 1) 31)
    (served : (s.entry i).state = .active ∨ (s.entry i).state = .dozing) :
    s.gain p i round =
      (((s.modEntry i fun e => { e with score := min ((s.entry i).score + 1) 31 }).muteHome i .misbehaving
        round).bump .misbehaviourMute).raise
          (.homeMisbehaving i (s.entry i).tagVal (min ((s.entry i).score + 1) 31)) := if_pos ⟨reached, served⟩

theorem State.gain_mutes_spec (reached : p.misLim ≤ min ((s.entry i).score + 1) 31)
    (served : (s.entry i).state = .active ∨ (s.entry i).state = .dozing) :
    let e := s.entry i
    let score := min (e.score + 1) 31
    let t := s.gain p i round
    t.home i = { s.home i with
        entry := { e with
          score, state := .muted, mute := some .misbehaving, backlog := none, wish := none, dozeLeft := none
          probe := false }
        retest := .idle, keptWake := false }
      ∧ t.counter .misbehaviourMute = min (s.counter .misbehaviourMute + 1) counterMax
      ∧ t.framer = s.framer ∧ t.bars = s.bars ∧ t.banks = s.banks
      ∧ t.bus = s.bus.offered (s.partingMessages i round
          ++ [(Notice.homeMisbehaving i e.tagVal score).message s.reportStation]) := by
  intro e score t
  have mutes : t = (((s.modEntry i fun e => { e with score := score }).muteHome i .misbehaving round).bump
      .misbehaviourMute).raise (.homeMisbehaving i e.tagVal score) := State.gain_mutes reached served
  have home : (s.modEntry i fun e => { e with score := score }).home i =
      { s.home i with entry := { s.entry i with score } } := by
    rw [State.home_modEntry, if_pos rfl]
  have entry : (s.modEntry i fun e => { e with score := score }).entry i = { s.entry i with score } :=
    congrArg Home.entry home
  rw [mutes]
  refine ⟨?_, ?_, by simp, by simp, by simp, ?_⟩
  · rw [State.home_congr ((State.raise_homes ..).trans (State.bump_homes ..)), State.muteHome_self, entry, home]
    rfl
  · rw [State.counter_raise (by decide), State.counter_bump, State.counter_muteHome (by decide) (.inl (by decide))]
    exact if_pos rfl
  · rw [State.raise_bus, State.bump_bus, State.muteHome_bus, State.partingMessages_modEntry rfl, Bus.offered_append,
      State.reportStation_congr (s := s) (by simp)]
    rfl

/-! ### Level and doze wish (R92, R93, R116) -/

theorem State.learnLevel_learns {m : Nat} (top : m ≤ w.preset + 12) (bottom : w.preset ≤ m + 12) :
    s.learnLevel w m = s.modEntry w.index fun e => { e with level := e.level.map fun l => (3 * l + m + 2) / 4 } := by
  rw [State.learnLevel, if_neg (by omega), if_neg (by omega)]

/-- What a doze wish makes of an entry. -/
theorem State.applyWish_eq (s : State) (p : Params) (i : HomeIdx) (wish : Bool) :
    s.applyWish p i wish =
      let noted := s.modEntry i fun e => { e with wish := some wish }
      if wish = true ∧ (s.entry i).balance ≤ 0 then
        if s.framer.queue.length < 32 then
          ((noted.pushDirective (.dozeGranted i (9 * p.upkeep))).dozeHome i (9 * p.upkeep)).bump .dozeGranted
        else noted.bump .dozeDeferred
      else noted := by
  have entry : ((s.modEntry i fun e => { e with wish := some wish }).entry i).balance = (s.entry i).balance := by
    rw [State.entry, State.home_modEntry, if_pos rfl]
  unfold State.applyWish
  simp only [entry, State.dirRoom_iff]
  rfl

end Sys2Proof.Machine

/-! A decoded burst, whole (R111, R112; O53). -/

namespace Sys2Proof.Machine

open Sys2Proof

variable {s t : State} {i j : HomeIdx} {w : Window} {p : Params} {round : Round} {gains : Bool} {b : BurstObs} {n : Int}

theorem State.cancelRetest_frame (s : State) (i : HomeIdx) : s.cancelRetest i = { s with
    homes := (s.cancelRetest i).homes, counters := (s.cancelRetest i).counters, bus := (s.cancelRetest i).bus } := by
  unfold State.cancelRetest
  split
  · rfl
  · unfold State.raise
    split <;> rfl

/-- A doze that is granted: its directive joins the queue, and the home dozes. -/
theorem State.applyWish_dozes (wished : (s.entry i).balance ≤ 0) (room : s.framer.queue.length < 32) :
    let t := s.applyWish p i true
    t.home i = { s.home i with
        entry := { s.entry i with state := .dozing, dozeLeft := some (9 * p.upkeep), wish := none }
        retest := .idle, keptWake := false }
      ∧ (∀ j, j ≠ i → t.home j = s.home j)
      ∧ t.counter .dozeGranted = min (s.counter .dozeGranted + 1) counterMax
      ∧ t.bus = s.bus.offered (s.cancelMessages i)
      ∧ t = { s with
          homes := t.homes, counters := t.counters, bus := t.bus
          framer := { s.framer with queue := s.framer.queue ++ [.dozeGranted i (9 * p.upkeep)] } } := by
  intro t
  obtain ⟨v, hv⟩ : ∃ v, v = (s.modEntry i fun e => { e with wish := some true }).pushDirective
      (.dozeGranted i (9 * p.upkeep)) := ⟨_, rfl⟩
  have dozes : t = (v.dozeHome i (9 * p.upkeep)).bump .dozeGranted := by
    have form := s.applyWish_eq p i true
    dsimp only at form
    rw [if_pos ⟨rfl, wished⟩, if_pos room, ← hv] at form
    exact form
  have noted (j : HomeIdx) :
      v.home j = if j = i then { s.home i with entry := { s.entry i with wish := some true } } else s.home j := by
    rw [hv, State.home_pushDirective]
    exact (State.home_modEntry ..)
  have home : v.home i = { s.home i with entry := { s.entry i with wish := some true } } := by
    rw [noted, if_pos rfl]
  have cancelled : (v.cancelRetest i).home i = _ := v.cancelRetest_self i
  have messages : v.cancelMessages i = s.cancelMessages i := by
    have entry : v.entry i = { s.entry i with wish := some true } := congrArg Home.entry home
    rw [State.cancelMessages, State.cancelMessages, home, entry, State.reportStation_congr (s := s) (by rw [hv]; rfl)]
    rfl
  have frame : v = { s with
      homes := v.homes
      framer := { s.framer with queue := s.framer.queue ++ [.dozeGranted i (9 * p.upkeep)] } } := by
    rw [hv]
    rfl
  rw [dozes]
  refine ⟨?_, fun j other => ?_, ?_, ?_, ?_⟩
  · rw [State.home_congr (State.bump_homes ..), State.dozeHome, State.home_modHome, if_pos rfl, cancelled, home]
    rfl
  · rw [State.home_congr (State.bump_homes ..), State.dozeHome, State.home_modHome, if_neg other,
      State.cancelRetest_home _ _ _ other, noted, if_neg other]
  · have kept : (v.dozeHome i (9 * p.upkeep)).counter .dozeGranted = (v.cancelRetest i).counter .dozeGranted := rfl
    rw [State.counter_bump, if_pos rfl, kept, State.counter_cancelRetest (by decide),
      State.counter_congr (s := s) (by rw [frame])]
  · have told : (v.dozeHome i (9 * p.upkeep)).bus = (v.cancelRetest i).bus := rfl
    rw [State.bump_bus, told, State.cancelRetest_bus, messages]
    rw [frame]
  · have shape := v.cancelRetest_frame i
    unfold State.dozeHome
    generalize v.cancelRetest i = u at shape
    rw [shape]
    generalize v.homes = homes at frame
    rw [frame]
    rfl

/-! ### The payload (R112, R152 to R154) -/

theorem State.handPayload_idle (other : w.purpose ≠ .data) : s.handPayload w b = s := if_neg other

/-- The payload of a Data burst: its frames go to the switch, and its length is billed upward. -/
theorem State.handPayload_data {r : UsageRecord} {band : Fin 4} (data : w.purpose = .data)
    (record : s.liveRecord w.index = some r) (current : s.currentBand = some band) :
    let t := s.handPayload w b
    let length := field b.header 2 2
    let payload := b.payload.take length ++ List.replicate (length - b.payload.length) 0
    let parsed := parseFrames (length + 1) payload
    let count := r.up[band.val] + length
    let top := 2 ^ 40 - 1
    t.toSwitch = s.toSwitch ++ parsed.1.map (fun f => { index := w.index, bytes := f })
      ∧ t.liveRecord w.index = some
          { r with
            up := r.up.set band.val (min count top) band.isLt
            flags := { r.flags with saturated := r.flags.saturated || decide (top < count) } }
      ∧ (∀ j, j ≠ w.index → t.liveRecord j = s.liveRecord j)
      ∧ s.Gained t
          ((if parsed.2 then [.upstreamMalformed] else [])
            ++ if top < count ∨ top ≤ r.up[band.val] then [.counterSaturated] else [])
      ∧ t = { s with toSwitch := t.toSwitch, banks := { s.banks with live := t.banks.live }
                     counters := t.counters } := by
  intro t length payload parsed count top
  obtain ⟨u, hu⟩ : ∃ u : State, u = { s with
      toSwitch := s.toSwitch ++ parsed.1.map fun f => ({ index := w.index, bytes := f } : Frame) } := ⟨_, rfl⟩
  obtain ⟨v, hv⟩ : ∃ v : State, v = if parsed.2 then u.bump .upstreamMalformed else u := ⟨_, rfl⟩
  have frame : v = { s with
      toSwitch := s.toSwitch ++ parsed.1.map (fun f => ({ index := w.index, bytes := f } : Frame))
      counters := v.counters } := by
    rw [hv, hu]
    split <;> rfl
  have hands : t = v.countBytes w.index true length := by
    rw [hv, hu]
    exact if_pos data
  have held : v.liveRecord w.index = some r := (State.liveRecord_congr (by rw [frame]) _).trans record
  have band' : v.currentBand = some band := by
    rw [frame]
    exact current
  have malformed : s.Gained v (if parsed.2 then [.upstreamMalformed] else []) := by
    have counted := (State.Gained.of_eq (s := s) (t := u) (by rw [hu])).bump_if (parsed.2 = true) .upstreamMalformed
    rw [← hv, List.append_nil] at counted
    exact counted
  rw [State.countBytes_of_record held band' true] at hands
  obtain ⟨q, hq⟩ : ∃ q, q = v.recording w.index (r.counted true band length) := ⟨_, rfl⟩
  have billed : t = if top < count ∨ top ≤ r.up[band.val] then q.bump .counterSaturated else q := by
    rw [hq]
    exact hands
  have outside : t = { q with counters := t.counters } := by
    rw [billed]
    split <;> rfl
  have recorded : q = { v with banks := { v.banks with live := q.banks.live } } := by rw [hq]; rfl
  have records (j : HomeIdx) : t.liveRecord j = q.liveRecord j := State.liveRecord_congr (by rw [outside]) j
  refine ⟨?_, ?_, fun j other => ?_, ?_, ?_⟩
  · rw [outside, recorded, frame]
  · rw [records, hq, State.liveRecord_recording held, if_pos rfl]
    rfl
  · rw [records, hq, State.liveRecord_recording held, if_neg other]
    exact State.liveRecord_congr (by rw [frame]) j
  · rw [billed]
    exact ((malformed.congr (by rw [recorded])).bump_if _ _).perm List.perm_append_comm
  · rw [outside, recorded, frame]

theorem State.applyDecoded_of_other (other : (s.entry w.index).tag ≠ w.tag) :
    s.applyDecoded p gains round w b n = s.bump .staleBurst := if_pos other

/-- What a burst for its home's own tag does, by the state of the home (R111). -/
def State.decodedAs (s : State) (p : Params) (gains : Bool) (round : Round) (w : Window) (b : BurstObs) (n : Int) :
    EState → State
  | .active =>
    if w.purpose = .data ∨ w.purpose = .poll then
      ((((s.applyBacklog w.index (headerBacklog b.header)).handPayload w b).applyWish p w.index
        (headerWish b.header))).applyLine p gains round w b n
    else if w.purpose = .retest then s.applyLine p gains round w b n
    else s.bump .staleBurst
  | .dozing =>
    if w.purpose = .data ∨ w.purpose = .poll then
      ((s.applyBacklog w.index (headerBacklog b.header)).handPayload w b).applyLine p gains round w b n
    else s.bump .staleBurst
  | .held => if w.purpose = .poll then s.applyLine p gains round w b n else s.bump .staleBurst
  | .muted =>
    let counted := if 0 < headerLength b.header then s.bump .staleBurst else s
    if w.purpose = .enrolTest then counted else counted.applyLine p gains round w b n
  | .testing => if w.purpose = .enrolTest then s else s.bump .staleBurst
  | .vacant | .ranging | .retired => s.bump .staleBurst

theorem State.applyDecoded_of_state {x : EState} (tag : (s.entry w.index).tag = w.tag)
    (state : (s.entry w.index).state = x) :
    s.applyDecoded p gains round w b n = s.decodedAs p gains round w b n x := by
  unfold State.applyDecoded
  dsimp only
  rw [if_neg (not_not.mpr tag), state]
  cases x <;> rfl

/-- Settles O53: what is found in a window (`Window.decoded_eq_some_iff`), the table of a decoded burst by the state of
its home, and the parts of a burst one by one. -/
theorem decodedBurstReportsForItsHome : Obligations.DecodedBurstReportsForItsHome := by
  refine ⟨fun w o => ?_, fun s p gains o round w => ?_, fun s p gains round w b n => ?_,
    fun s p gains round i n d delay => ?_, fun s i => ?_, fun s p round i => ?_, fun s w m => ?_,
    fun s p i wish => ?_, fun s w b r band => ?_, fun frames n k range few => ?_, fun frames n rest range few => ?_⟩
  · intro levelled at_ good
    refine ⟨fun b f => ?_, ?_⟩
    · rw [Window.decoded_eq_some_iff, Window.found_eq_some_iff, Window.headerGood_iff]
    · rw [Window.overlaps_iff]
      exact and_congr_right fun _ => exists₂_congr fun b f => and_congr_left fun _ => Window.found_eq_some_iff
  · refine ⟨fun idle => ?_, fun window lit => ?_⟩
    · unfold State.applyBurst
      refine if_pos ?_
      rcases idle with none | dark
      · simp [none]
      · simp [dark]
    · intro u
      unfold State.applyBurst
      exact if_neg (by simp [window, lit])
  · intro i e t reports line reported stale
    refine ⟨State.applyDecoded_of_other, fun tag => ?_⟩
    have form {x : EState} (state : e.state = x) : t = _ := State.applyDecoded_of_state tag state
    have silent {x : EState} (state : e.state = x) (quiet : x = .vacant ∨ x = .ranging ∨ x = .retired) : t = stale := by
      rw [form state]
      rcases quiet with rfl | rfl | rfl <;> rfl
    refine ⟨fun active reports => (form active).trans (if_pos reports), fun active retest => ?_,
      fun dozing reports => (form dozing).trans (if_pos reports), fun held poll => (form held).trans (if_pos poll),
      fun muted other => (form muted).trans (if_neg other), fun testing own => (form testing).trans (if_pos own),
      fun quiet => silent rfl quiet, fun dozing none => (form dozing).trans (if_neg none),
      fun testing other => (form testing).trans (if_neg other), fun held other => (form held).trans (if_neg other),
      fun active none other => ?_⟩
    · refine (form active).trans ((if_neg ?_).trans (if_pos retest))
      rintro (data | poll)
      · rw [retest] at data
        cases data
      · rw [retest] at poll
        cases poll
    · exact (form active).trans ((if_neg none).trans (if_neg other))
  · intro t u within corrected
    have corrections := s.offerCorrection_spec i corrected
    have inReach (h : within) : u = _ := State.correctDelay_within delay h
    refine ⟨State.applyOffset_idle, State.applyOffset_acts, fun j other => ?_, fun h room => ?_, fun h full => ?_,
      fun beyond => ?_⟩
    · by_cases h : within
      · obtain ⟨-, others, -, -⟩ := corrections
        rw [inReach h]
        split
        · exact others j other
        · exact others j other
      · exact (State.correctDelay_beyond delay h).2.1 j other
    · simp only [room, decide_true, if_true, joined] at corrections
      obtain ⟨home, -, gained, frame⟩ := corrections
      rw [inReach h, if_pos room]
      refine ⟨home, gained.bump _, ?_⟩
      generalize s.offerCorrection i corrected = v at frame
      rw [frame]
      rfl
    · have stuck : ¬ s.framer.queue.length < 32 := by omega
      simp only [stuck, decide_false, Bool.false_eq_true, if_false, joined] at corrections
      obtain ⟨home, others, gained, frame⟩ := corrections
      have drops : u = s.bump .driftDropped := by
        rw [inReach h, if_neg stuck]
        exact if_neg fun h => stuck (State.dirRoom_iff.mp h)
      rw [drops]
      exact ⟨s.gained_bump _, rfl⟩
    · obtain ⟨home, -, gained, frame⟩ := State.correctDelay_beyond delay beyond
      exact ⟨home, gained, frame⟩
  · exact ⟨State.decayInTurn_of_free, State.decayInTurn_waits, State.decayInTurn_decays⟩
  · intro e t score
    refine ⟨fun low => ?_, State.gain_mutes_spec⟩
    have raises : t = _ := State.gain_raises low
    rw [raises]
    refine ⟨by rw [State.home_modEntry, if_pos rfl], fun j other => by rw [State.home_modEntry, if_neg other], rfl⟩
  · intro t
    refine ⟨fun above => if_pos above, fun below => ?_, fun top bottom => ?_⟩
    · exact (if_neg (by omega)).trans (if_pos below)
    · have learns : t = _ := State.learnLevel_learns top bottom
      rw [learns]
      exact ⟨by rw [State.home_modEntry, if_pos rfl], fun j other => by rw [State.home_modEntry, if_neg other], rfl⟩
  · intro e t noted dozes
    have form : t = _ := s.applyWish_eq p i wish
    dsimp only at form
    have home (j : HomeIdx) :
        (s.modEntry i fun e => { e with wish := some wish }).home j = if j = i then noted else s.home j :=
      State.home_modEntry ..
    refine ⟨fun j other => ?_, fun awake => ?_, fun h full => ?_, fun h room => ?_⟩
    · by_cases h : dozes
      · obtain ⟨rfl, low⟩ := h
        by_cases room : s.framer.queue.length < 32
        · exact (State.applyWish_dozes low room).2.1 j other
        · rw [form, if_pos ⟨rfl, low⟩, if_neg room, State.home_congr (State.bump_homes ..), home, if_neg other]
      · rw [form, if_neg h, home, if_neg other]
    · rw [form, if_neg awake]
      exact ⟨(home i).trans (if_pos rfl), rfl⟩
    · rw [form, if_pos h, if_neg (by omega)]
      exact ⟨(home i).trans (if_pos rfl), (State.gained_bump _).base rfl, rfl⟩
    · obtain ⟨rfl, low⟩ := h
      obtain ⟨mine, -, counted, told, frame⟩ := State.applyWish_dozes (p := p) low room
      exact ⟨mine, counted, told, frame⟩
  · exact ⟨State.handPayload_idle, State.handPayload_data⟩
  · obtain ⟨m, rfl⟩ := Nat.exists_eq_add_of_le few
    rw [parseFrames_frames range, parseFrames_end (.inr (field_zeros k 2)), List.append_nil]
  · intro parsed next
    obtain ⟨m, rfl⟩ := Nat.exists_eq_add_of_lt few
    have taken : parsed = _ := parseFrames_frames range (m + 1) rest
    refine ⟨fun ends => ?_, fun long bad nonzero => ?_⟩
    · rw [taken, parseFrames_end ends, List.append_nil]
    · rw [taken, parseFrames_malformed long bad nonzero, List.append_nil]

end Sys2Proof.Machine

/-! What the parts of a close leave of the light monitor, of the count of blank rounds and of the miss counts (R97,
R98, R100). -/

namespace Sys2Proof.Machine

open Sys2Proof

variable {s t u : State} {i : HomeIdx} {m : Prop}

/-- The light monitor and the count of blank rounds stay; where `m` holds, no miss count rises either. -/
structure State.Spares (m : Prop) (s t : State) : Prop where
  light : t.light = s.light
  blanks : t.counter .blankRound = s.counter .blankRound
  miss : m → ∀ i, (t.entry i).miss ≤ (s.entry i).miss

theorem State.Spares.refl (s : State) : s.Spares m s := ⟨rfl, rfl, fun _ _ => le_rfl⟩

theorem State.Spares.trans (h : s.Spares m t) (g : t.Spares m u) : s.Spares m u where
  light := g.light.trans h.light
  blanks := g.blanks.trans h.blanks
  miss hm i := (g.miss hm i).trans (h.miss hm i)

theorem State.Spares.ite {c : Prop} [Decidable c] (h : s.Spares m t) (k : s.Spares m u) :
    s.Spares m (if c then t else u) := by
  split
  · exact h
  · exact k

theorem State.Spares.foldl {α : Type} {f : State → α → State} (h : ∀ (s : State) a, s.Spares m (f s a)) (l : List α)
    (s : State) : s.Spares m (l.foldl f s) := by
  induction l generalizing s with
  | nil => exact .refl s
  | cons a l ih => exact (h s a).trans (ih _)

/-! ### The shared operations -/

/-- A change that leaves the homes, the light monitor and the counters. -/
theorem State.Spares.inner (h : s.Spares m t) (homes : u.homes = t.homes) (light : u.light = t.light)
    (counters : u.counters = t.counters) : s.Spares m u :=
  h.trans ⟨light, State.counter_congr counters _, fun _ i => (State.entry_congr homes i ▸ le_rfl)⟩

theorem State.Spares.rogue (h : s.Spares m t) (r : Rogue) : s.Spares m { t with rogue := r } := h.inner rfl rfl rfl

theorem State.Spares.clearStreaks (h : s.Spares m t) : s.Spares m t.clearStreaks := h.inner rfl rfl rfl

theorem State.Spares.bump (h : s.Spares m t) (c : Counter) (other : Counter.blankRound ≠ c := by decide) :
    s.Spares m (t.bump c) :=
  h.trans ⟨rfl, by rw [State.counter_bump, if_neg other], fun _ _ => le_rfl⟩

theorem State.Spares.bump_if {c : Prop} [Decidable c] (h : s.Spares m t) (k : Counter)
    (other : Counter.blankRound ≠ k := by decide) : s.Spares m (if c then t.bump k else t) :=
  .ite (h.bump k other) h

theorem State.Spares.setHome (h : s.Spares m t) (i : HomeIdx) (k : Home)
    (miss : m → k.entry.miss ≤ (t.entry i).miss) : s.Spares m (t.setHome i k) := by
  refine h.trans ⟨rfl, rfl, fun hm j => ?_⟩
  rw [State.entry, State.home_setHome]
  split
  · rename_i same
    exact same ▸ miss hm
  · exact le_rfl

theorem State.Spares.modHome (h : s.Spares m t) (i : HomeIdx) (f : Home → Home)
    (miss : m → (f (t.home i)).entry.miss ≤ (t.entry i).miss) : s.Spares m (t.modHome i f) :=
  h.setHome i _ miss

theorem State.Spares.modEntry (h : s.Spares m t) (i : HomeIdx) (f : Entry → Entry)
    (miss : m → (f (t.entry i)).miss ≤ (t.entry i).miss) : s.Spares m (t.modEntry i f) :=
  h.modHome i _ miss

theorem State.Spares.modProgress (h : s.Spares m t) (i : HomeIdx) (f : Progress → Progress) :
    s.Spares m (t.modProgress i f) :=
  h.modHome i _ fun _ => le_rfl

theorem State.Spares.setProbes (h : s.Spares m t) (l : List HomeIdx) : s.Spares m (t.setProbes l) :=
  h.trans ⟨rfl, rfl, fun _ i => by rw [State.entry, State.home_setProbes]⟩

theorem State.Spares.post (h : s.Spares m t) (x : OutMsg) : s.Spares m (t.post x) := h.inner rfl rfl rfl

theorem State.Spares.raise (h : s.Spares m t) (n : Notice) : s.Spares m (t.raise n) :=
  .ite ((h.post _).bump _) (h.bump _)

theorem State.Spares.sendPeer (h : s.Spares m t) (x : OutMsg) : s.Spares m (t.sendPeer x) :=
  .ite (h.post _) (h.bump _)

theorem State.Spares.pushDirective (h : s.Spares m t) (d : Directive) : s.Spares m (t.pushDirective d) :=
  h.trans ⟨State.pushDirective_light .., by cases d <;> rfl, fun _ i => by rw [State.pushDirective_entry]⟩

theorem State.Spares.offerLeave (h : s.Spares m t) (d : Directive) : s.Spares m (t.offerLeave d) :=
  .ite (h.pushDirective _) (h.bump _)

theorem State.Spares.offerEnrol (h : s.Spares m t) (i : HomeIdx) (d : Directive) : s.Spares m (t.offerEnrol i d) :=
  .ite (h.pushDirective _) ((h.modProgress ..).bump _)

theorem State.Spares.offerCorrection (h : s.Spares m t) (i : HomeIdx) (n : Nat) :
    s.Spares m (t.offerCorrection i n) :=
  .ite ((h.pushDirective _).modEntry _ _ fun _ => le_rfl) (h.bump _)

theorem State.Spares.addBar (h : s.Spares m t) (x : Tag) (r : BarReason) (o : Station) :
    s.Spares m (t.addBar x r o) :=
  .ite (h.inner rfl rfl rfl) (.ite (h.inner rfl rfl rfl) ((h.inner (u := { t with
    bars := t.bars.tail ++ [{ tag := x, reason := r, origin := o }] }) rfl rfl rfl).bump _))

theorem State.Spares.flagRecord (h : s.Spares m t) (i : HomeIdx) (f : RecFlags → RecFlags) :
    s.Spares m (t.flagRecord i f) := by
  unfold State.flagRecord
  split
  · exact h
  · split
    · exact h
    · exact h.inner rfl rfl rfl

theorem State.Spares.endUnresolved (h : s.Spares m t) (q : UnresolvedReason) (r : Round) (k : Nat)
    (l : List HomeIdx) : s.Spares m (t.endUnresolved q r k l) :=
  ((((h.setProbes []).clearStreaks).rogue _).bump _).raise _

theorem State.Spares.dropCandidate (h : s.Spares m t) (i : HomeIdx) (r : Round) :
    s.Spares m (t.dropCandidate i r) := by
  unfold State.dropCandidate
  split
  · exact .ite (.ite (h.endUnresolved ..) (h.rogue _)) h
  · exact h

theorem State.Spares.cancelRetest (h : s.Spares m t) (i : HomeIdx) : s.Spares m (t.cancelRetest i) := by
  unfold State.cancelRetest
  exact .ite h ((h.modHome _ _ fun _ => le_rfl).raise _)

theorem State.Spares.vacate (h : s.Spares m t) (i : HomeIdx) (r : Round) : s.Spares m (t.vacate i r) :=
  ((h.cancelRetest i).setHome _ _ fun _ => Nat.zero_le _).dropCandidate ..

theorem State.Spares.retire (h : s.Spares m t) (i : HomeIdx) (q : RetireReason) (r : Round) :
    s.Spares m (t.retire i q r) :=
  (((h.cancelRetest i).setHome i { Home.vacant with entry := ((t.cancelRetest i).entry i).retired q } fun _ =>
    le_rfl).flagRecord ..).dropCandidate ..

theorem State.Spares.leaveFor (h : s.Spares m t) (i : HomeIdx) (q : RetireReason) (r : Round) :
    s.Spares m (t.leaveFor i q r) :=
  .ite (h.retire ..) (h.vacate ..)

theorem State.Spares.endEnrolment (h : s.Spares m t) (i : HomeIdx) (q : RetireReason) (r : Round) :
    s.Spares m (t.endEnrolment i q r) :=
  (h.leaveFor ..).offerLeave _

theorem State.Spares.failEnrolment (h : s.Spares m t) (i : HomeIdx) (q : RetireReason) (why : EnrolReason)
    (r : Round) : s.Spares m (t.failEnrolment i q why r) :=
  (h.endEnrolment ..).raise _

theorem State.Spares.muteHome (h : s.Spares m t) (i : HomeIdx) (q : MuteReason) (r : Round) :
    s.Spares m (t.muteHome i q r) :=
  ((h.cancelRetest i).modHome _ _ fun _ => le_rfl).dropCandidate ..

theorem State.Spares.dozeHome (h : s.Spares m t) (i : HomeIdx) (n : Nat) : s.Spares m (t.dozeHome i n) :=
  (h.cancelRetest i).modHome _ _ fun _ => le_rfl

/-! ### The rogue monitor -/

theorem State.Spares.abandon (h : s.Spares m t) (r : Round) (i : HomeIdx) : s.Spares m (t.abandon r i) := by
  unfold State.abandon
  split
  · exact h.failEnrolment ..
  · exact h.failEnrolment ..
  · exact h

theorem State.Spares.startIsolation (h : s.Spares m t) (r : Round) : s.Spares m (t.startIsolation r) := by
  have abandoned := (h.bump .isolationRun).clearStreaks.trans
    (State.Spares.foldl (fun s i => (State.Spares.refl s).abandon r i) allIdx _)
  unfold State.startIsolation
  dsimp only
  generalize allIdx.foldl (fun s i => s.abandon r i) (t.bump .isolationRun).clearStreaks = v at abandoned
  exact .ite (abandoned.endUnresolved ..) ((abandoned.setProbes _).rogue _)

theorem State.Spares.beginStep (h : s.Spares m t) (k : Nat) (step : IsoStep) (c l : List HomeIdx) :
    s.Spares m (t.beginStep k step c l) :=
  (h.setProbes l).rogue _

theorem State.Spares.narrowTo (h : s.Spares m t) (r : Round) (k : Nat) (c : List HomeIdx) :
    s.Spares m (t.narrowTo r k c) := by
  unfold State.narrowTo
  split
  · exact h.endUnresolved ..
  · exact h.beginStep ..
  · exact h.beginStep ..

theorem State.Spares.convict (h : s.Spares m t) (i : HomeIdx) (r : Round) (k : Nat) :
    s.Spares m (t.convict i r k) := by
  have flagged := (((h.setProbes []).clearStreaks).rogue
    { ((t.setProbes []).clearStreaks).rogue with iso := .idle }).flagRecord i fun f => { f with convicted := true }
  unfold State.convict
  exact (((State.Spares.ite (flagged.endEnrolment ..) (flagged.muteHome ..)).addBar ..).sendPeer _ |>.bump _).raise _

theorem State.Spares.stepVerdict (h : s.Spares m t) (p : Probe) (r : Round) (dirty blank : Bool) :
    s.Spares m (t.stepVerdict p r dirty blank) := by
  unfold State.stepVerdict
  split
  · exact h.endUnresolved ..
  · split
    · exact .ite (h.endUnresolved ..) (h.narrowTo ..)
    · exact h.narrowTo ..
    · split
      · exact h.endUnresolved ..
      · split
        · exact h.convict ..
        · exact h.endUnresolved ..

theorem State.Spares.countDirty (h : s.Spares m t) (p : Params) (r : Round) (n : Nat) :
    s.Spares m (t.countDirty p r n) := by
  have declared := (((h.rogue { t.rogue with clean := 0, alarm := true, alarmAge := 0 }).clearStreaks).bump
    .rogueAlarm).raise (.rogueAlarm true r n (p.autoIsolate && t.rogue.iso == .idle) 0)
  exact .ite (h.rogue _) (.ite ((h.rogue _).rogue _) (.ite (declared.startIsolation r) declared))

theorem State.Spares.countClean (h : s.Spares m t) (p : Params) (r : Round) : s.Spares m (t.countClean p r) := by
  unfold State.countClean
  exact .ite (((h.rogue _).rogue _).clearStreaks.raise _) (h.rogue _)

theorem State.Spares.takeRound (h : s.Spares m t) (r : Round) (n : Nat) (v : RoundVerdict) (k : RoundKind) :
    s.Spares m (t.takeRound r n v k) := by
  unfold State.takeRound
  split
  · exact h
  · dsimp only
    split
    · exact .ite (h.stepVerdict ..) h
    · exact .ite h (.ite (h.countDirty ..) (h.countClean ..))

/-! ### Scores, payloads and markers -/

theorem State.Spares.gain (h : s.Spares m t) (p : Params) (i : HomeIdx) (r : Round) : s.Spares m (t.gain p i r) := by
  have scored := h.modEntry i (fun e => { e with score := min ((t.entry i).score + 1) 31 }) fun _ => le_rfl
  unfold State.gain
  exact .ite (((scored.muteHome ..).bump _).raise _) scored

theorem State.Spares.decayInTurn (h : s.Spares m t) (i : HomeIdx) : s.Spares m (t.decayInTurn i) := by
  unfold State.decayInTurn
  exact .ite (.ite (h.rogue _) ((h.rogue _).modEntry _ _ fun _ => le_rfl)) h

theorem State.Spares.gainInTurn (h : s.Spares m t) (p : Params) (i : HomeIdx) (r : Round) :
    s.Spares m (t.gainInTurn p i r) :=
  (h.gain p i r).decayInTurn i

theorem State.Spares.settleDecays (h : s.Spares m t) : s.Spares m t.settleDecays := by
  refine h.trans ⟨rfl, rfl, fun _ i => ?_⟩
  rw [State.entry, State.settleDecays_home]
  split
  · exact le_rfl
  · exact le_rfl

theorem State.Spares.clearMarkers (h : s.Spares m t) (r : Round) : s.Spares m (t.clearMarkers r) := by
  refine h.trans ⟨rfl, rfl, fun _ i => ?_⟩
  obtain ⟨k, marked⟩ := t.home_clearMarkers r i
  rw [State.entry, marked]
  exact le_rfl

theorem State.Spares.countBytes (h : s.Spares m t) (i : HomeIdx) (up : Bool) (n : Nat) :
    s.Spares m (t.countBytes i up n) := by
  unfold State.countBytes
  split
  · split
    · exact h
    · refine .bump_if (h.trans ?_) _
      exact (State.Spares.refl t).inner rfl rfl rfl
  · exact h

theorem State.Spares.takePayload (h : s.Spares m t) (i : HomeIdx) (b : List Byte) (n : Nat) :
    s.Spares m (t.takePayload i b n) := by
  have passed : s.Spares m { t with toSwitch := t.toSwitch ++ (parseFrames (n + 1) (padTo n b)).1.map fun b =>
      ({ index := i, bytes := b } : Frame) } := h.inner rfl rfl rfl
  exact (passed.bump_if .upstreamMalformed).countBytes ..

end Sys2Proof.Machine

/-! The parts of a close spare the light monitor and the count of blank rounds, but for the round verdict itself; in a
blank round they raise no miss count (R97, R100, R117). -/

namespace Sys2Proof.Machine

open Sys2Proof

variable {s t u : State} {i : HomeIdx} {m : Prop}

/-! ### Window verdicts (R97, R98) -/

theorem State.Spares.loseHome (h : s.Spares m t) (i : HomeIdx) (r : Round) : s.Spares m (t.loseHome i r) := by
  unfold State.loseHome
  dsimp only
  split
  · exact (((h.retire ..).offerLeave _).bump _).raise _
  · exact (h.leaveFor ..).raise _
  · exact h

/-- A window verdict raises a miss count in a round that is not blank alone. -/
theorem State.Spares.applyWindow (h : s.Spares m t) (o : RoundObs) {blank : Bool} (hm : m → blank = true) (r : Round)
    (w : Window) : s.Spares m (t.applyWindow o blank r w) := by
  unfold State.applyWindow
  refine .ite h (.ite h (.ite (h.modEntry _ _ fun _ => Nat.zero_le _) ?_))
  split
  · exact h
  · rename_i counted
    have raises (k : m) : False := counted (by rw [hm k]; rfl)
    have missed : s.Spares m (t.modEntry w.index fun e => { e with miss := min (e.miss + 1) 4 }) :=
      h.modEntry _ _ fun k => (raises k).elim
    exact .ite (missed.loseHome ..) missed

theorem State.Spares.applyWindows (h : s.Spares m t) (o : RoundObs) {blank : Bool} (hm : m → blank = true) (r : Round)
    (l : List Window) : s.Spares m (t.applyWindows o blank r l) :=
  h.trans (.foldl (fun v w => (State.Spares.refl v).applyWindow o hm r w) l t)

theorem State.Spares.spanCollision (h : s.Spares m t) (x : Expectation) (o : RoundObs) (good : Bool) :
    s.Spares m (t.spanCollision x o good) :=
  .ite (h.bump _) h

/-! ### Bursts (R111 to R116) -/

theorem State.Spares.correctDelay (h : s.Spares m t) (i : HomeIdx) (o : Int) : s.Spares m (t.correctDelay i o) := by
  refine .ite (.ite ((h.offerCorrection ..).bump _) (h.offerCorrection ..)) ((h.bump _).modHome _ _ fun _ => ?_)
  split
  · exact le_rfl
  · exact le_rfl

theorem State.Spares.applyOffset (h : s.Spares m t) (p : Params) (gains : Bool) (r : Round) (i : HomeIdx) (o : Int) :
    s.Spares m (t.applyOffset p gains r i o) :=
  .ite h (.ite ((h.correctDelay i o).gainInTurn ..) (h.correctDelay i o))

theorem State.Spares.learnLevel (h : s.Spares m t) (w : Window) (n : Nat) : s.Spares m (t.learnLevel w n) :=
  .ite h (.ite (h.bump _) (h.modEntry _ _ fun _ => le_rfl))

theorem State.Spares.applyWish (h : s.Spares m t) (p : Params) (i : HomeIdx) (wish : Bool) :
    s.Spares m (t.applyWish p i wish) := by
  have reported := h.modEntry i (fun e => { e with wish := some wish }) fun _ => le_rfl
  exact .ite (.ite (((reported.pushDirective _).dozeHome ..).bump _) (reported.bump _)) reported

theorem State.Spares.applyLine (h : s.Spares m t) (p : Params) (gains : Bool) (r : Round) (w : Window) (b : BurstObs)
    (o : Int) : s.Spares m (t.applyLine p gains r w b o) :=
  (h.applyOffset ..).learnLevel ..

theorem State.Spares.reports (h : s.Spares m t) (w : Window) (b : BurstObs) :
    s.Spares m ((t.applyBacklog w.index (headerBacklog b.header)).handPayload w b) := by
  have backlog := h.modEntry w.index (fun e => { e with backlog := some (headerBacklog b.header) }) fun _ => le_rfl
  exact .ite (backlog.takePayload ..) backlog

theorem State.Spares.applyDecoded (h : s.Spares m t) (p : Params) (gains : Bool) (r : Round) (w : Window)
    (b : BurstObs) (o : Int) : s.Spares m (t.applyDecoded p gains r w b o) := by
  have stale := h.bump .staleBurst
  unfold State.applyDecoded
  refine .ite stale ?_
  split
  · exact .ite (((h.reports w b).applyWish ..).applyLine ..) (.ite (h.applyLine ..) stale)
  · exact .ite ((h.reports w b).applyLine ..) stale
  · exact .ite (h.applyLine ..) stale
  · have counted : s.Spares m (if 0 < headerLength b.header then t.bump .staleBurst else t) := h.bump_if _
    exact .ite counted (counted.applyLine ..)
  · exact .ite h stale
  · exact stale

theorem State.Spares.applyBurst (h : s.Spares m t) (p : Params) (gains : Bool) (o : RoundObs) (r : Round)
    (w : Window) : s.Spares m (t.applyBurst p gains o r w) := by
  have counted : s.Spares m (if w.overlaps o then t.bump .overlap else t) := h.bump_if _
  unfold State.applyBurst
  refine .ite h ?_
  dsimp only
  split
  · exact counted.bump _
  · exact counted.applyDecoded ..

/-! ### Ranging and test outcomes (R30 to R37, R42) -/

theorem State.Spares.failTry (h : s.Spares m t) (i : HomeIdx) (r : Round) : s.Spares m (t.failTry i r) := by
  unfold State.failTry
  split
  · exact h
  · exact .ite (h.failEnrolment ..) (h.modProgress ..)

theorem State.Spares.failTest (h : s.Spares m t) (i : HomeIdx) (r : Round) : s.Spares m (t.failTest i r) := by
  unfold State.failTest
  split
  · exact h
  · exact .ite (h.failEnrolment ..) (h.modProgress ..)

theorem State.Spares.rangingOutcome (h : s.Spares m t) (w : Window) (o : RoundObs) (r : Round) :
    s.Spares m (t.rangingOutcome w o r) := by
  unfold State.rangingOutcome
  dsimp only
  split
  · split
    · exact h.failTry ..
    · exact .ite ((h.modHome _ _ fun _ => le_rfl).offerEnrol ..) (h.failEnrolment ..)
  · exact h

theorem State.Spares.inPlaceOutcome (h : s.Spares m t) (w : Window) (o : RoundObs) (r : Round) :
    s.Spares m (t.inPlaceOutcome w o r) := by
  have ended := h.modHome w.index (fun h => { h with inPlace := .idle }) fun _ => le_rfl
  unfold State.inPlaceOutcome
  dsimp only
  split
  · split
    · exact ended.bump _
    · exact .ite (ended.offerCorrection ..) ((ended.offerCorrection ..).bump _)
  · exact h

theorem State.Spares.enrolTestOutcome (h : s.Spares m t) (p : Params) (w : Window) (o : RoundObs) (r : Round) :
    s.Spares m (t.enrolTestOutcome p w o r) := by
  unfold State.enrolTestOutcome
  dsimp only
  split
  · split
    · exact (h.modHome _ _ fun _ => le_rfl).raise _
    · exact (h.modEntry _ _ fun _ => le_rfl).failTry ..
    · exact h.failTest ..
    · exact h.failTest ..
    · exact h.failTest ..
    · exact h.failTest ..
  · exact h

theorem State.Spares.retestOutcome (h : s.Spares m t) (p : Params) (w : Window) (o : RoundObs) (r : Round) :
    s.Spares m (t.retestOutcome p w o r) :=
  .ite ((h.modHome _ _ fun _ => le_rfl).raise _) h

theorem State.Spares.takeOutcome (h : s.Spares m t) (p : Params) (o : RoundObs) (r : Round) (w : Window) :
    s.Spares m (t.takeOutcome p o r w) := by
  unfold State.takeOutcome
  split
  · exact h.rangingOutcome ..
  · exact h.inPlaceOutcome ..
  · exact h.enrolTestOutcome ..
  · exact h.retestOutcome ..
  · exact h
  · exact h

/-! ### Attribution (R119) -/

theorem State.Spares.attributeOne (h : s.Spares m t) (p : Params) (l : List Window) (r : Round) (w : Window)
    (c : Counter) (other : Counter.blankRound ≠ c := by decide) : s.Spares m (t.attributeOne p l r w c) :=
  .ite ((h.bump c other).gainInTurn ..) (h.bump c other)

theorem State.Spares.attributeWindow (h : s.Spares m t) (p : Params) (l : List Window) (o : RoundObs) (r : Round)
    (w : Window) : s.Spares m (t.attributeWindow p l o r w) := by
  have early : s.Spares m (if w.earlyLit o then t.attributeOne p l r w .earlyLight else t) :=
    .ite (h.attributeOne ..) h
  exact .ite (early.attributeOne ..) early

theorem State.Spares.attributeLight (h : s.Spares m t) (p : Params) (l : List Window) (x : Expectation)
    (o : RoundObs) (r : Round) : s.Spares m (t.attributeLight p l x o r) :=
  .ite (h.trans (.foldl (fun v w => (State.Spares.refl v).attributeWindow p l o r w) x.windows t)) h

end Sys2Proof.Machine

/-! The order in which a close takes its parts (R117; O50). -/

namespace Sys2Proof.Machine

open Sys2Proof

variable {s t u : State} {i : HomeIdx} {round : Round}

/-! ### The light monitor under a round verdict (R99 to R102) -/

theorem State.litClosed_of_clear (h : s.light.loss = false) (round : Round) :
    s.litClosed round = { s with light := { streak := 0, loss := false, lossAge := 0 } } := by
  unfold State.litClosed
  rw [h]
  rfl

theorem State.litClosed_of_loss (h : s.light.loss = true) (round : Round) :
    s.litClosed round = State.raise { s with light := { streak := 0, loss := false, lossAge := 0 } }
      (.feederLoss false round s.light.lossAge) := by
  unfold State.litClosed
  rw [h]
  rfl

/-- What a lit round leaves of the light monitor, and what it does not count. -/
theorem State.litClosed_light (s : State) (round : Round) :
    (s.litClosed round).light = { streak := 0, loss := false, lossAge := 0 }
      ∧ (s.litClosed round).counter .blankRound = s.counter .blankRound := by
  cases h : s.light.loss with
  | false => rw [State.litClosed_of_clear h]; exact ⟨rfl, rfl⟩
  | true =>
    rw [State.litClosed_of_loss h, State.raise_light, State.counter_raise (by decide)]
    exact ⟨rfl, rfl⟩

/-- The streak after a blank round. -/
def State.blankStreak (s : State) : Nat := if s.framer.silence then s.light.streak else min (s.light.streak + 1) 8

/-- A blank round declares feeder loss. -/
def State.losesFeeder (s : State) : Prop := s.framer.silence = false ∧ 7 ≤ s.light.streak ∧ s.light.loss = false

theorem State.blankClosed_of_not (h : ¬ s.losesFeeder) (round : Round) :
    s.blankClosed round = State.bump { s with light := { s.light with streak := s.blankStreak } } .blankRound := by
  unfold State.blankClosed State.blankStreak
  dsimp only
  cases silent : s.framer.silence with
  | true =>
    rw [if_pos (by exact silent), if_pos rfl]
  | false =>
    have kept : ¬ (decide (min ((s.bump .blankRound).light.streak + 1) 8 = 8)
        && !(s.bump .blankRound).light.loss) = true := by
      intro declares
      obtain ⟨full, clear⟩ := Bool.and_eq_true_iff.mp declares
      have streak : min (s.light.streak + 1) 8 = 8 := of_decide_eq_true full
      exact h ⟨silent, by omega, by simpa using clear⟩
    rw [if_neg (by exact Bool.eq_false_iff.mp silent), if_neg (by exact kept), if_neg (by exact Bool.false_ne_true)]
    rfl

theorem State.blankClosed_of_loses (h : s.losesFeeder) (round : Round) :
    s.blankClosed round =
      ((State.bump { s with light := { streak := 8, loss := true, lossAge := 0 } } .blankRound).bump .feederLoss).raise
        (.feederLoss true round 0) := by
  obtain ⟨heard, long, clear⟩ := h
  have streak : min (s.light.streak + 1) 8 = 8 := by omega
  have declares : (decide (min ((s.bump .blankRound).light.streak + 1) 8 = 8)
      && !(s.bump .blankRound).light.loss) = true := by
    rw [State.bump_light, streak, clear]
    rfl
  unfold State.blankClosed
  dsimp only
  rw [if_neg (by exact Bool.eq_false_iff.mp heard), if_pos declares]
  exact congrArg (fun n => State.raise (State.bump (State.bump
    { s with light := { streak := n, loss := true, lossAge := 0 } } .blankRound) .feederLoss)
    (.feederLoss true round 0)) streak

/-- What a blank round leaves of the light monitor and of the homes, and that it is counted. -/
theorem State.blankClosed_light (s : State) (round : Round) :
    (s.blankClosed round).counter .blankRound = min (s.counter .blankRound + 1) counterMax
      ∧ (s.blankClosed round).light.streak = s.blankStreak
      ∧ ((s.blankClosed round).light.loss = true ↔ s.light.loss = true ∨ s.framer.silence = false ∧ 7 ≤ s.light.streak)
      ∧ (s.blankClosed round).homes = s.homes := by
  by_cases h : s.losesFeeder
  · obtain ⟨heard, long, clear⟩ := id h
    rw [State.blankClosed_of_loses h, State.raise_light, State.raise_homes, State.counter_raise (by decide),
      State.counter_bump, if_neg (by decide), State.counter_bump, if_pos rfl]
    refine ⟨rfl, ?_, iff_of_true rfl (.inr ⟨heard, long⟩), rfl⟩
    rw [State.blankStreak, heard, if_neg (by decide)]
    exact (by omega : 8 = min (s.light.streak + 1) 8)
  · rw [State.blankClosed_of_not h, State.counter_bump, if_pos rfl]
    refine ⟨rfl, rfl, ⟨.inl, fun k => k.elim id fun quiet => ?_⟩, rfl⟩
    exact (Bool.eq_false_or_eq_true _).resolve_right fun clear => h ⟨quiet.1, quiet.2, clear⟩

/-! ### The frames passed to the switch -/

@[simp] theorem State.abandon_toSwitch (s : State) (r : Round) (i : HomeIdx) :
    (s.abandon r i).toSwitch = s.toSwitch := by
  unfold State.abandon
  split
  · exact State.failEnrolment_toSwitch ..
  · exact State.failEnrolment_toSwitch ..
  · rfl

theorem State.startIsolation_toSwitch (s : State) (r : Round) : (s.startIsolation r).toSwitch = s.toSwitch := by
  have kept : (allIdx.foldl (fun s i => s.abandon r i) (s.bump .isolationRun).clearStreaks).toSwitch = s.toSwitch :=
    State.foldl_field State.toSwitch (fun u i => u.abandon_toSwitch r i) allIdx (s.bump .isolationRun).clearStreaks
  unfold State.startIsolation
  dsimp only
  generalize allIdx.foldl (fun s i => s.abandon r i) (s.bump .isolationRun).clearStreaks = v at kept ⊢
  split
  · exact (State.endUnresolved_toSwitch ..).trans kept
  · exact kept

theorem State.narrowTo_toSwitch (s : State) (r : Round) (k : Nat) (c : List HomeIdx) :
    (s.narrowTo r k c).toSwitch = s.toSwitch := by
  unfold State.narrowTo
  split
  · exact State.endUnresolved_toSwitch ..
  · rfl
  · rfl

theorem State.convict_toSwitch (s : State) (i : HomeIdx) (r : Round) (k : Nat) :
    (s.convict i r k).toSwitch = s.toSwitch := by
  unfold State.convict
  simp only [State.raise_toSwitch, State.bump_toSwitch, State.sendPeer_toSwitch, State.addBar_toSwitch]
  split
  · exact (State.endEnrolment_toSwitch ..).trans (State.flagRecord_toSwitch ..)
  · exact (State.muteHome_toSwitch ..).trans (State.flagRecord_toSwitch ..)

theorem State.stepVerdict_toSwitch (s : State) (q : Probe) (r : Round) (dirty blank : Bool) :
    (s.stepVerdict q r dirty blank).toSwitch = s.toSwitch := by
  unfold State.stepVerdict
  split
  · exact State.endUnresolved_toSwitch ..
  · split
    · split
      · exact State.endUnresolved_toSwitch ..
      · exact s.narrowTo_toSwitch ..
    · exact s.narrowTo_toSwitch ..
    · split
      · exact State.endUnresolved_toSwitch ..
      · split
        · exact s.convict_toSwitch ..
        · exact State.endUnresolved_toSwitch ..

theorem State.countDirty_toSwitch (s : State) (p : Params) (r : Round) (n : Nat) :
    (s.countDirty p r n).toSwitch = s.toSwitch := by
  unfold State.countDirty
  dsimp only
  split
  · rfl
  · split
    · rfl
    · split
      · exact (State.startIsolation_toSwitch ..).trans (State.raise_toSwitch ..)
      · exact State.raise_toSwitch ..

theorem State.countClean_toSwitch (s : State) (p : Params) (r : Round) : (s.countClean p r).toSwitch = s.toSwitch := by
  unfold State.countClean
  dsimp only
  split
  · exact State.raise_toSwitch ..
  · rfl

@[simp] theorem State.takeRound_toSwitch (s : State) (r : Round) (n : Nat) (v : RoundVerdict) (k : RoundKind) :
    (s.takeRound r n v k).toSwitch = s.toSwitch := by
  unfold State.takeRound
  split
  · rfl
  · dsimp only
    split
    · split
      · exact s.stepVerdict_toSwitch ..
      · rfl
    · split
      · rfl
      · split
        · exact s.countDirty_toSwitch ..
        · exact s.countClean_toSwitch ..

/-! ### The expectation in the words of the statement -/

theorem Expectation.verdict_of_lit {x : Expectation} {o : RoundObs} (h : (x.windows.any fun w => w.litIn o) = true) :
    x.verdict o = .lit := if_pos h

theorem Expectation.verdict_of_dark {x : Expectation} {o : RoundObs} (h : (x.windows.any fun w => w.litIn o) = false) :
    x.verdict o = if x.windows.any fun w => w.isWindow then .blank else .neither :=
  if_neg (Bool.eq_false_iff.mp h)

/-- The correction markers of the round before the one that closes (R114). -/
theorem State.clearMarkers_eq (s : State) (round : Round) :
    s.clearMarkers round = { s with
      homes := s.homes.map fun h => if h.marker = .sent (round - 1) then { h with marker := .clear } else h } := by
  have clears (h : Home) : (match h.marker with
      | .sent k => if k + 1 = round then { h with marker := .clear } else h
      | _ => h) = if h.marker = .sent (round - 1) then { h with marker := .clear } else h := by
    cases mark : h.marker with
    | sent k => simp only [Marker.sent.injEq, eq_sub_iff_add_eq]
    | clear => rfl
    | queued => rfl
  exact congrArg (fun f => { s with homes := s.homes.map f }) (funext clears)

/-! ### Losses that the operand puts later (R139, R144; log 8) -/

/-- The fourth miss of the window comes after the gains of the close. -/
def State.losesAfterGains (s : State) (x : Expectation) (o : RoundObs) (w : Window) : Bool :=
  s.fourthMiss o (x.verdict o == .blank) w && o.lossAfterGains.contains w.index

/-- The fourth miss of the window comes after the round is handed on. -/
def State.losesAfterHand (s : State) (x : Expectation) (o : RoundObs) (w : Window) : Bool :=
  s.fourthMiss o (x.verdict o == .blank) w && !s.losesAfterGains x o w && o.lossAfterHand.contains w.index

theorem State.lossesAfterGains_eq (s : State) (x : Expectation) (o : RoundObs) :
    s.lossesAfterGains x o = x.byIndex.filter (s.losesAfterGains x o) := rfl

theorem State.lossesAfterHand_eq (s : State) (x : Expectation) (o : RoundObs) :
    s.lossesAfterHand x o = x.byIndex.filter (s.losesAfterHand x o) := by
  refine List.filter_congr fun w _ => ?_
  unfold State.losesAfterHand State.losesAfterGains
  cases s.fourthMiss o (x.verdict o == .blank) w <;> rfl

theorem contains_filter_of_mem {α : Type} [BEq α] [LawfulBEq α] {l : List α} {a : α} (f : α → Bool) (h : a ∈ l) :
    (l.filter f).contains a = f a := by
  rw [Bool.eq_iff_iff, List.contains_iff_mem, List.mem_filter]
  exact and_iff_right h

theorem State.verdictsInOrder_eq (s : State) (x : Expectation) (o : RoundObs) :
    s.verdictsInOrder x o = x.byIndex.filter fun w => !s.losesAfterGains x o w && !s.losesAfterHand x o w := by
  refine List.filter_congr fun w hw => ?_
  rw [State.lossesAfterGains_eq, State.lossesAfterHand_eq, contains_filter_of_mem _ hw,
    contains_filter_of_mem _ hw]

end Sys2Proof.Machine

/-! The close of the oldest round (R105, R117; O50). -/

namespace Sys2Proof.Machine

open Sys2Proof

variable {s t u : State} {i : HomeIdx} {round : Round}

/-! ### The round verdict inside the close -/

/-- The round verdict is applied between parts of the close that spare the light monitor and, in a blank round, raise
no miss count. -/
theorem State.closeMapped_verdict (s : State) {p : Params} (hp : s.setup = some p) (e : RoundExp) (x : Expectation)
    (o : RoundObs) : ∃ v, s.Spares (x.verdict o = .blank) v ∧ v.framer.silence = s.framer.silence
      ∧ (v.applyVerdict (x.verdict o) e.round).Spares (x.verdict o = .blank) (s.closeMapped p e x o) := by
  have blank (h : x.verdict o = .blank) : (x.verdict o == .blank) = true := by rw [h]; rfl
  let v := (s.applyWindows o (x.verdict o == .blank) e.round (s.verdictsInOrder x o)).spanCollision x o e.spanGood
  have closes : s.Closes v := (State.closes_applyWindows hp ..).trans (State.closes_spanCollision ..)
  refine ⟨v, ((State.Spares.refl s).applyWindows o blank ..).spanCollision .., ?_, ?_⟩
  · rw [closes.sweeps.framer]
  have cleared := (State.Spares.refl (m := x.verdict o = .blank) (v.applyVerdict (x.verdict o) e.round)).clearMarkers
    e.round
  have bursts := cleared.trans (.foldl (fun u w => (State.Spares.refl u).applyBurst p (s.gainsAllowed x) o e.round w)
    x.windows _)
  have outcomes := bursts.trans (.foldl (fun u w => (State.Spares.refl u).takeOutcome p o e.round w) x.windows _)
  exact (((outcomes.attributeLight p (s.chargeableAt x) x o e.round).settleDecays.applyWindows o blank ..).takeRound
    ..).applyWindows o blank ..

theorem State.closeMapped_of_lit {p : Params} (hp : s.setup = some p) {x : Expectation} {o : RoundObs}
    (lit : x.verdict o = .lit) (e : RoundExp) :
    (s.closeMapped p e x o).light = { streak := 0, loss := false, lossAge := 0 }
      ∧ (s.closeMapped p e x o).counter .blankRound = s.counter .blankRound := by
  obtain ⟨v, before, -, after⟩ := s.closeMapped_verdict hp e x o
  rw [lit] at after
  have closed := v.litClosed_light e.round
  exact ⟨after.light.trans closed.1, after.blanks.trans (closed.2.trans before.blanks)⟩

theorem State.closeMapped_of_neither {p : Params} (hp : s.setup = some p) {x : Expectation} {o : RoundObs}
    (neither : x.verdict o = .neither) (e : RoundExp) : (s.closeMapped p e x o).light = s.light := by
  obtain ⟨v, before, -, after⟩ := s.closeMapped_verdict hp e x o
  rw [neither] at after
  exact after.light.trans before.light

theorem State.closeMapped_of_blank {p : Params} (hp : s.setup = some p) {x : Expectation} {o : RoundObs}
    (blank : x.verdict o = .blank) (e : RoundExp) :
    (s.closeMapped p e x o).counter .blankRound = min (s.counter .blankRound + 1) counterMax
      ∧ (s.closeMapped p e x o).light.streak = s.blankStreak
      ∧ ((s.closeMapped p e x o).light.loss = true ↔
        s.light.loss = true ∨ s.framer.silence = false ∧ 7 ≤ s.light.streak)
      ∧ ∀ i, ((s.closeMapped p e x o).entry i).miss ≤ (s.entry i).miss := by
  obtain ⟨v, before, silence, after⟩ := s.closeMapped_verdict hp e x o
  rw [blank] at after
  obtain ⟨counted, streak, loss, homes⟩ := v.blankClosed_light e.round
  have same : v.blankStreak = s.blankStreak := by rw [State.blankStreak, silence, before.light]; rfl
  refine ⟨?_, ?_, ?_, fun i => ?_⟩
  · rw [after.blanks, ← before.blanks]
    exact counted
  · rw [after.light, ← same]
    exact streak
  · rw [after.light, ← before.light, ← silence]
    exact loss
  · calc ((s.closeMapped p e x o).entry i).miss ≤ ((v.applyVerdict .blank e.round).entry i).miss := after.miss rfl i
      _ = (v.entry i).miss := congrArg Entry.miss (State.entry_congr homes i)
      _ ≤ (s.entry i).miss := before.miss blank i

/-! ### The order of the parts -/

/-- The parts of the close of a mapped round, with the late losses told by the entries as the close begins. -/
theorem State.closeMapped_eq (s : State) (p : Params) (e : RoundExp) (x : Expectation) (o : RoundObs) :
    s.closeMapped p e x o =
      let judged (f : Window → Bool) (u : State) : State :=
        u.applyWindows o (x.verdict o == .blank) e.round (x.byIndex.filter f)
      let u1 := ((judged (fun w => !s.losesAfterGains x o w && !s.losesAfterHand x o w) s).spanCollision x o
        e.spanGood).applyVerdict (x.verdict o) e.round
      let u2 := x.windows.foldl (fun u w => u.applyBurst p (s.gainsAllowed x) o e.round w) (u1.clearMarkers e.round)
      let u3 := x.windows.foldl (fun u w => u.takeOutcome p o e.round w) u2
      let u4 := (u3.attributeLight p (s.chargeableAt x) x o e.round).settleDecays
      let u5 := (judged (s.losesAfterGains x o) u4).takeRound e.round (x.stray o) (x.verdict o) x.kind
      judged (s.losesAfterHand x o) u5 := by
  rw [State.closeMapped, State.verdictsInOrder_eq, State.lossesAfterGains_eq, State.lossesAfterHand_eq]

/-- The home of a window is charged for a Lit neighbour (R119, R120; log 31). -/
theorem State.chargeableAt_contains (s : State) {x : Expectation} {w : Window} (h : w ∈ x.windows) :
    (s.chargeableAt x).contains w = (s.gainsAllowed x && s.chargeable w) := by
  unfold State.chargeableAt
  cases s.gainsAllowed x with
  | true => exact contains_filter_of_mem _ h
  | false => rfl

end Sys2Proof.Machine

/-! The close of the oldest round, in the words of its statement (R117; O50). -/

namespace Sys2Proof.Machine

open Sys2Proof

variable {s t u : State} {i : HomeIdx} {round : Round}

/-- A round with no Lit core quantum and no overlap attributes its Lit neighbours to the homes that may be charged. -/
theorem State.attributeLight_eq (s : State) (p : Params) (charged : List Window) (x : Expectation) (o : RoundObs)
    (round : Round) {beside : State → Window → State}
    (h : ∀ u, ∀ w ∈ x.windows, u.attributeWindow p charged o round w = beside u w) :
    s.attributeLight p charged x o round =
      if x.litCore o = 0 ∧ x.overlapCount o = 0 then x.windows.foldl beside s else s := by
  have same : x.windows.foldl (fun u w => u.attributeWindow p charged o round w) s = x.windows.foldl beside s :=
    List.foldl_ext _ _ _ fun u w hw => h u w hw
  rw [State.attributeLight, same]
  refine if_congr ?_ rfl rfl
  simp [Expectation.attributes]

theorem State.spanCollision_eq (s : State) (x : Expectation) (o : RoundObs) (good : Bool) :
    s.spanCollision x o good =
      if good = false ∧ (o.lit.any fun q => decide (q < x.discovery)) = true then
        s.bump .discoveryCollision else s := by
  refine if_congr ?_ rfl rfl
  simp only [Bool.and_eq_true, Bool.not_eq_true']

theorem State.chargeable_eq (s : State) (w : Window) :
    s.chargeable w = (decide ((s.entry w.index).tag = w.tag) && !(s.entry w.index).probe
      && (decide ((s.entry w.index).state = .held) || decide ((s.entry w.index).state = .active)
        || decide ((s.entry w.index).state = .dozing))) := by
  have candidate (k : EState) :
      k.candidate = (decide (k = .held) || decide (k = .active) || decide (k = .dozing)) := by
    cases k <;> rfl
  unfold State.chargeable
  dsimp only
  rw [candidate, beq_eq_decide, Bool.and_right_comm]

/-- The part once its oldest round has left the list of those that wait. -/
def State.taking (s : State) (rest : List RoundExp) : State :=
  { s with rx := { s.rx with closing := rest }, toSwitch := [] }

section
variable {e : RoundExp} {rest : List RoundExp} {p : Params} (o : RoundObs) (closing : s.rx.closing = e :: rest)
  (setup : s.setup = some p)
include closing setup

theorem State.closeRound_of_mapped {x : Expectation} (map : e.map = some x) :
    s.closeRound o = (s.taking rest).closeMapped p e x o := by
  unfold State.closeRound
  split
  · rename_i _ _ _ closes set
    obtain ⟨rfl, rfl⟩ := List.cons.inj (closing.symm.trans closes)
    cases setup.symm.trans set
    dsimp only
    rw [map]
    rfl
  · rename_i idle
    exact (idle e rest p closing setup).elim

theorem State.closeRound_of_unmapped (map : e.map = none) :
    s.closeRound o = (s.taking rest).closeUnmapped e o := by
  unfold State.closeRound
  split
  · rename_i _ _ _ closes set
    obtain ⟨rfl, rfl⟩ := List.cons.inj (closing.symm.trans closes)
    cases setup.symm.trans set
    dsimp only
    rw [map]
    rfl
  · rename_i idle
    exact (idle e rest p closing setup).elim

theorem State.closeRound_closes : (s.taking rest).Closes (s.closeRound o) := by
  cases map : e.map with
  | none =>
    rw [State.closeRound_of_unmapped o closing setup map]
    exact State.closes_closeUnmapped ..
  | some x =>
    rw [State.closeRound_of_mapped o closing setup map]
    exact State.closes_closeMapped (by exact setup) ..

end

/-- Settles O50: the verdict by `litClosed_*` and `blankClosed_*`, the frame by `closes_closeMapped`, the order of the
parts by `closeMapped_eq`, the light by `closeMapped_of_*`. -/
theorem roundCloseTakesOldestRound : Obligations.RoundCloseTakesOldestRound := by
  refine ⟨fun u round => ?_, fun s o => ⟨fun none => ?_, ?_⟩⟩
  · intro noticed told lit blank declares
    refine ⟨rfl, fun clear => State.litClosed_of_clear clear round, fun loss => ?_, fun h => ?_, fun h => ?_⟩
    · have closed : lit = _ := State.litClosed_of_loss loss round
      rw [closed]
      exact ⟨State.raise_told _ _, State.Gained.raise (.of_eq rfl) _⟩
    · have closed : blank = _ := State.blankClosed_of_loses h round
      rw [closed]
      refine ⟨State.raise_told _ _, ?_⟩
      refine (State.Gained.raise (((State.Gained.of_eq ?_).bump _).bump _) _).perm ?_
      · rfl
      · exact .trans (.swap _ _ _) (.trans (.cons _ (.swap _ _ _)) (.swap _ _ _))
    · have closed : blank = _ := State.blankClosed_of_not h round
      rw [closed]
      exact ⟨rfl, (State.Gained.of_eq rfl).bump _⟩
  · refine congrArg Host.Outcome.next ?_
    unfold State.closeRound
    split
    · rename_i closing setup
      rcases none with h | h
      · rw [h] at closing; cases closing
      · rw [h] at setup; cases setup
    · rfl
  intro e rest p closing setup taken cleared
  have sweeps := (State.closeRound_closes o closing setup).sweeps
  have markers (u : State) : cleared u = u.clearMarkers e.round := (u.clearMarkers_eq e.round).symm
  refine ⟨s.closeRound o, rfl, sweeps.rx, sweeps.clock, sweeps.planner, sweeps.enrol, sweeps.ring, sweeps.setup,
    sweeps.straps, ?_, ?_, ?_, fun map => ?_, fun x map => ?_⟩
  · rw [sweeps.bus]
    rfl
  · rw [sweeps.framer]
    rfl
  · rw [sweeps.framer]
    rfl
  · rw [State.closeRound_of_unmapped o closing setup map] at sweeps ⊢
    have spared : taken.Spares True (taken.closeUnmapped e o) :=
      (((State.Spares.refl taken).clearMarkers e.round).settleDecays).takeRound ..
    refine ⟨?_, spared.light, State.takeRound_toSwitch .., ?_⟩
    · rw [markers]
      rfl
    · rw [sweeps.banks]
      rfl
  rw [State.closeRound_of_mapped o closing setup map]
  intro litWindow lit granted verdict kind gains fourth late last byIndex judged discovery collided charged attributed
    beside u1 u2 u3 u4 u5
  have hgranted : granted = x.windows.any fun w => w.isWindow :=
    congrArg x.windows.any (funext fun w => w.isWindow_eq.symm)
  have hverdict : verdict = x.verdict o := by
    show (if lit then RoundVerdict.lit else if granted then .blank else .neither) = _
    rw [hgranted]
    rfl
  have hkind : kind = x.kind := rfl
  have hgains : gains = (s.taking rest).gainsAllowed x := by
    show (decide (kind ≠ .quiet) && !s.probing) = _
    rw [hkind, decide_not]
    rfl
  have hfourth (w : Window) : fourth w = (s.taking rest).fourthMiss o (x.verdict o == .blank) w := by
    show (w.isWindow && (decide ((s.entry w.index).state = .held) || decide ((s.entry w.index).state = .active))
      && !(s.entry w.index).probe && decide ((s.entry w.index).miss = 3) && !litWindow w
      && decide (verdict ≠ .blank) && !s.framer.silence) = _
    rw [hverdict, decide_not]
    rfl
  have hlate : late = (s.taking rest).losesAfterGains x o := by
    funext w
    show (fourth w && o.lossAfterGains.contains w.index) = _
    rw [hfourth]
    rfl
  have hlast : last = (s.taking rest).losesAfterHand x o := by
    funext w
    show (fourth w && !late w && o.lossAfterHand.contains w.index) = _
    rw [hfourth, hlate]
    rfl
  have hjudged (f : Window → Bool) (u : State) : judged (byIndex.filter f) u =
      u.applyWindows o (x.verdict o == .blank) e.round (x.byIndex.filter f) := by
    show (byIndex.filter f).foldl (fun u w => u.applyWindow o (decide (verdict = .blank)) e.round w) u = _
    rw [hverdict]
    rfl
  have hcollided (u : State) : collided u = u.spanCollision x o e.spanGood := (u.spanCollision_eq x o e.spanGood).symm
  have hcharged (w : Window) (hw : w ∈ x.windows) :
      charged w = ((s.taking rest).chargeableAt x).contains w := by
    rw [State.chargeableAt_contains _ hw]
    show (gains && decide ((s.entry w.index).tag = w.tag) && !(s.entry w.index).probe
      && (decide ((s.entry w.index).state = .held) || decide ((s.entry w.index).state = .active)
        || decide ((s.entry w.index).state = .dozing))) = _
    rw [hgains, State.chargeable_eq, ← Bool.and_assoc, ← Bool.and_assoc]
    rfl
  have hattributed (w : Window) (hw : w ∈ x.windows) (c : Counter) (u : State) :
      u.attributeOne p ((s.taking rest).chargeableAt x) e.round w c = attributed w c u := by
    rw [State.attributeOne, ← hcharged w hw]
    refine if_congr ?_ rfl rfl
    rw [Bool.and_eq_true, beq_iff_eq]
    rfl
  have hbeside (u : State) (w : Window) (hw : w ∈ x.windows) :
      u.attributeWindow p ((s.taking rest).chargeableAt x) o e.round w = beside u w := by
    rw [State.attributeWindow]
    simp only [hattributed w hw]
    rfl
  refine ⟨?_, fun h => ?_, fun dark none => ?_, fun dark some => ?_⟩
  · have hu1 : u1 = (((s.taking rest).applyWindows o (x.verdict o == .blank) e.round (x.byIndex.filter fun w =>
        !(s.taking rest).losesAfterGains x o w && !(s.taking rest).losesAfterHand x o w)).spanCollision x o
          e.spanGood).applyVerdict (x.verdict o) e.round := by
      show (collided (judged (byIndex.filter fun w => !late w && !last w) taken)).applyVerdict verdict e.round = _
      rw [hcollided, hjudged, hlate, hlast, hverdict]
      rfl
    have hu3 : u3 = x.windows.foldl (fun u w => u.takeOutcome p o e.round w) (x.windows.foldl
        (fun u w => u.applyBurst p ((s.taking rest).gainsAllowed x) o e.round w) (u1.clearMarkers e.round)) := by
      rw [← markers, ← hgains]
    have hu4 : u4 = (u3.attributeLight p ((s.taking rest).chargeableAt x) x o e.round).settleDecays := by
      rw [State.attributeLight_eq u3 p _ x o e.round hbeside]
      rfl
    rw [State.closeMapped_eq, hjudged, hlast]
    show _ = State.applyWindows ((judged (byIndex.filter late) u4).takeRound e.round (x.stray o) verdict kind) ..
    rw [hjudged, hlate, hu4, hu3, hu1, hverdict, hkind]
  · exact State.closeMapped_of_lit (s := s.taking rest) setup (Expectation.verdict_of_lit h) e
  · refine State.closeMapped_of_neither (s := s.taking rest) setup ?_ e
    rw [Expectation.verdict_of_dark dark, ← hgranted, none]
    rfl
  · refine State.closeMapped_of_blank (s := s.taking rest) setup ?_ e
    rw [Expectation.verdict_of_dark dark, ← hgranted, some]
    rfl

end Sys2Proof.Machine

/-! A map under construction and what its homes hold (R63, R64, R67 to R72; O43). -/

namespace Sys2Proof.Machine

open Sys2Proof

variable {homes : Vector Home 64} {d e : Draft} {i j : HomeIdx} {g : PGrant}

/-! ### The space and the number of grants (R64) -/

theorem contentSpace_get (d : Draft) (i : HomeIdx) : contentSpace (d.get i) = d.spaceAt i := by
  unfold Draft.spaceAt
  rcases d.get i with _ | (_ | _ | _) <;> rfl

theorem contentSpace_some (g : PGrant) : contentSpace (some g) = g.space := by cases g <;> rfl

theorem Content.left_get (d : Draft) (span : Nat) : Content.left d.get span = d.left span := by
  unfold Content.left Draft.left Draft.used
  rw [show (fun i => contentSpace (d.get i)) = d.spaceAt from funext fun i => contentSpace_get d i]
  rfl

theorem Content.size_get (d : Draft) : Content.size d.get = d.count := rfl

theorem Content.put_get (d : Draft) (i : HomeIdx) (g : PGrant) : (d.put i g).get = Content.put d.get i g :=
  funext fun j => Draft.get_put d i j g

theorem Content.place_get (d : Draft) (span : Nat) (i : HomeIdx) (g : PGrant) :
    (d.add span i g).get = Content.place d.get span i g := by
  unfold Draft.add Content.place
  rw [Content.left_get, Content.size_get, contentSpace_get, contentSpace_some, ← Content.put_get]
  rw [apply_ite Draft.get]
  refine if_congr ?_ rfl rfl
  simp [Draft.slot]

/-! ### Payload (R70, R71) -/

/-- Payload quanta for a home: what it is given, or nothing. -/
theorem Draft.give_new (h : d.get i = none) (want : Nat) :
    d.give 0 i want =
      if min want (d.left 0 - 5) = 0 ∨ 80 ≤ d.count then none
      else some (d.put i (.window (min want (d.left 0 - 5)))) := by
  have absent : d.payloadAt i = some none := by rw [Draft.payloadAt, h]
  rw [Draft.give, absent]
  refine if_congr (or_congr_right ?_) rfl rfl
  simp [Draft.slot, h]

theorem Draft.give_more {y : Nat} (h : d.get i = some (.window y)) (want : Nat) :
    d.give 0 i want = if min want (d.left 0) = 0 then none else some (d.put i (.window (y + min want (d.left 0)))) := by
  have held : d.payloadAt i = some (some y) := by rw [Draft.payloadAt, h]
  rw [Draft.give, held]

theorem Draft.give_test (h : d.get i = some .test) (want : Nat) : d.give 0 i want = none := by
  rw [Draft.give, show d.payloadAt i = none by rw [Draft.payloadAt, h]]

theorem Draft.give_ranging {s : Nat} (h : d.get i = some (.ranging s)) (want : Nat) : d.give 0 i want = none := by
  rw [Draft.give, show d.payloadAt i = none by rw [Draft.payloadAt, h]]

theorem Content.pay_get (d : Draft) (i : HomeIdx) (want : Nat) :
    ((d.give 0 i want).getD d).get = Content.pay d.get i want := by
  unfold Content.pay
  rw [Content.left_get, Content.size_get]
  split
  · rename_i absent
    rw [Draft.give_new absent]
    dsimp only
    split
    · rfl
    · exact Content.put_get ..
  · rename_i y held
    rw [Draft.give_more held]
    dsimp only
    split
    · rfl
    · exact Content.put_get ..
  · rename_i other window held
    rcases other with y | _ | s
    · exact (window y rfl).elim
    · rw [Draft.give_test held]; rfl
    · rw [Draft.give_ranging held]; rfl

/-- A gift changes what its home holds. -/
theorem Draft.give_ne {want : Nat} (h : d.give 0 i want = some e) : e.get ≠ d.get := by
  intro same
  have at_i := congrFun same i
  rcases held : d.get i with _ | (y | _ | s)
  · rw [Draft.give_new held] at h
    split at h
    · cases h
    · cases h
      rw [Draft.get_put, if_pos rfl, held] at at_i
      cases at_i
  · rw [Draft.give_more held] at h
    split at h
    · cases h
    · cases h
      rw [Draft.get_put, if_pos rfl, held] at at_i
      simp only [Option.some.injEq, PGrant.window.injEq] at at_i
      omega
  · rw [Draft.give_test held] at h
    cases h
  · rw [Draft.give_ranging held] at h
    cases h

/-! ### Enrolment grants (R69) -/

theorem spanAsked_eq (h : Home) : spanAsked h = rangingRequest h := by
  unfold spanAsked rangingRequest
  cases h.entry.state <;> cases h.progress <;> cases h.inPlace <;> rfl

theorem testAsked_eq (h : Home) : testAsked h = testRequest h := by
  unfold testAsked testRequest
  cases h.entry.state <;> cases h.progress <;> rfl

/-- The home's ranging span, where it holds one, meets a span that starts at `s`. -/
def Content.meets (m : Content) (s : Nat) (j : HomeIdx) : Bool :=
  match m j with
  | some (.ranging t) => decide (t < s + 26 ∧ s < t + 26)
  | _ => false

theorem Draft.overlapped_eq (d : Draft) (s : Nat) :
    d.overlapped s = (List.finRange 64).any (Content.meets d.get s) := by
  unfold Draft.overlapped spansOverlap
  refine congrArg (List.any _) (funext fun j => ?_)
  unfold Content.meets
  rcases d.get j with _ | (y | _ | t)
  · rfl
  · rfl
  · rfl
  · exact decide_eq_decide.mpr and_comm

/-- The ranging span that the enrolment grants of a home begin with. -/
def Content.spanned (m : Content) (i : HomeIdx) (h : Home) : Content :=
  match spanAsked h with
  | none => m
  | some c =>
    if (List.finRange 64).any (Content.meets m (rangingStart c)) then m
    else m.place 0 i (.ranging (rangingStart c))

theorem Content.enrol_eq (m : Content) (i : HomeIdx) (h : Home) :
    m.enrol i h = match testAsked h, Content.spanned m i h i with
      | true, some (.ranging _) => Content.spanned m i h
      | true, _ => (Content.spanned m i h).place 0 i .test
      | false, _ => Content.spanned m i h := rfl

theorem Content.spanned_get (d : Draft) (i : HomeIdx) :
    (stepSpan homes 0 d i).get = Content.spanned d.get i homes[i.val] := by
  unfold stepSpan Content.spanned
  rw [spanAsked_eq]
  cases rangingRequest homes[i.val] with
  | none => rfl
  | some c =>
    dsimp only
    rw [← Draft.overlapped_eq]
    split
    · rfl
    · exact Content.place_get ..

theorem Content.enrol_get (d : Draft) (i : HomeIdx) :
    (stepEnrol homes 0 d i).get = Content.enrol d.get i homes[i.val] := by
  rw [Content.enrol_eq, ← Content.spanned_get, testAsked_eq]
  unfold stepEnrol Draft.hasSpan
  dsimp only
  generalize stepSpan homes 0 d i = e
  cases testRequest homes[i.val] with
  | false => rfl
  | true =>
    rcases held : e.get i with _ | (y | _ | s)
    · exact Content.place_get ..
    · exact Content.place_get ..
    · exact Content.place_get ..
    · rfl

/-! ### Homes taken one after another (R67) -/

theorem Content.after_foldl {step : Draft → HomeIdx → Draft} {step' : Content → HomeIdx → Content}
    (h : ∀ d i, (step d i).get = step' d.get i) (order : Nat → HomeIdx) (d : Draft) (n : Nat) :
    (((List.range n).map order).foldl step d).get = Content.after d.get order step' n := by
  induction n with
  | zero => rfl
  | succ n ih =>
    rw [List.range_succ, List.map_append, List.foldl_append, List.map_singleton, List.foldl_cons, List.foldl_nil, h, ih]
    rfl

/-- The homes in ascending order. -/
def ascending (k : Nat) : HomeIdx := Fin.ofNat 64 k

theorem allIdx_eq : allIdx = (List.range 64).map ascending := by decide

theorem Content.after_allIdx {step : Draft → HomeIdx → Draft} {step' : Content → HomeIdx → Content}
    (h : ∀ d i, (step d i).get = step' d.get i) (d : Draft) :
    (allIdx.foldl step d).get = Content.after d.get ascending step' 64 := by
  rw [allIdx_eq]
  exact Content.after_foldl h ascending d 64

end Sys2Proof.Machine

/-! The steps of a normal round, and the cycles of the excess (R67, R70 to R72; O43). -/

namespace Sys2Proof.Machine

open Sys2Proof

variable {homes : Vector Home 64} {d e : Draft} {i j p : HomeIdx} {g : PGrant}

/-! ### The steps in the words of the statement -/

/-- An Active home that is not probe-muted. -/
def served (homes : Vector Home 64) (i : HomeIdx) : Bool :=
  decide ((homes[i.val]).entry.state = .active) && !(homes[i.val]).entry.probe

/-- The payload a home holds in a map. -/
def Content.payload (m : Content) (i : HomeIdx) : Nat :=
  match m i with
  | some (.window y) => y
  | _ => 0

def Content.guarantee (homes : Vector Home 64) (m : Content) (i : HomeIdx) : Content :=
  if served homes i then m.pay i (min (homes[i.val]).entry.share ((homes[i.val]).entry.backlog.getD 0)) else m

def Content.excess (homes : Vector Home 64) (m : Content) (i : HomeIdx) : Content :=
  if served homes i then
    m.pay i (min ((homes[i.val]).entry.backlog.getD 0 - Content.payload m i) ((homes[i.val]).entry.weight * 16))
  else m

def Content.optional (homes : Vector Home 64) (m : Content) (i : HomeIdx) : Content :=
  if ((homes[i.val]).entry.state = .held ∨ (homes[i.val]).entry.state = .active) ∧ (homes[i.val]).entry.probe = false
      ∧ 0 < (homes[i.val]).entry.balance ∧ m i = none then
    m.place 0 i (.window 0)
  else m

theorem Entry.pollable_iff {e : Entry} :
    e.pollable = true ↔ (e.state = .held ∨ e.state = .active) ∧ e.probe = false := by
  simp [Entry.pollable]

theorem Entry.dataable_iff {e : Entry} : e.dataable = true ↔ e.state = .active ∧ e.probe = false := by
  simp [Entry.dataable]

theorem served_eq (homes : Vector Home 64) (i : HomeIdx) : served homes i = (homes[i.val]).entry.dataable := rfl

theorem Content.payload_get (d : Draft) (i : HomeIdx) :
    Content.payload d.get i = ((d.payloadAt i).getD none).getD 0 := by
  unfold Content.payload Draft.payloadAt
  rcases d.get i with _ | (y | _ | s) <;> rfl

theorem Content.guarantee_get (d : Draft) (i : HomeIdx) :
    (stepGuaranteed homes 0 d i).get = Content.guarantee homes d.get i := by
  unfold stepGuaranteed Content.guarantee
  rw [served_eq, ← Content.pay_get, apply_ite Draft.get]

theorem Content.excess_get (d : Draft) (i : HomeIdx) :
    ((visit homes 0 d i).getD d).get = Content.excess homes d.get i := by
  unfold visit Content.excess remaining
  rw [served_eq, ← Content.pay_get, Content.payload_get]
  dsimp only
  split
  · rfl
  · rfl

theorem Content.optional_get (d : Draft) (i : HomeIdx) :
    (stepOptional homes 0 d i).get = Content.optional homes d.get i := by
  unfold stepOptional Content.optional
  rw [← Content.place_get, apply_ite Draft.get]
  refine if_congr ?_ rfl rfl
  rw [Bool.and_eq_true, Bool.and_eq_true, Entry.pollable_iff, decide_eq_true_eq, Option.isNone_iff_eq_none]
  tauto

theorem visit_ne (h : visit homes 0 d i = some e) : e.get ≠ d.get := by
  unfold visit at h
  dsimp only at h
  split at h
  · exact Draft.give_ne h
  · cases h

/-! ### The visits of the excess, one after another (R71) -/

/-- The homes in the order of the cycles from the rotation pointer on. -/
def rotating (p : HomeIdx) (k : Nat) : HomeIdx := p + ascending k

theorem rotating_add (p : HomeIdx) (c k : Nat) : rotating p (64 * c + k) = rotating p k := by
  refine congrArg (p + ·) (Fin.ext ?_)
  show (64 * c + k) % 64 = k % 64
  omega

theorem cycleOrder_eq (p : HomeIdx) : cycleOrder p = (List.range 64).map (rotating p) := by
  rw [cycleOrder, allIdx_eq, List.map_map]
  rfl

/-- The map after a number of visits, with the last home served. -/
def visits (homes : Vector Home 64) (p : HomeIdx) (d : Draft) : Nat → Draft × Option HomeIdx
  | 0 => (d, none)
  | k + 1 => cycleStep homes 0 (visits homes p d k) (rotating p k)

theorem cycleStep_draft (acc : Draft × Option HomeIdx) (i : HomeIdx) :
    (cycleStep homes 0 acc i).1 = (visit homes 0 acc.1 i).getD acc.1 := by
  unfold cycleStep
  cases visit homes 0 acc.1 i <;> rfl

theorem visits_get (d : Draft) (k : Nat) :
    (visits homes p d k).1.get = Content.after d.get (rotating p) (Content.excess homes) k := by
  induction k with
  | zero => rfl
  | succ k ih =>
    rw [visits, cycleStep_draft, Content.excess_get, ih]
    rfl

/-- The last home served is that of the last visit that gave something. -/
theorem visits_last (d : Draft) {n k : Nat} (hk : k < n)
    (gave : (visits homes p d (k + 1)).1.get ≠ (visits homes p d k).1.get)
    (last : ∀ j, k < j → j < n → (visits homes p d (j + 1)).1.get = (visits homes p d j).1.get) :
    (visits homes p d n).2 = some (rotating p k) := by
  induction n with
  | zero => omega
  | succ n ih =>
    rw [visits]
    unfold cycleStep
    cases given : visit homes 0 (visits homes p d n).1 (rotating p n) with
    | none =>
      have still : visits homes p d (n + 1) = visits homes p d n := by
        rw [visits]
        unfold cycleStep
        rw [given]
      have other : k ≠ n := fun e => gave (by rw [e, still])
      exact ih (by omega) fun j hj hn => last j hj (by omega)
    | some u =>
      have moves : (visits homes p d (n + 1)).1.get ≠ (visits homes p d n).1.get := by
        rw [visits, cycleStep_draft, given]
        exact visit_ne given
      have same : k = n := by
        by_contra other
        exact moves (last n (by omega) (by omega))
      rw [same]

/-! ### Cycles (R71) -/

/-- A walk remembers an earlier home only where it serves none. -/
theorem foldl_cycleStep (l : List HomeIdx) (d : Draft) (last : Option HomeIdx) :
    l.foldl (cycleStep homes 0) (d, last) =
      ((l.foldl (cycleStep homes 0) (d, none)).1, (l.foldl (cycleStep homes 0) (d, none)).2.or last) := by
  induction l generalizing d last with
  | nil => rfl
  | cons i l ih =>
    rw [List.foldl_cons, List.foldl_cons]
    cases given : visit homes 0 d i with
    | none =>
      have still (x : Option HomeIdx) : cycleStep homes 0 (d, x) i = (d, x) := by
        unfold cycleStep
        rw [given]
      rw [still, still, ih]
    | some u =>
      have moves (x : Option HomeIdx) : cycleStep homes 0 (d, x) i = (u, some i) := by
        unfold cycleStep
        rw [given]
      rw [moves, moves, ih u (some i)]
      cases (l.foldl (cycleStep homes 0) (u, none)).2 <;> rfl

theorem visits_foldl (homes : Vector Home 64) (p : HomeIdx) (d : Draft) (n k : Nat) :
    visits homes p d (n + k) =
      ((List.range k).map fun k => rotating p (n + k)).foldl (cycleStep homes 0) (visits homes p d n) := by
  induction k with
  | zero => rfl
  | succ k ih =>
    rw [List.range_succ, List.map_append, List.foldl_append, ← ih]
    rfl

/-- Every 64 visits are a cycle. -/
theorem visits_cycle (homes : Vector Home 64) (p : HomeIdx) (d : Draft) (c : Nat) :
    visits homes p d (64 * c + 64) =
      ((cycle homes 0 p (visits homes p d (64 * c)).1).1,
        (cycle homes 0 p (visits homes p d (64 * c)).1).2.or (visits homes p d (64 * c)).2) := by
  rw [visits_foldl, cycle_eq, cycleOrder_eq, ← foldl_cycleStep]
  simp only [rotating_add]

end Sys2Proof.Machine

/-! The space of a map under construction, and the end of the excess (R64, R71; O43). -/

namespace Sys2Proof.Machine

open Sys2Proof

variable {homes : Vector Home 64} {d e : Draft} {i j p : HomeIdx} {g : PGrant} {span : Nat}

/-! ### The space used (R64) -/

theorem Draft.spaceAt_of_get (h : d.get i = some g) : d.spaceAt i = g.space := by rw [Draft.spaceAt, h]; rfl

theorem Draft.spaceAt_of_none (h : d.get i = none) : d.spaceAt i = 0 := by rw [Draft.spaceAt, h]; rfl

theorem Draft.spaceAt_put (d : Draft) (i j : HomeIdx) (g : PGrant) :
    (d.put i g).spaceAt j = if j = i then g.space else d.spaceAt j := by
  unfold Draft.spaceAt
  rw [Draft.get_put]
  split <;> rfl

theorem Draft.used_put (d : Draft) (span : Nat) (i : HomeIdx) (g : PGrant) :
    (d.put i g).used span + d.spaceAt i = d.used span + g.space := by
  have sum (f : HomeIdx → Nat) : (allIdx.map f).sum = f i + ∑ j ∈ Finset.univ.erase i, f j :=
    (Fin.sum_univ_def f).symm.trans (Finset.add_sum_erase Finset.univ f (Finset.mem_univ i)).symm
  have others : ∑ j ∈ Finset.univ.erase i, (d.put i g).spaceAt j = ∑ j ∈ Finset.univ.erase i, d.spaceAt j :=
    Finset.sum_congr rfl fun j hj => by rw [Draft.spaceAt_put, if_neg (Finset.ne_of_mem_erase hj)]
  unfold Draft.used
  rw [sum, sum, others, Draft.spaceAt_put, if_pos rfl]
  omega

/-- A map that fits its round. -/
def Draft.Fits (span : Nat) (d : Draft) : Prop := d.used span ≤ 4000

theorem Draft.Fits.add (h : d.Fits span) (i : HomeIdx) (g : PGrant) : (d.add span i g).Fits span := by
  unfold Draft.add
  split
  · rename_i room
    obtain ⟨-, room⟩ := Bool.and_eq_true_iff.mp room
    have room := of_decide_eq_true room
    have used := d.used_put span i g
    unfold Draft.Fits Draft.left quantaPerRound at *
    omega
  · exact h

/-- A gift leaves less space, and the map fits its round still. -/
theorem Draft.give_left {want : Nat} (h : d.give 0 i want = some e) :
    e.left 0 < d.left 0 ∧ (d.Fits 0 → e.Fits 0) := by
  unfold Draft.left Draft.Fits quantaPerRound
  rcases held : d.get i with _ | (y | _ | s)
  · rw [Draft.give_new held] at h
    split at h
    · cases h
    · cases h
      have used := d.used_put 0 i (.window (min want (d.left 0 - 5)))
      rw [Draft.spaceAt_of_none held, PGrant.space] at used
      unfold Draft.left quantaPerRound at *
      omega
  · rw [Draft.give_more held] at h
    split at h
    · cases h
    · cases h
      have used := d.used_put 0 i (.window (y + min want (d.left 0)))
      rw [Draft.spaceAt_of_get held, PGrant.space, PGrant.space] at used
      unfold Draft.left quantaPerRound at *
      omega
  · rw [Draft.give_test held] at h
    cases h
  · rw [Draft.give_ranging held] at h
    cases h

theorem visit_left (h : visit homes 0 d i = some e) : e.left 0 < d.left 0 ∧ (d.Fits 0 → e.Fits 0) := by
  unfold visit at h
  dsimp only at h
  split at h
  · exact Draft.give_left h
  · cases h

/-! ### The excess ends (R71) -/

/-- A visit changes nothing, or is remembered and leaves less space. -/
theorem cycleStep_left (acc : Draft × Option HomeIdx) (i : HomeIdx) :
    cycleStep homes 0 acc i = acc ∨
      (cycleStep homes 0 acc i).2.isSome ∧ (cycleStep homes 0 acc i).1.left 0 < acc.1.left 0 := by
  unfold cycleStep
  split
  · exact .inr ⟨rfl, (visit_left ‹_›).1⟩
  · exact .inl rfl

theorem foldl_cycleStep_left (l : List HomeIdx) (acc : Draft × Option HomeIdx) :
    l.foldl (cycleStep homes 0) acc = acc ∨
      (l.foldl (cycleStep homes 0) acc).2.isSome ∧ (l.foldl (cycleStep homes 0) acc).1.left 0 < acc.1.left 0 := by
  induction l generalizing acc with
  | nil => exact .inl rfl
  | cons i l ih =>
    rw [List.foldl_cons]
    rcases cycleStep_left (homes := homes) acc i with still | ⟨kept, less⟩
    · rw [still]
      exact ih acc
    · rcases ih (cycleStep homes 0 acc i) with rest | ⟨later, fewer⟩
      · rw [rest]
        exact .inr ⟨kept, less⟩
      · exact .inr ⟨later, fewer.trans less⟩

/-- A cycle that serves no home changes nothing; any other leaves less space. -/
theorem cycle_cases (homes : Vector Home 64) (p : HomeIdx) (d : Draft) :
    cycle homes 0 p d = (d, none) ∨ (cycle homes 0 p d).2.isSome ∧ (cycle homes 0 p d).1.left 0 < d.left 0 := by
  rw [cycle_eq]
  exact foldl_cycleStep_left (cycleOrder p) (d, none)

theorem visits_cycle_of_idle {c : Nat} (h : cycle homes 0 p (visits homes p d (64 * c)).1 =
      ((visits homes p d (64 * c)).1, none)) : visits homes p d (64 * c + 64) = visits homes p d (64 * c) := by
  rw [visits_cycle, h]
  rfl

/-- The cycles run until one gives nothing: the space left, which each one before it lowers, bounds their number. -/
theorem distribute_visits (homes : Vector Home 64) (p : HomeIdx) (d : Draft) {fuel c : Nat}
    (enough : (visits homes p d (64 * c)).1.left 0 ≤ fuel)
    (gave : ∀ b, b < c → (visits homes p d (64 * b + 64)).1.get ≠ (visits homes p d (64 * b)).1.get) :
    ∃ n, distribute homes 0 p fuel (visits homes p d (64 * c)).1 (visits homes p d (64 * c)).2 =
        visits homes p d (64 * n)
      ∧ visits homes p d (64 * n + 64) = visits homes p d (64 * n)
      ∧ ∀ b, b < n → (visits homes p d (64 * b + 64)).1.get ≠ (visits homes p d (64 * b)).1.get := by
  have next := visits_cycle homes p d c
  induction fuel generalizing c with
  | zero =>
    rcases cycle_cases homes p (visits homes p d (64 * c)).1 with idle | ⟨-, less⟩
    · exact ⟨c, rfl, visits_cycle_of_idle idle, gave⟩
    · omega
  | succ fuel ih =>
    rcases cycle_cases homes p (visits homes p d (64 * c)).1 with idle | ⟨kept, less⟩
    · refine ⟨c, ?_, visits_cycle_of_idle idle, gave⟩
      rw [distribute, idle]
    · obtain ⟨i, last⟩ := Option.isSome_iff_exists.mp kept
      rw [last, Option.some_or] at next
      have further : distribute homes 0 p (fuel + 1) (visits homes p d (64 * c)).1 (visits homes p d (64 * c)).2 =
          distribute homes 0 p fuel (visits homes p d (64 * (c + 1))).1 (visits homes p d (64 * (c + 1))).2 := by
        rw [show 64 * (c + 1) = 64 * c + 64 from rfl, next, distribute]
        split
        · rename_i idle
          rw [idle] at last
          cases last
        · rename_i u k ends
          rw [ends] at last ⊢
          cases last
          rfl
      have left : (visits homes p d (64 * (c + 1))).1.left 0 < (visits homes p d (64 * c)).1.left 0 := by
        rw [show 64 * (c + 1) = 64 * c + 64 from rfl, next]
        exact less
      rw [further]
      refine ih (by omega) (fun b hb => ?_) (visits_cycle ..)
      rcases Nat.lt_succ_iff_lt_or_eq.mp hb with hb | rfl
      · exact gave b hb
      · intro same
        refine absurd left (Nat.not_lt.mpr (le_of_eq ?_))
        rw [← Content.left_get, ← Content.left_get]
        exact congrArg (fun m => Content.left m 0) same.symm

end Sys2Proof.Machine

/-! What a talk map holds, step by step (R67 to R72; O43). -/

namespace Sys2Proof.Machine

open Sys2Proof

variable {homes : Vector Home 64} {d e : Draft} {i j p : HomeIdx} {g : PGrant} {span : Nat}

/-! ### The polls (R68) -/

/-- The map after the forced and the doze-priority polls. -/
def pollsOf (homes : Vector Home 64) (span : Nat) : Draft :=
  allIdx.foldl (stepDoze homes span) (allIdx.foldl (stepForced homes span) Draft.empty)

/-- A home that has to be polled: its balance stands at 8, or it waits with a doze wish (R68). -/
def Entry.presses (e : Entry) : Bool := forcedPoll e || dozePoll e

theorem Entry.presses_iff {e : Entry} :
    e.presses = true ↔ e.probe = false
      ∧ ((e.state = .held ∨ e.state = .active) ∧ e.balance = 8
        ∨ e.state = .active ∧ e.wish = some true ∧ 0 < e.balance) := by
  simp only [Entry.presses, forcedPoll, dozePoll, Bool.or_eq_true, Bool.and_eq_true, Entry.pollable_iff,
    Entry.dataable_iff, decide_eq_true_eq, beq_iff_eq]
  tauto

theorem pollsOf_spec (hs : span ≤ 3238) :
    (pollsOf homes span).PollsOnly ∧
      ∀ i, ((pollsOf homes span).get i).isSome = (homes[i.val]).entry.presses := by
  obtain ⟨forced, got⟩ := forced_polls (homes := homes) hs
  obtain ⟨polls, all⟩ := Draft.PollsOnly.foldl (step := stepDoze homes span)
    (asks := fun i => dozePoll (homes[i.val]).entry)
    (fun d i h => by
      refine ⟨fun asks => ?_, fun e => by simp [stepDoze, e]⟩
      cases held : d.get i with
      | none => exact .inl (by simp [stepDoze, asks, held, h.add_eq hs])
      | some g => exact .inr ⟨by simp [stepDoze, held], rfl⟩) allIdx forced
  refine ⟨polls, fun i => ?_⟩
  have listed : decide (i ∈ allIdx) = true := decide_eq_true (List.mem_finRange i)
  show ((allIdx.foldl (stepDoze homes span) _).get i).isSome = _
  rw [all, got, listed, Bool.true_and]
  rfl

theorem pollsOf_get (hs : span ≤ 3238) (i : HomeIdx) :
    (pollsOf homes span).get i = if (homes[i.val]).entry.presses then some (.window 0) else none := by
  obtain ⟨polls, held⟩ := pollsOf_spec (homes := homes) hs
  have held := held i
  cases holds : (pollsOf homes span).get i with
  | none =>
    rw [holds] at held
    rw [← held]
    rfl
  | some g =>
    rw [holds] at held
    rw [← held, polls i g holds]
    rfl

/-! ### The steps of a normal round (R67) -/

/-- The map of a normal round before the excess. -/
def sharesOf (homes : Vector Home 64) : Draft :=
  allIdx.foldl (stepGuaranteed homes 0) (allIdx.foldl (stepEnrol homes 0) (pollsOf homes 0))

theorem fillMap_excess (homes : Vector Home 64) (p : HomeIdx) :
    ∃ n, visits homes p (sharesOf homes) (64 * n + 64) = visits homes p (sharesOf homes) (64 * n)
      ∧ (∀ b, b < n → (visits homes p (sharesOf homes) (64 * b + 64)).1.get ≠
          (visits homes p (sharesOf homes) (64 * b)).1.get)
      ∧ (fillMap homes p none).1 = allIdx.foldl (stepOptional homes 0) (visits homes p (sharesOf homes) (64 * n)).1
      ∧ (fillMap homes p none).2 = match (visits homes p (sharesOf homes) (64 * n)).2 with
        | some i => i + 1
        | none => p := by
  obtain ⟨n, ends, still, gave⟩ := distribute_visits homes p (sharesOf homes) (fuel := quantaPerRound) (c := 0)
    (Nat.sub_le ..) fun b hb => absurd hb (Nat.not_lt_zero b)
  have ends : distribute homes 0 p quantaPerRound (sharesOf homes) none = _ := ends
  refine ⟨n, still, gave, ?_, ?_⟩
  · show allIdx.foldl (stepOptional homes 0) (distribute homes 0 p quantaPerRound (sharesOf homes) none).1 = _
    rw [ends]
  · rw [← ends]
    rfl

theorem fillMap_fillsNormal (homes : Vector Home 64) (p : HomeIdx) :
    FillsNormal homes p (pollsOf homes 0).get (fillMap homes p none).1.get (fillMap homes p none).2 := by
  unfold FillsNormal
  intro entry backlog serves payload order enrolled shared visited
  obtain ⟨n, still, gave, holds, pointer⟩ := fillMap_excess homes p
  have henrolled : (allIdx.foldl (stepEnrol homes 0) (pollsOf homes 0)).get = enrolled :=
    Content.after_allIdx (step' := fun u i => u.enrol i homes[i.val]) Content.enrol_get _
  have hshared : (sharesOf homes).get = shared := by
    rw [sharesOf, Content.after_allIdx Content.guarantee_get, henrolled]
    rfl
  have hvisited (k : Nat) : (visits homes p (sharesOf homes) k).1.get = visited k := by
    rw [visits_get, hshared]
    rfl
  refine ⟨n, ?_, fun c hc => ?_, fun none => ?_, fun k hk gives last => ?_, ?_⟩
  · rw [← hvisited, ← hvisited, still]
  · rw [← hvisited, ← hvisited]
    exact gave c hc
  · rw [pointer, none]
    rfl
  · simp only [← hvisited] at gives last
    rw [pointer, visits_last _ hk gives last]
    rfl
  · rw [holds, Content.after_allIdx Content.optional_get, hvisited]
    rfl

end Sys2Proof.Machine

/-! What every map under construction keeps: its grants are lawful for their homes, its ranging spans lie apart, and it
fits its round (R64, R65, R69; O43). -/

namespace Sys2Proof.Machine

open Sys2Proof

variable {homes : Vector Home 64} {d e : Draft} {i j p : HomeIdx} {g : PGrant} {span : Nat}

/-- A grant that the home's state, requests and backlog allow (R65, R69 to R72). -/
def PGrant.lawful (h : Home) : PGrant → Prop
  | .window 0 => h.entry.pollable = true ∧ 0 < h.entry.balance
  | .window (x + 1) => h.entry.dataable = true ∧ x + 1 ≤ h.entry.backlog.getD 0
  | .test => testRequest h = true
  | .ranging s => ∃ c, rangingRequest h = some c ∧ s = rangingStart c

/-- Lawful grants, ranging spans apart with their guards, and no more space than the round has. -/
structure Draft.Sound (homes : Vector Home 64) (span : Nat) (d : Draft) : Prop where
  lawful : ∀ i g, d.get i = some g → g.lawful homes[i.val]
  apart : ∀ i j s t, i ≠ j → d.get i = some (.ranging s) → d.get j = some (.ranging t) → s + 26 ≤ t ∨ t + 26 ≤ s
  fits : d.Fits span

theorem Draft.Sound.put (lawful : g.lawful homes[i.val]) (h : d.Sound homes span) (fits : (d.put i g).Fits span)
    (apart : ∀ s j t, g = .ranging s → d.get j = some (.ranging t) → s + 26 ≤ t ∨ t + 26 ≤ s) :
    (d.put i g).Sound homes span where
  fits := fits
  lawful j k holds := by
    rw [Draft.get_put] at holds
    split at holds
    · cases holds
      subst j
      exact lawful
    · exact h.lawful j k holds
  apart j k s t ne hj hk := by
    rw [Draft.get_put] at hj hk
    split at hj
    · rename_i first
      rw [if_neg fun second => ne (first.trans second.symm)] at hk
      exact apart s k t (Option.some.inj hj) hk
    · split at hk
      · exact (apart t j s (Option.some.inj hk) hj).symm
      · exact h.apart j k s t ne hj hk

theorem Draft.Sound.add (h : d.Sound homes span) (lawful : g.lawful homes[i.val])
    (apart : ∀ s j t, g = .ranging s → d.get j = some (.ranging t) → s + 26 ≤ t ∨ t + 26 ≤ s) :
    (d.add span i g).Sound homes span := by
  have fits := h.fits.add i g
  rcases d.add_cases span i g with same | put
  · rw [same]
    exact h
  · rw [put] at fits ⊢
    exact .put lawful h fits apart

/-! ### Polls and enrolment grants (R68, R69) -/

theorem Entry.presses_poll {e : Entry} (h : e.presses = true) : e.pollable = true ∧ 0 < e.balance := by
  obtain ⟨probe, ⟨state, balance⟩ | ⟨state, -, balance⟩⟩ := Entry.presses_iff.mp h
  · exact ⟨Entry.pollable_iff.mpr ⟨state, probe⟩, by omega⟩
  · exact ⟨Entry.pollable_iff.mpr ⟨.inr state, probe⟩, balance⟩

theorem pollsOf_sound (hs : span ≤ 3238) : (pollsOf homes span).Sound homes span := by
  obtain ⟨polls, held⟩ := pollsOf_spec (homes := homes) hs
  refine ⟨fun i g holds => ?_, fun i j s t _ holds _ => ?_, ?_⟩
  · have presses := held i
    rw [holds] at presses
    rw [polls i g holds]
    exact Entry.presses_poll presses.symm
  · cases polls i _ holds
  · exact (polls.used_le span).trans (by omega)

theorem Draft.overlapped_iff {s : Nat} :
    d.overlapped s = false ↔ ∀ j t, d.get j = some (.ranging t) → s + 26 ≤ t ∨ t + 26 ≤ s := by
  rw [Draft.overlapped_eq, List.any_eq_false]
  refine ⟨fun none j t holds => ?_, fun apart j _ => ?_⟩
  · have clear := none j (List.mem_finRange j)
    rw [Content.meets, holds] at clear
    have clear : ¬ (t < s + 26 ∧ s < t + 26) := fun k => clear (decide_eq_true k)
    omega
  · unfold Content.meets
    split
    · rename_i t holds
      have := apart j t holds
      rw [decide_eq_true_eq]
      omega
    · exact Bool.false_ne_true

theorem stepEnrol_sound (h : d.Sound homes span) (i : HomeIdx) : (stepEnrol homes span d i).Sound homes span := by
  have spanned : (stepSpan homes span d i).Sound homes span := by
    unfold stepSpan
    split
    · rename_i c asked
      split
      · exact h
      · rename_i clear
        refine h.add ⟨c, asked, rfl⟩ fun s j t e holds => ?_
        cases e
        exact Draft.overlapped_iff.mp (Bool.eq_false_iff.mpr clear) j t holds
    · exact h
  unfold stepEnrol
  dsimp only
  split
  · rename_i asked
    exact spanned.add (Bool.and_eq_true_iff.mp asked).1 fun s j t e => nomatch e
  · exact spanned

/-! ### Payload (R70, R71) -/

theorem PGrant.lawful_window {h : Home} {n : Nat} (hd : h.entry.dataable = true) (pos : n ≠ 0)
    (le : n ≤ h.entry.backlog.getD 0) : PGrant.lawful h (.window n) := by
  obtain ⟨x, rfl⟩ := Nat.exists_eq_succ_of_ne_zero pos
  exact ⟨hd, le⟩

theorem Draft.Sound.give {want : Nat} (h : d.Sound homes 0) (hd : (homes[i.val]).entry.dataable = true)
    (bound : Content.payload d.get i + want ≤ (homes[i.val]).entry.backlog.getD 0) (given : d.give 0 i want = some e) :
    e.Sound homes 0 := by
  have fits := (Draft.give_left given).2 h.fits
  rcases held : d.get i with _ | (y | _ | s)
  · rw [Draft.give_new held] at given
    split at given
    · cases given
    · rename_i some
      cases given
      exact .put (PGrant.lawful_window hd (fun zero => some (.inl zero)) (by omega)) h fits fun s j t e => nomatch e
  · have payload : Content.payload d.get i = y := by rw [Content.payload, held]
    rw [Draft.give_more held] at given
    split at given
    · cases given
    · cases given
      exact .put (PGrant.lawful_window hd (by omega) (by omega)) h fits fun s j t e => nomatch e
  · rw [Draft.give_test held] at given
    cases given
  · rw [Draft.give_ranging held] at given
    cases given

/-- A home that holds no payload yet. -/
def Draft.Bare (d : Draft) (i : HomeIdx) : Prop := Content.payload d.get i = 0

theorem Draft.Bare.put_other (h : d.Bare i) (ne : i ≠ j) (g : PGrant) : (d.put j g).Bare i := by
  unfold Draft.Bare Content.payload at *
  rw [Draft.get_put, if_neg ne]
  exact h

theorem Draft.give_bare {want : Nat} (h : d.Bare i) (ne : i ≠ j) : ((d.give 0 j want).getD d).Bare i := by
  rcases held : d.get j with _ | (y | _ | s)
  · rw [Draft.give_new held]
    split
    · exact h
    · exact h.put_other ne _
  · rw [Draft.give_more held]
    split
    · exact h
    · exact h.put_other ne _
  · rw [Draft.give_test held]
    exact h
  · rw [Draft.give_ranging held]
    exact h

theorem stepGuaranteed_bare (h : d.Bare i) (ne : i ≠ j) : (stepGuaranteed homes 0 d j).Bare i := by
  unfold stepGuaranteed
  dsimp only
  split
  · exact Draft.give_bare h ne
  · exact h

theorem stepGuaranteed_sound (h : d.Sound homes 0) (bare : d.Bare i) :
    (stepGuaranteed homes 0 d i).Sound homes 0 := by
  unfold stepGuaranteed
  dsimp only
  split
  · rename_i hd
    cases given : d.give 0 i _ with
    | none => exact h
    | some e => exact h.give hd (by rw [bare]; omega) given
  · exact h

/-- Each home is visited once, before it holds payload. -/
theorem foldl_stepGuaranteed_sound {l : List HomeIdx} (nodup : l.Nodup) (h : d.Sound homes 0)
    (bare : ∀ i ∈ l, d.Bare i) : (l.foldl (stepGuaranteed homes 0) d).Sound homes 0 := by
  induction l generalizing d with
  | nil => exact h
  | cons i l ih =>
    obtain ⟨absent, rest⟩ := List.nodup_cons.mp nodup
    refine ih rest (stepGuaranteed_sound h (bare i List.mem_cons_self)) fun j hj => ?_
    exact stepGuaranteed_bare (bare j (List.mem_cons_of_mem i hj)) fun e => absent (e ▸ hj)

theorem Draft.Bare.put (h : d.Bare i) (none : ∀ y, g ≠ .window (y + 1)) : (d.put j g).Bare i := by
  unfold Draft.Bare at *
  rcases eq_or_ne i j with rfl | ne
  · rw [Content.payload, Draft.get_put, if_pos rfl]
    rcases g with (_ | y) | _ | s
    · rfl
    · exact absurd rfl (none y)
    · rfl
    · rfl
  · exact Draft.Bare.put_other h ne g

theorem Draft.Bare.add (h : d.Bare i) (none : ∀ y, g ≠ .window (y + 1)) : (d.add span j g).Bare i := by
  rcases d.add_cases span j g with same | put
  · rw [same]
    exact h
  · rw [put]
    exact h.put none

theorem stepEnrol_bare (h : d.Bare i) (j : HomeIdx) : (stepEnrol homes span d j).Bare i := by
  have spanned : (stepSpan homes span d j).Bare i := by
    unfold stepSpan
    split
    · split
      · exact h
      · exact h.add fun y e => nomatch e
    · exact h
  unfold stepEnrol
  dsimp only
  split
  · exact spanned.add fun y e => nomatch e
  · exact spanned

theorem foldl_invariant {step : Draft → HomeIdx → Draft} {P : Draft → Prop} (h : ∀ d i, P d → P (step d i))
    (l : List HomeIdx) (hd : P d) : P (l.foldl step d) := by
  induction l generalizing d with
  | nil => exact hd
  | cons i l ih => exact ih (h d i hd)

theorem sharesOf_sound (homes : Vector Home 64) : (sharesOf homes).Sound homes 0 := by
  refine foldl_stepGuaranteed_sound (List.nodup_finRange 64) ?_ fun i _ => ?_
  · exact foldl_invariant (P := (·.Sound homes 0)) (fun d i h => stepEnrol_sound h i) allIdx
      (pollsOf_sound (Nat.zero_le _))
  · refine foldl_invariant (P := fun d => d.Bare i) (fun d j h => stepEnrol_bare h j) allIdx ?_
    show Content.payload (pollsOf homes 0).get i = 0
    unfold Content.payload
    rw [pollsOf_get (by omega)]
    split
    · rename_i y holds
      split at holds
      · cases holds
        rfl
      · cases holds
    · rfl

/-! ### The excess and the optional polls (R71, R72) -/

theorem visit_sound (h : d.Sound homes 0) (given : visit homes 0 d i = some e) : e.Sound homes 0 := by
  unfold visit at given
  dsimp only at given
  split at given
  · rename_i hd
    refine h.give hd ?_ given
    have payload : Content.payload d.get i ≤ (homes[i.val]).entry.backlog.getD 0 := by
      unfold Content.payload
      split
      · rename_i y holds
        have lawful := h.lawful i _ holds
        rcases y with _ | y
        · exact Nat.zero_le _
        · exact lawful.2
      · exact Nat.zero_le _
    rw [remaining, ← Content.payload_get]
    omega
  · cases given

theorem visits_sound (h : d.Sound homes 0) (k : Nat) : (visits homes p d k).1.Sound homes 0 := by
  induction k with
  | zero => exact h
  | succ k ih =>
    rw [visits, cycleStep_draft]
    cases given : visit homes 0 (visits homes p d k).1 (rotating p k) with
    | none => exact ih
    | some e => exact visit_sound ih given

theorem stepOptional_sound (h : d.Sound homes 0) (i : HomeIdx) : (stepOptional homes 0 d i).Sound homes 0 := by
  unfold stepOptional
  dsimp only
  split
  · rename_i asks
    obtain ⟨poll, -⟩ := Bool.and_eq_true_iff.mp asks
    obtain ⟨pollable, balance⟩ := Bool.and_eq_true_iff.mp poll
    exact h.add ⟨pollable, of_decide_eq_true balance⟩ fun s j t e => nomatch e
  · exact h

theorem fillMap_sound (homes : Vector Home 64) (p : HomeIdx) {sp : Option (SpanKind × Nat)}
    (hs : (sp.map (·.2)).getD 0 ≤ 3238) : (fillMap homes p sp).1.Sound homes ((sp.map (·.2)).getD 0) := by
  cases sp with
  | some sp => exact pollsOf_sound hs
  | none =>
    obtain ⟨n, -, -, holds, -⟩ := fillMap_excess homes p
    rw [holds]
    exact foldl_invariant (P := (·.Sound homes 0)) (fun d i h => stepOptional_sound h i) allIdx
      (visits_sound (sharesOf_sound homes) _)

end Sys2Proof.Machine

/-! Where the grants of a talk map lie (R73; O43). -/

namespace Sys2Proof.Machine

open Sys2Proof

variable {homes : Vector Home 64} {d e : Draft} {i j p : HomeIdx} {g : PGrant} {span : Nat}

/-! ### One window among the ranging spans ahead (R73) -/

/-- Ranging spans in ascending order, each with the guards of the next between them, the first ahead of the cursor. -/
structure SpansAhead (cursor : Nat) (spans : List Nat) : Prop where
  apart : spans.Pairwise fun s t => s + 26 ≤ t
  ahead : ∀ s ∈ spans, cursor + 2 ≤ s

theorem SpansAhead.next {cursor s : Nat} {rest : List Nat} (h : SpansAhead cursor (s :: rest)) :
    SpansAhead (s + 24) rest where
  apart := (List.pairwise_cons.mp h.apart).2
  ahead t ht := (List.pairwise_cons.mp h.apart).1 t ht

/-- Where a window has been laid, and the spans that it has passed. -/
structure Laid.Fit (isData : Bool) (len cursor : Nat) (spans passed : List Nat) (l : Laid) : Prop where
  split : spans = passed ++ l.spans
  start : cursor + 2 ≤ l.start
  clear : ∀ s ∈ passed, s + 26 ≤ l.start ∨ l.start + l.length + 2 ≤ s
  past : ∀ s ∈ passed, s + 24 ≤ l.cursor
  stop : l.start + l.length ≤ l.cursor
  ahead : ∀ s ∈ l.spans, l.cursor + 2 ≤ s
  soon : l.start = cursor + 2 ∨ ∃ s ∈ spans, l.start = s + 26
  ends : l.cursor = l.start + l.length ∨ ∃ s ∈ spans, l.cursor = s + 24
  length : l.length = len ∨ isData = true ∧ 4 ≤ l.length ∧ l.length < len ∧ l.start + l.length + 2 ∈ spans
  cost : isData = true ∨ len ≤ 19 → l.cursor ≤ cursor + 2 + len + 46 * passed.length

/-- A window that passes the first span of the list. -/
theorem Laid.Fit.pass {isData : Bool} {len cursor s : Nat} {rest passed : List Nat} {l : Laid}
    (ahead : cursor + 2 ≤ s) (waste : isData = true ∨ len ≤ 19 → s ≤ cursor + 22)
    (h : l.Fit isData len (s + 24) rest passed) : l.Fit isData len cursor (s :: rest) (s :: passed) where
  split := congrArg (s :: ·) h.split
  start := by have := h.start; omega
  clear t ht := by
    rcases List.mem_cons.mp ht with rfl | ht
    · exact .inl h.start
    · exact h.clear t ht
  past t ht := by
    rcases List.mem_cons.mp ht with rfl | ht
    · have := h.start
      have := h.stop
      omega
    · exact h.past t ht
  stop := h.stop
  ahead := h.ahead
  soon := by
    rcases h.soon with now | ⟨t, ht, e⟩
    · exact .inr ⟨s, List.mem_cons_self, now⟩
    · exact .inr ⟨t, List.mem_cons_of_mem s ht, e⟩
  ends := h.ends.imp_right fun ⟨t, ht, e⟩ => ⟨t, List.mem_cons_of_mem s ht, e⟩
  length := h.length.imp_right fun ⟨data, four, cut, guard⟩ => ⟨data, four, cut, List.mem_cons_of_mem s guard⟩
  cost small := by
    have rest := h.cost small
    have waste := waste small
    rw [List.length_cons]
    omega

theorem lay_fit (isData : Bool) (len : Nat) {cursor : Nat} {spans : List Nat} (h : SpansAhead cursor spans) :
    ∃ passed, (lay isData len cursor spans).Fit isData len cursor spans passed := by
  induction spans generalizing cursor with
  | nil =>
    exact ⟨[], rfl, le_rfl, by simp, by simp, le_rfl, by simp [lay], .inl rfl, .inl rfl, .inl rfl, fun _ => le_rfl⟩
  | cons s rest ih =>
    have ahead := h.ahead s List.mem_cons_self
    have further := fun t (ht : t ∈ rest) => h.next.ahead t ht
    unfold lay
    rw [if_neg (by omega)]
    split
    · rename_i fits
      refine ⟨[], rfl, le_rfl, by simp, by simp, le_rfl, fun t ht => ?_, .inl rfl, .inl rfl, .inl rfl, fun _ => le_rfl⟩
      rcases List.mem_cons.mp ht with rfl | ht
      · show cursor + 2 + len + 2 ≤ t
        omega
      · have := further t ht
        show cursor + 2 + len + 2 ≤ t
        omega
    · rename_i crowded
      split
      · rename_i cut
        obtain ⟨data, room⟩ := cut
        have guard : cursor + 2 + (s - 2 - (cursor + 2)) + 2 = s := by omega
        refine ⟨[s], rfl, le_rfl, fun t ht => ?_, fun t ht => ?_, ?_, further, .inl rfl,
          .inr ⟨s, List.mem_cons_self, rfl⟩, .inr ⟨data, ?_, ?_, List.mem_cons.mpr (.inl guard)⟩, fun _ => ?_⟩
        · rw [List.mem_singleton.mp ht]
          exact .inr guard.le
        · rw [List.mem_singleton.mp ht]
        · show cursor + 2 + (s - 2 - (cursor + 2)) ≤ s + 24
          omega
        · show 4 ≤ s - 2 - (cursor + 2)
          omega
        · show s - 2 - (cursor + 2) < len
          omega
        · show s + 24 ≤ cursor + 2 + len + 46
          omega
      · rename_i uncut
        obtain ⟨passed, fit⟩ := ih h.next
        refine ⟨s :: passed, fit.pass ahead fun small => ?_⟩
        rcases small with data | short
        · have : ¬ cursor + 2 + 4 ≤ s - 2 := fun room => uncut ⟨data, room⟩
          omega
        · omega

/-! ### The windows one after another (R73) -/

/-- The space of a grant that is laid among the spans. -/
def Draft.laidSpace (d : Draft) (i : HomeIdx) : Nat :=
  match d.get i with
  | some (.ranging _) => 0
  | _ => d.spaceAt i

/-- What a laid window says of the grant its home holds. -/
def Draft.LaidAs (d : Draft) (spans : List Nat) (x : Grant) : Prop :=
  ∃ g, d.get x.index = some g ∧ (∀ s, g ≠ .ranging s) ∧ x.kind = g.kind
    ∧ (x.length = g.windowLength
      ∨ g.kind = .data ∧ 4 ≤ x.length ∧ x.length < g.windowLength ∧ x.start + x.length + 2 ∈ spans)

/-- Windows laid from a cursor among the spans ahead. -/
structure Draft.Lays (d : Draft) (cursor : Nat) (spans : List Nat) (l : List Grant) : Prop where
  start : ∀ x ∈ l, cursor + 2 ≤ x.start
  clear : ∀ x ∈ l, ∀ s ∈ spans, s + 26 ≤ x.start ∨ x.start + x.length + 2 ≤ s
  gaps : l.Pairwise fun x y => x.start + x.length + 2 ≤ y.start
  soon : ∀ x ∈ l, x.start = cursor + 2 ∨ (∃ s ∈ spans, x.start = s + 26) ∨ ∃ y ∈ l, x.start = y.start + y.length + 2
  held : ∀ x ∈ l, d.LaidAs spans x

theorem PGrant.space_eq (h : ∀ s, g ≠ .ranging s) : g.space = 2 + g.windowLength := by
  rcases g with x | _ | s
  · show 5 + x = 2 + (3 + x)
    omega
  · rfl
  · exact absurd rfl (h s)

theorem PGrant.short_or_data (h : ∀ s, g ≠ .ranging s) : (g.kind == .data) = true ∨ g.windowLength ≤ 19 := by
  rcases g with (_ | x) | _ | s
  · exact .inr (by decide)
  · exact .inl rfl
  · exact .inr le_rfl
  · exact absurd rfl (h s)

theorem Draft.Lays.cons {cursor : Nat} {spans passed : List Nat} {l : List Grant} {w : Laid}
    (held : d.get i = some g) (other : ∀ s, g ≠ .ranging s)
    (fit : w.Fit (g.kind == .data) g.windowLength cursor spans passed) (rest : d.Lays w.cursor w.spans l) :
    d.Lays cursor spans ({ kind := g.kind, index := i, start := w.start, length := w.length } :: l) := by
  have later {s : Nat} (h : s ∈ w.spans) : s ∈ spans := fit.split ▸ List.mem_append_right _ h
  have stop := fit.stop
  have first := fit.start
  refine ⟨fun x hx => ?_, fun x hx s hs => ?_, List.pairwise_cons.mpr ⟨fun x hx => ?_, rest.gaps⟩, fun x hx => ?_,
    fun x hx => ?_⟩
  · rcases List.mem_cons.mp hx with rfl | hx
    · exact first
    · have := rest.start x hx
      omega
  · rw [fit.split] at hs
    rcases List.mem_append.mp hs with hs | hs
    · rcases List.mem_cons.mp hx with rfl | hx
      · exact fit.clear s hs
      · have past := fit.past s hs
        have := rest.start x hx
        exact .inl (by omega)
    · rcases List.mem_cons.mp hx with rfl | hx
      · have := fit.ahead s hs
        exact .inr (by show w.start + w.length + 2 ≤ s; omega)
      · exact rest.clear x hx s hs
  · have := rest.start x hx
    show w.start + w.length + 2 ≤ x.start
    omega
  · rcases List.mem_cons.mp hx with rfl | hx
    · exact fit.soon.imp_right .inl
    · rcases rest.soon x hx with now | ⟨s, hs, e⟩ | ⟨y, hy, e⟩
      · rcases fit.ends with ends | ⟨s, hs, ends⟩
        · exact .inr (.inr ⟨_, List.mem_cons_self, by rw [now, ends]⟩)
        · exact .inr (.inl ⟨s, hs, by rw [now, ends]⟩)
      · exact .inr (.inl ⟨s, later hs, e⟩)
      · exact .inr (.inr ⟨y, List.mem_cons_of_mem _ hy, e⟩)
  · rcases List.mem_cons.mp hx with rfl | hx
    · exact ⟨g, held, other, rfl, fit.length.imp_right fun ⟨data, rest⟩ => ⟨eq_of_beq data, rest⟩⟩
    · obtain ⟨g, holds, ranging, kind, length⟩ := rest.held x hx
      exact ⟨g, holds, ranging, kind, length.imp_right fun ⟨data, four, cut, guard⟩ => ⟨data, four, cut, later guard⟩⟩

theorem Draft.Lays.nil (d : Draft) (cursor : Nat) (spans : List Nat) : d.Lays cursor spans [] :=
  ⟨by simp, by simp, .nil, by simp, by simp⟩

theorem layAll_lays (d : Draft) (l : List HomeIdx) {cursor : Nat} {spans : List Nat} (h : SpansAhead cursor spans) :
    d.Lays cursor spans (layAll d l cursor spans) := by
  induction l generalizing cursor spans with
  | nil => exact .nil ..
  | cons i l ih =>
    unfold layAll
    split
    · exact ih h
    · exact ih h
    · rename_i g other held
      obtain ⟨passed, fit⟩ := lay_fit (g.kind == .data) g.windowLength h
      have apart := h.apart
      rw [fit.split] at apart
      exact .cons held (fun s e => other s e) fit (ih ⟨(List.pairwise_append.mp apart).2.1, fit.ahead⟩)

/-- The windows end within the round where their space, with that of the spans, is no more than the round has. -/
theorem layAll_within (d : Draft) (l : List HomeIdx) {cursor : Nat} {spans : List Nat} (h : SpansAhead cursor spans)
    (room : cursor + (l.map d.laidSpace).sum + 46 * spans.length ≤ 4000) :
    ∀ x ∈ layAll d l cursor spans, x.start + x.length ≤ 4000 := by
  induction l generalizing cursor spans with
  | nil => simp [layAll]
  | cons i l ih =>
    rw [List.map_cons, List.sum_cons] at room
    unfold layAll
    split
    · exact ih h (by omega)
    · exact ih h (by omega)
    · rename_i g other held
      obtain ⟨passed, fit⟩ := lay_fit (g.kind == .data) g.windowLength h
      have apart := h.apart
      have count : spans.length = passed.length + (lay (g.kind == .data) g.windowLength cursor spans).spans.length := by
        rw [← List.length_append, ← fit.split]
      rw [fit.split] at apart
      have space : d.laidSpace i = 2 + g.windowLength := by
        rw [← PGrant.space_eq fun s e => other s e, ← Draft.spaceAt_of_get held]
        unfold Draft.laidSpace
        split
        · rename_i s ranging
          rw [held] at ranging
          exact absurd (Option.some.inj ranging) (other s)
        · rfl
      have cost := fit.cost (PGrant.short_or_data fun s e => other s e)
      have stop := fit.stop
      intro x hx
      rcases List.mem_cons.mp hx with rfl | hx
      · show (lay (g.kind == .data) g.windowLength cursor spans).start +
          (lay (g.kind == .data) g.windowLength cursor spans).length ≤ 4000
        omega
      · exact ih ⟨(List.pairwise_append.mp apart).2.1, fit.ahead⟩ (by omega) x hx

end Sys2Proof.Machine

/-! The layout of a whole map: its spans, its windows and their order (R62, R73; O43). -/

namespace Sys2Proof.Machine

open Sys2Proof

variable {homes : Vector Home 64} {d e : Draft} {i j p : HomeIdx} {g : PGrant} {span : Nat}

/-! ### The ranging spans of a map in ascending order -/

/-- A span takes its place among spans in ascending order. -/
def spanInto (d : Draft) (i : HomeIdx) (acc : List Nat) : List Nat :=
  match d.get i with
  | some (.ranging s) => acc.filter (· < s) ++ s :: acc.filter (fun t => !(t < s))
  | _ => acc

theorem Draft.spans_eq (d : Draft) : d.spans = allIdx.foldr (spanInto d) [] := rfl

theorem spanInto_of_ranging {s : Nat} (h : d.get i = some (.ranging s)) (acc : List Nat) :
    spanInto d i acc = acc.filter (· < s) ++ s :: acc.filter (fun t => !(t < s)) := by
  rw [spanInto, h]

theorem spanInto_of_other (h : ∀ s, d.get i ≠ some (.ranging s)) (acc : List Nat) : spanInto d i acc = acc := by
  unfold spanInto
  split
  · exact absurd ‹_› (h _)
  · rfl

theorem mem_spanInto {s : Nat} {acc : List Nat} : s ∈ spanInto d i acc ↔ d.get i = some (.ranging s) ∨ s ∈ acc := by
  by_cases h : ∃ t, d.get i = some (.ranging t)
  · obtain ⟨t, held⟩ := h
    rw [spanInto_of_ranging held, held]
    simp only [List.mem_append, List.mem_cons, List.mem_filter, decide_eq_true_eq, Bool.not_eq_true',
      decide_eq_false_iff_not, Option.some.injEq, PGrant.ranging.injEq, eq_comm (a := s)]
    tauto
  · have other (t : Nat) : d.get i ≠ some (.ranging t) := fun k => h ⟨t, k⟩
    rw [spanInto_of_other other]
    exact (or_iff_right (other s)).symm

theorem mem_spans {s : Nat} : s ∈ d.spans ↔ ∃ i, d.get i = some (.ranging s) := by
  have among (l : List HomeIdx) : s ∈ l.foldr (spanInto d) [] ↔ ∃ i ∈ l, d.get i = some (.ranging s) := by
    induction l with
    | nil => simp
    | cons i l ih => rw [List.foldr_cons, mem_spanInto, ih, List.exists_mem_cons_iff]
  rw [Draft.spans_eq, among]
  exact exists_congr fun i => and_iff_right (List.mem_finRange i)

theorem spanInto_apart {acc : List Nat} (h : acc.Pairwise fun s t => s + 26 ≤ t)
    (new : ∀ s, d.get i = some (.ranging s) → ∀ t ∈ acc, s + 26 ≤ t ∨ t + 26 ≤ s) :
    (spanInto d i acc).Pairwise fun s t => s + 26 ≤ t := by
  by_cases held : ∃ s, d.get i = some (.ranging s)
  · obtain ⟨s, held⟩ := held
    have new := new s held
    rw [spanInto_of_ranging held]
    have below : ∀ t ∈ acc.filter (· < s), t + 26 ≤ s := fun t ht => by
      obtain ⟨ht, less⟩ := List.mem_filter.mp ht
      have less := of_decide_eq_true less
      have := new t ht
      omega
    have above : ∀ t ∈ acc.filter (fun t => !(t < s)), s + 26 ≤ t := fun t ht => by
      obtain ⟨ht, more⟩ := List.mem_filter.mp ht
      have more : ¬ t < s := by simpa using more
      have := new t ht
      omega
    refine List.pairwise_append.mpr ⟨h.filter _, List.pairwise_cons.mpr ⟨above, h.filter _⟩, fun t ht u hu => ?_⟩
    have := below t ht
    rcases List.mem_cons.mp hu with rfl | hu
    · exact this
    · have := above u hu
      omega
  · rw [spanInto_of_other fun s k => held ⟨s, k⟩]
    exact h

theorem Draft.Sound.spans_apart (h : d.Sound homes span) : d.spans.Pairwise fun s t => s + 26 ≤ t := by
  have among {l : List HomeIdx} (nodup : l.Nodup) : (l.foldr (spanInto d) []).Pairwise (fun s t => s + 26 ≤ t)
      ∧ ∀ s ∈ l.foldr (spanInto d) [], ∃ i ∈ l, d.get i = some (.ranging s) := by
    induction l with
    | nil => exact ⟨.nil, by simp⟩
    | cons i l ih =>
      obtain ⟨absent, nodup⟩ := List.nodup_cons.mp nodup
      obtain ⟨apart, from_l⟩ := ih nodup
      refine ⟨spanInto_apart apart fun s held t ht => ?_, fun s hs => ?_⟩
      · obtain ⟨j, hj, other⟩ := from_l t ht
        exact h.apart i j s t (fun e => absent (e ▸ hj)) held other
      · rcases mem_spanInto.mp hs with held | hs
        · exact ⟨i, List.mem_cons_self, held⟩
        · obtain ⟨j, hj, held⟩ := from_l s hs
          exact ⟨j, List.mem_cons_of_mem i hj, held⟩
  exact (among (List.nodup_finRange 64)).1

/-- The space of a map is that of its windows and of its spans. -/
theorem spans_space (d : Draft) (l : List HomeIdx) :
    (l.map d.laidSpace).sum + 46 * (l.foldr (spanInto d) []).length = (l.map d.spaceAt).sum := by
  induction l with
  | nil => rfl
  | cons i l ih =>
    rw [List.map_cons, List.map_cons, List.sum_cons, List.sum_cons, List.foldr_cons]
    by_cases held : ∃ s, d.get i = some (.ranging s)
    · obtain ⟨s, held⟩ := held
      have split := List.length_eq_length_filter_add (l := l.foldr (spanInto d) []) (· < s)
      have none : d.laidSpace i = 0 := by rw [Draft.laidSpace, held]
      have some : d.spaceAt i = 46 := Draft.spaceAt_of_get held
      rw [spanInto_of_ranging held, List.length_append, List.length_cons, none, some]
      omega
    · have same : d.laidSpace i = d.spaceAt i := by
        unfold Draft.laidSpace
        split
        · exact absurd ⟨_, ‹_›⟩ held
        · rfl
      rw [spanInto_of_other fun s k => held ⟨s, k⟩, same]
      omega

/-! ### The order of the grants -/

/-- A grant that lies apart from every grant of an ordered list takes its place in it. -/
theorem insertGrant_gaps {x : Grant} {l : List Grant} (h : l.Pairwise fun y z => y.start + y.length + 2 ≤ z.start)
    (apart : ∀ y ∈ l, x.start + x.length + 2 ≤ y.start ∨ y.start + y.length + 2 ≤ x.start) :
    (insertGrant x l).Pairwise fun y z => y.start + y.length + 2 ≤ z.start := by
  induction l with
  | nil => exact List.pairwise_singleton _ _
  | cons y l ih =>
    obtain ⟨first, rest⟩ := List.pairwise_cons.mp h
    have place := apart y List.mem_cons_self
    unfold insertGrant
    split
    · refine List.pairwise_cons.mpr ⟨fun z hz => ?_, h⟩
      rcases List.mem_cons.mp hz with rfl | hz
      · omega
      · have := first z hz
        omega
    · refine List.pairwise_cons.mpr ⟨fun z hz => ?_, ih rest fun z hz => apart z (List.mem_cons_of_mem y hz)⟩
      rcases mem_insertGrant.mp hz with rfl | hz
      · omega
      · exact first z hz

/-- A relation that a grant has with every other grant holds in every order. -/
theorem insertGrant_pairwise {R : Grant → Grant → Prop} {x : Grant} {l : List Grant} (h : l.Pairwise R)
    (all : ∀ y, R x y ∧ R y x) : (insertGrant x l).Pairwise R := by
  induction l with
  | nil => exact List.pairwise_singleton _ _
  | cons y l ih =>
    obtain ⟨first, rest⟩ := List.pairwise_cons.mp h
    unfold insertGrant
    split
    · exact List.pairwise_cons.mpr ⟨fun z _ => (all z).1, h⟩
    · refine List.pairwise_cons.mpr ⟨fun z hz => ?_, ih rest⟩
      rcases mem_insertGrant.mp hz with rfl | hz
      · exact (all y).2
      · exact first z hz

end Sys2Proof.Machine

/-! The laid-out map (R62, R73; O43). -/

namespace Sys2Proof.Machine

open Sys2Proof

variable {homes : Vector Home 64} {d e : Draft} {i j p : HomeIdx} {g : PGrant} {span : Nat} {x : Grant}

theorem mem_layout : x ∈ layout d span ↔ x ∈ rangingGrants d ∨ x ∈ layAll d allIdx span d.spans :=
  mem_foldr_insertGrant

/-- The grant of a ranging span. -/
def rangingGrant (i : HomeIdx) (s : Nat) : Grant := { kind := .ranging, index := i, start := s, length := 24 }

theorem rangingGrant_mem {s : Nat} (h : d.get i = some (.ranging s)) : rangingGrant i s ∈ layout d span :=
  mem_layout.mpr (.inl (mem_rangingGrants.mpr ⟨s, h, rfl⟩))

theorem spans_grant {s : Nat} (h : s ∈ d.spans) :
    ∃ r ∈ layout d span, r.kind = .ranging ∧ r.start = s ∧ r.length = 24 := by
  obtain ⟨i, held⟩ := mem_spans.mp h
  exact ⟨rangingGrant i s, rangingGrant_mem held, rfl, rfl, rfl⟩

/-- A grant of a map as its home's grant in the draft says (R62, R72, R73). -/
def PGrant.PlacedAs (grants : List Grant) (x : Grant) : PGrant → Prop
  | .test => x.kind = .test ∧ x.length = 19
  | .ranging s => x.kind = .ranging ∧ x.start = s ∧ x.length = 24
  | .window n =>
    x.kind = (if n = 0 then .poll else .data) ∧ x.length ≤ 3 + n
      ∧ (x.length < 3 + n →
          3 < x.length ∧ ∃ r ∈ grants, r.kind = .ranging ∧ x.start + x.length + 2 = r.start)

theorem PGrant.kind_window (n : Nat) : PGrant.kind (.window n) = if n = 0 then .poll else .data := by
  cases n <;> rfl

/-- The ranging spans of a draft lie behind its reserved span and within the round. -/
def Draft.Reaches (d : Draft) (span : Nat) : Prop :=
  ∀ i s, d.get i = some (.ranging s) → span + 2 ≤ s ∧ s ≤ 3976

section
variable (h : d.Sound homes span) (reach : d.Reaches span)
include h reach

theorem Draft.Sound.spansAhead : SpansAhead span d.spans where
  apart := h.spans_apart
  ahead s hs := by
    obtain ⟨i, held⟩ := mem_spans.mp hs
    exact (reach i s held).1

theorem Draft.Sound.lays : d.Lays span d.spans (layAll d allIdx span d.spans) :=
  layAll_lays d allIdx (h.spansAhead reach)

/-- Each grant of the map is placed as its home's grant says. -/
theorem Draft.Sound.layout_placed (hx : x ∈ layout d span) :
    ∃ g, d.get x.index = some g ∧ g.PlacedAs (layout d span) x := by
  rcases mem_layout.mp hx with ranging | laid
  · obtain ⟨s, held, e⟩ := mem_rangingGrants.mp ranging
    refine ⟨_, held, ?_, ?_, ?_⟩
    · rw [e]
    · rw [e]
    · rw [e]
  · obtain ⟨g, held, other, kind, length⟩ := (h.lays reach).held x laid
    refine ⟨g, held, ?_⟩
    rcases g with n | _ | s
    · refine ⟨kind.trans (PGrant.kind_window n), ?_, fun short => ?_⟩
      · rcases length with whole | ⟨-, -, cut, -⟩
        · exact le_of_eq whole
        · exact le_of_lt cut
      · rcases length with whole | ⟨-, four, -, guard⟩
        · have whole : x.length = 3 + n := whole
          omega
        · obtain ⟨r, hr, ranging, start, -⟩ := spans_grant (span := span) guard
          exact ⟨four, r, hr, ranging, start.symm⟩
    · refine ⟨kind, length.elim id fun ⟨data, _⟩ => ?_⟩
      cases data
    · exact absurd rfl (other s)

/-- Every grant of the draft has its place in the map. -/
theorem Draft.Sound.layout_places (held : d.get i = some g) :
    ∃ x ∈ layout d span, x.index = i ∧ g.PlacedAs (layout d span) x := by
  obtain ⟨x, hx, rfl, -⟩ := layout_complete (span := span) held
  obtain ⟨k, holds, placed⟩ := h.layout_placed reach hx
  cases holds.symm.trans held
  exact ⟨x, hx, rfl, placed⟩

theorem Draft.Sound.layout_bounds (hx : x ∈ layout d span) : span + 2 ≤ x.start ∧ x.start + x.length ≤ 4000 := by
  rcases mem_layout.mp hx with ranging | laid
  · obtain ⟨s, held, e⟩ := mem_rangingGrants.mp ranging
    have := reach _ s held
    rw [e]
    exact ⟨this.1, by show s + 24 ≤ 4000; omega⟩
  · refine ⟨(h.lays reach).start x laid, layAll_within d allIdx (h.spansAhead reach) ?_ x laid⟩
    have space := spans_space d allIdx
    have fits : span + (allIdx.map d.spaceAt).sum ≤ 4000 := h.fits
    rw [← Draft.spans_eq] at space
    generalize (allIdx.map d.spaceAt).sum = used at space fits
    generalize (allIdx.map d.laidSpace).sum = windows at space ⊢
    omega

/-- Each grant ends 2 guard quanta before the next begins. -/
theorem Draft.Sound.layout_gaps : (layout d span).Pairwise fun x y => x.start + x.length + 2 ≤ y.start := by
  have lays := h.lays reach
  have ranging : (rangingGrants d).Pairwise fun x y =>
      x.start + x.length + 2 ≤ y.start ∨ y.start + y.length + 2 ≤ x.start := by
    have distinct := List.pairwise_map.mp ((rangingGrants_indices d).nodup (List.nodup_finRange 64))
    refine distinct.imp_of_mem fun {x y} hx hy ne => ?_
    obtain ⟨s, first, ex⟩ := mem_rangingGrants.mp hx
    obtain ⟨t, second, ey⟩ := mem_rangingGrants.mp hy
    rw [ex, ey]
    exact h.apart x.index y.index s t ne first second
  have windows : ∀ x ∈ rangingGrants d, ∀ y ∈ layAll d allIdx span d.spans,
      x.start + x.length + 2 ≤ y.start ∨ y.start + y.length + 2 ≤ x.start := fun x hx y hy => by
    obtain ⟨s, held, e⟩ := mem_rangingGrants.mp hx
    rw [e]
    exact lays.clear y hy s (mem_spans.mpr ⟨x.index, held⟩)
  unfold layout
  generalize rangingGrants d = l at ranging windows
  induction l with
  | nil => exact lays.gaps
  | cons x l ih =>
    obtain ⟨first, rest⟩ := List.pairwise_cons.mp ranging
    refine insertGrant_gaps (ih rest fun y hy => windows y (List.mem_cons_of_mem x hy)) fun y hy => ?_
    rcases mem_foldr_insertGrant.mp hy with hy | hy
    · exact first y hy
    · exact windows x List.mem_cons_self y hy

/-- Each window begins as soon as the reserved span, a window or a ranging span before it ends. -/
theorem Draft.Sound.layout_soon (hx : x ∈ layout d span) (window : x.kind ≠ .ranging) :
    x.start = span + 2 ∨ ∃ y ∈ layout d span, x.start = y.start + y.length + 2 := by
  rcases mem_layout.mp hx with ranging | laid
  · obtain ⟨s, -, e⟩ := mem_rangingGrants.mp ranging
    exact absurd (by rw [e]) window
  · refine ((h.lays reach).soon x laid).imp_right fun later => ?_
    rcases later with ⟨s, hs, e⟩ | ⟨y, hy, e⟩
    · obtain ⟨r, hr, -, start, length⟩ := spans_grant (span := span) hs
      exact ⟨r, hr, by omega⟩
    · exact ⟨y, mem_layout.mpr (.inr hy), e⟩

end

/-- The windows lie in ascending index. -/
theorem layout_ascending (d : Draft) (span : Nat) :
    (layout d span).Pairwise fun x y => x.kind = .ranging ∨ y.kind = .ranging ∨ x.index < y.index := by
  have windows : (layAll d allIdx span d.spans).Pairwise fun x y =>
      x.kind = .ranging ∨ y.kind = .ranging ∨ x.index < y.index := by
    have order := (List.pairwise_lt_finRange 64).sublist (layAll_indices d allIdx span d.spans)
    exact (List.pairwise_map.mp order).imp fun less => .inr (.inr less)
  have ranging : ∀ x ∈ rangingGrants d, x.kind = .ranging := fun x hx => by
    obtain ⟨s, -, e⟩ := mem_rangingGrants.mp hx
    rw [e]
  unfold layout
  generalize rangingGrants d = l at ranging
  induction l with
  | nil => exact windows
  | cons x l ih =>
    have mine := ranging x List.mem_cons_self
    exact insertGrant_pairwise (ih fun y hy => ranging y (List.mem_cons_of_mem x hy))
      fun y => ⟨.inl mine, .inr (.inl mine)⟩

/-! ### What the requests of a home ask for (R69) -/

theorem testRequest_iff {h : Home} (asks : testRequest h = true) :
    h.entry.state = .testing ∧ (∃ q, h.progress = some q ∧ q.stage = .testDue)
      ∨ h.entry.state = .active ∧ h.entry.probe = false ∧ h.retest = .asked := by
  unfold testRequest at asks
  split at asks
  · obtain ⟨q, hq, stage⟩ := Option.any_eq_true _ _ |>.mp asks
    exact .inl ⟨‹_›, q, hq, eq_of_beq stage⟩
  · obtain ⟨asked, probe⟩ := Bool.and_eq_true_iff.mp asks
    exact .inr ⟨‹_›, by simpa using probe, eq_of_beq asked⟩
  · cases asks

theorem rangingRequest_of_some {h : Home} {c : Nat} (asks : rangingRequest h = some c) :
    h.entry.state = .ranging ∧ (∃ q, h.progress = some q ∧ q.stage = .spanDue ∧ q.coarse = c)
      ∨ h.entry.state = .active ∧ h.entry.probe = false ∧ h.inPlace = .asked c := by
  unfold rangingRequest at asks
  split at asks
  · split at asks
    · rename_i q hq
      split at asks
      · cases asks
        exact .inl ⟨‹_›, q, hq, ‹_›, rfl⟩
      · cases asks
    · cases asks
  · split at asks
    · rename_i c hc
      split at asks
      · cases asks
      · rename_i probe
        cases asks
        exact .inr ⟨‹_›, Bool.eq_false_iff.mpr probe, hc⟩
    · cases asks
  · cases asks

end Sys2Proof.Machine

/-! The law of the talk map (chapter 4; O43). -/

namespace Sys2Proof.Machine

open Sys2Proof

variable {homes : Vector Home 64} {i p : HomeIdx} {g : PGrant} {x : Grant} {l : List Grant}
  {sp : Option (SpanKind × Nat)}

/-! ### A placed grant by its kind -/

theorem PGrant.PlacedAs.of_data (h : g.PlacedAs l x) (data : x.kind = .data) :
    ∃ n, g = .window (n + 1) ∧ 4 ≤ x.length ∧ x.length ≤ 3 + (n + 1) := by
  rcases g with (_ | n) | _ | s
  · obtain ⟨kind, -⟩ := h
    rw [data] at kind
    cases kind
  · obtain ⟨-, long, cut⟩ := h
    exact ⟨n, rfl, by by_contra short; have := (cut (by omega)).1; omega, long⟩
  · obtain ⟨kind, -⟩ := h
    rw [data] at kind
    cases kind
  · obtain ⟨kind, -⟩ := h
    rw [data] at kind
    cases kind

theorem PGrant.PlacedAs.of_poll (h : g.PlacedAs l x) (poll : x.kind = .poll) : g = .window 0 ∧ x.length = 3 := by
  rcases g with (_ | n) | _ | s
  · obtain ⟨-, long, cut⟩ := h
    exact ⟨rfl, by by_contra short; have := (cut (by omega)).1; omega⟩
  · obtain ⟨kind, -⟩ := h
    rw [poll] at kind
    cases kind
  · obtain ⟨kind, -⟩ := h
    rw [poll] at kind
    cases kind
  · obtain ⟨kind, -⟩ := h
    rw [poll] at kind
    cases kind

theorem PGrant.PlacedAs.of_test (h : g.PlacedAs l x) (test : x.kind = .test) : g = .test ∧ x.length = 19 := by
  rcases g with (_ | n) | _ | s
  · obtain ⟨kind, -⟩ := h
    rw [test] at kind
    cases kind
  · obtain ⟨kind, -⟩ := h
    rw [test] at kind
    cases kind
  · exact ⟨rfl, h.2⟩
  · obtain ⟨kind, -⟩ := h
    rw [test] at kind
    cases kind

theorem PGrant.PlacedAs.of_ranging (h : g.PlacedAs l x) (ranging : x.kind = .ranging) :
    g = .ranging x.start ∧ x.length = 24 := by
  rcases g with (_ | n) | _ | s
  · obtain ⟨kind, -⟩ := h
    rw [ranging] at kind
    cases kind
  · obtain ⟨kind, -⟩ := h
    rw [ranging] at kind
    cases kind
  · obtain ⟨kind, -⟩ := h
    rw [ranging] at kind
    cases kind
  · obtain ⟨-, start, length⟩ := h
    exact ⟨by rw [start], length⟩

/-! ### The filled map -/

theorem fillMap_reserved_get (hs : (sp.map (·.2)).getD 0 ≤ 3238) (reserved : sp ≠ none) (i : HomeIdx) :
    (fillMap homes p sp).1.get i = if (homes[i.val]).entry.presses then some (.window 0) else none := by
  cases sp with
  | none => exact absurd rfl reserved
  | some sp => exact pollsOf_get hs i

theorem fillMap_reserved_holds (hs : (sp.map (·.2)).getD 0 ≤ 3238) (reserved : sp ≠ none)
    (held : (fillMap homes p sp).1.get i = some g) : g = .window 0 ∧ (homes[i.val]).entry.presses = true := by
  rw [fillMap_reserved_get hs reserved] at held
  split at held
  · exact ⟨(Option.some.inj held).symm, ‹_›⟩
  · cases held

/-- A home that has to be polled holds a grant. -/
theorem fillMap_presses (hs : (sp.map (·.2)).getD 0 ≤ 3238) (presses : (homes[i.val]).entry.presses = true) :
    ((fillMap homes p sp).1.get i).isSome := by
  cases sp with
  | some sp =>
    rw [fillMap_reserved_get hs (by simp), presses]
    rfl
  | none =>
    have polled : ((pollsOf homes 0).get i).isSome := ((pollsOf_spec (Nat.zero_le _)).2 i).trans presses
    have later : Draft.Fills (admits homes) (pollsOf homes 0) (fillMap homes p none).1 :=
      (Draft.Fills.foldl stepEnrol_fills allIdx _).trans <| (Draft.Fills.foldl stepGuaranteed_fills allIdx _).trans <|
        (distribute_fills p _ _ none).trans (Draft.Fills.foldl stepOptional_fills allIdx _)
    exact later.isSome polled

theorem fillMap_reaches (hs : (sp.map (·.2)).getD 0 ≤ 3238) :
    (fillMap homes p sp).1.Reaches ((sp.map (·.2)).getD 0) := by
  intro i s held
  by_cases normal : sp = none
  · subst normal
    obtain ⟨c, -, rfl⟩ := (fillMap_sound homes p hs).lawful i _ held
    show 0 + 2 ≤ min 3976 (max 2 (c - 10)) ∧ min 3976 (max 2 (c - 10)) ≤ 3976
    omega
  · cases (fillMap_reserved_holds hs normal held).1

/-- Settles O43: the contents by `fillMap_fillsNormal`, what each grant may be by `fillMap_sound`, the places by
`layout_placed`, `layout_gaps`, `layout_bounds` and `layout_soon`. -/
theorem talkMapKeepsItsLaw : Obligations.TalkMapKeepsItsLaw := by
  intro homes p span kinds map home entry first pressing
  have hs : (span.map (·.2)).getD 0 ≤ 3238 := by
    rcases kinds with rfl | rfl | ⟨n, hn, rfl⟩
    · exact Nat.zero_le _
    · show 400 ≤ 3238
      omega
    · exact hn
  have sound := fillMap_sound homes p hs
  have reach := fillMap_reaches (homes := homes) (p := p) hs
  have presses (i : HomeIdx) : (entry i).presses = true ↔ pressing i := Entry.presses_iff
  have normal {i : HomeIdx} {g : PGrant} (held : (fillMap homes p span).1.get i = some g) (other : g ≠ .window 0) :
      span = none := by
    by_contra reserved
    exact other (fillMap_reserved_holds hs reserved held).1
  refine ⟨rfl, ?_, layout_nodup _ _, sound.layout_gaps reach, fun g hg => sound.layout_bounds reach hg,
    fun g hg kind => ?_, fun g hg kind => ?_, fun g hg kind => ?_, fun g hg kind => ?_, fun i pressed => ?_,
    fun reserved => ⟨fun g hg => ?_, ?_⟩, ⟨(fillMap homes p span).1.get, fun reserved i => ?_, fun none => ?_,
      fun i absent g hg e => ?_, fun i c held => ?_⟩, layout_ascending _ _,
    fun g hg window => sound.layout_soon reach hg window⟩
  · have few := List.Nodup.length_le_card (layout_nodup (fillMap homes p span).1 ((span.map (·.2)).getD 0))
    rw [List.length_map, Fintype.card_fin] at few
    exact few.trans (by omega)
  · obtain ⟨k, held, placed⟩ := sound.layout_placed reach hg
    obtain ⟨n, rfl, four, long⟩ := placed.of_data kind
    obtain ⟨dataable, backlog⟩ := sound.lawful _ _ held
    obtain ⟨state, probe⟩ := Entry.dataable_iff.mp dataable
    exact ⟨state, probe, normal held (by simp), four, (by omega : g.length - 3 ≤ n + 1).trans backlog⟩
  · obtain ⟨k, held, placed⟩ := sound.layout_placed reach hg
    obtain ⟨rfl, length⟩ := placed.of_poll kind
    obtain ⟨pollable, balance⟩ := sound.lawful _ _ held
    obtain ⟨state, probe⟩ := Entry.pollable_iff.mp pollable
    exact ⟨state, probe, balance, length⟩
  · obtain ⟨k, held, placed⟩ := sound.layout_placed reach hg
    obtain ⟨rfl, length⟩ := placed.of_test kind
    exact ⟨normal held (by simp), length, testRequest_iff (sound.lawful _ _ held)⟩
  · obtain ⟨k, held, placed⟩ := sound.layout_placed reach hg
    obtain ⟨rfl, length⟩ := placed.of_ranging kind
    obtain ⟨c, asks, start⟩ := sound.lawful _ _ held
    refine ⟨normal held (by simp), length, (rangingRequest_of_some asks).imp ?_ ?_⟩
    · rintro ⟨state, q, hq, stage, rfl⟩
      exact ⟨state, q, hq, stage, start⟩
    · rintro ⟨state, probe, asked⟩
      exact ⟨state, probe, c, asked, start⟩
  · obtain ⟨g, held⟩ := Option.isSome_iff_exists.mp (fillMap_presses (p := p) hs ((presses i).mpr pressed))
    obtain ⟨x, hx, index, -⟩ := sound.layout_places reach held
    exact ⟨x, hx, index⟩
  · obtain ⟨k, held, -⟩ := sound.layout_placed reach hg
    exact (presses _).mp (fillMap_reserved_holds hs reserved held).2
  · cases span with
    | none => exact absurd rfl reserved
    | some sp => rfl
  · rw [fillMap_reserved_get hs reserved]
    exact ⟨fun pressed => if_pos ((presses i).mpr pressed), fun idle => if_neg (mt (presses i).mp idle)⟩
  · subst none
    refine ⟨(pollsOf homes 0).get, fun i => ?_, fillMap_fillsNormal homes p⟩
    rw [pollsOf_get (Nat.zero_le _)]
    exact ⟨fun pressed => if_pos ((presses i).mpr pressed), fun idle => if_neg (mt (presses i).mp idle)⟩
  · obtain ⟨k, held, -⟩ := sound.layout_placed reach hg
    rw [e, absent] at held
    cases held
  · obtain ⟨x, hx, index, placed⟩ := sound.layout_places reach held
    refine ⟨x, hx, index, ?_⟩
    rcases c with n | _ | s
    · exact placed
    · exact placed.1
    · exact ⟨placed.1, placed.2.1⟩

end Sys2Proof.Machine
